-- ==== Sys2Proof/Word.lean ====
section
/-!
DEFINITION. The word type of the Elpinar ER24: its interfaces move bytes (R155, R180).
-/

namespace Sys2Proof

/-- One byte of a frame, an image or a response. -/
abbrev Byte := BitVec 8

end Sys2Proof
end

