-- ==== Sys2Proof/Config.lean ====
section
/-!
DEFINITION. What the ER24 fixes: the sizes of its tables, the lengths of its fixed timers in microseconds,
and the one value that the manual leaves unstated.
-/

namespace Sys2Proof

/-- The Record Store holds one record for each handle from 0 to 4095 (R1). -/
abbrev Config.handleCount : Nat := 4096

/-- Span delays are held for 24 span numbers (R31). -/
abbrev Config.delayCount : Nat := 24

/-- The Connection Map has 512 entries (R120). -/
abbrev Config.entryCount : Nat := 512

/-- Each span carries 64 protection slots (00, Slots). -/
abbrev Config.protSlots : Nat := 64

/-- The join timer: 2 s (R32). -/
abbrev Config.joinTime : Nat := 2000000

/-- The silence timer: 50 ms (R42). -/
abbrev Config.silenceTime : Nat := 50000

/-- The lock window timer: 4 ms (R58). -/
abbrev Config.lockWindowTime : Nat := 4000

/-- The adjacency timer: 50 ms (R64). -/
abbrev Config.adjacencyTime : Nat := 50000

/-- The Greeting timer: 10 ms (R60). -/
abbrev Config.greetingTime : Nat := 10000

/-- The response timer of the Fabric Link: 2 ms (R126). -/
abbrev Config.responseTime : Nat := 2000

/-- Good frames in a row that gain lock (R58). -/
abbrev Config.lockRun : Nat := 8

/-- Bad frames in a row that lose lock (R58). -/
abbrev Config.unlockRun : Nat := 4

/-- Messages a Path Confirm queue holds (R69). -/
abbrev Config.queueLimit : Nat := 16

/-- Span Reports a due Greeting may wait behind (R70). -/
abbrev Config.reportsBeforeGreeting : Nat := 48

/-- Attempts in one run of sending (R147). -/
abbrev Config.maxAttempts : Nat := 8

/-- Sweeps that may be abandoned in a row (R114). -/
abbrev Config.abandonLimit : Nat := 4

/-- The greatest value of a degrade integrator (R48). -/
abbrev Config.integratorMax : Nat := 16777215

/-- Microseconds in a millisecond. -/
abbrev Config.ms : Nat := 1000

/-- Microseconds in a second. -/
abbrev Config.sec : Nat := 1000000

/-- FREE VALUE (DESIGN CHOICE, entry 12): the byte that Read Lane sends for the current cause of a Line Monitor
with no defect present. R178 codes the cause of a defect and no rule says what stands there without one. -/
opaque Config.noDefectCauseByte : Byte

end Sys2Proof
end

