-- ==== Sys2Proof/Machine/Bytes.lean ====
section
/-!
DEFINITION. Bytes of numbers, most significant byte first (00, 11), and the two check sequences of R177.
-/

namespace Sys2Proof.Machine

/-- One byte. -/
def be1 (n : Nat) : List Byte := [BitVec.ofNat 8 n]

/-- Two bytes, most significant first. -/
def be2 (n : Nat) : List Byte := [BitVec.ofNat 8 (n / 256), BitVec.ofNat 8 n]

/-- Three bytes, most significant first. -/
def be3 (n : Nat) : List Byte := BitVec.ofNat 8 (n / 65536) :: be2 n

/-- Four bytes, most significant first. -/
def be4 (n : Nat) : List Byte := BitVec.ofNat 8 (n / 16777216) :: be3 n

/-- The number that two bytes hold. -/
def de2 (a b : Byte) : Nat := a.toNat * 256 + b.toNat

/-- The number that three bytes hold. -/
def de3 (a b c : Byte) : Nat := de2 a b * 256 + c.toNat

/-- The number that four bytes hold. -/
def de4 (a b c d : Byte) : Nat := de3 a b c * 256 + d.toNat

/-- A flag as a byte: 1 for set (R179). -/
def flagByte (b : Bool) : List Byte := [if b then 1 else 0]

/-- An absent field of `n` bytes: 0xFF in each (R179). -/
def absent (n : Nat) : List Byte := List.replicate n 0xFF#8

/-- A time left on a timer: 4 bytes of microseconds, 0xFFFFFFFF when stopped (R179). -/
def timeBytes : Option Nat → List Byte
  | none => absent 4
  | some t => be4 t

/-- The bits of a byte, bit 7 first. -/
def byteBits (b : Byte) : List Bool :=
  [b.getLsbD 7, b.getLsbD 6, b.getLsbD 5, b.getLsbD 4, b.getLsbD 3, b.getLsbD 2, b.getLsbD 1, b.getLsbD 0]

/-- One bit into a check register, without reflection (R177). -/
def crcBit {w : Nat} (poly crc : BitVec w) (bit : Bool) : BitVec w :=
  if crc.msb != bit then (crc <<< 1) ^^^ poly else crc <<< 1

/-- A run of bytes into a check register. -/
def crcBytes {w : Nat} (poly init : BitVec w) (bytes : List Byte) : BitVec w :=
  bytes.foldl (fun crc b => (byteBits b).foldl (crcBit poly) crc) init

/-- The CRC-16 of R177. -/
def crc16 (bytes : List Byte) : BitVec 16 := crcBytes 0x1021#16 0xFFFF#16 bytes

/-- The CRC-32 of R177. -/
def crc32 (bytes : List Byte) : BitVec 32 := ~~~ (crcBytes 0x04C11DB7#32 0xFFFFFFFF#32 bytes)

/-- A frame closed by its CRC-16, the last two bytes (R177). -/
def closeFrame (body : List Byte) : List Byte := body ++ be2 (crc16 body).toNat

/-- The last two bytes of a frame are the CRC-16 of those before them (R177). -/
def crcOk (frame : List Byte) : Bool :=
  decide (2 ≤ frame.length) &&
    decide (frame.drop (frame.length - 2) = be2 (crc16 (frame.take (frame.length - 2))).toNat)

end Sys2Proof.Machine
end

