-- ==== Sys2Proof/Machine/Table.lean ====
section
/-!
DEFINITION. Sparse tables and ordered sets of numbers: the one form in which the model holds the block's tables.

A table is a list of (number, value) with rising numbers that lists no value equal to the one an unlisted number
reads as, so that equal tables are equal data (entry 22). A set is a strictly rising list.
-/

namespace Sys2Proof.Machine

/-- A sparse table of values by number. -/
abbrev Table (α : Type) := List (Nat × α)

/-- The value at number `k`; an unlisted number reads as `d`. -/
def Table.get {α : Type} (d : α) : Table α → Nat → α
  | [], _ => d
  | (k', v) :: t, k => if k' = k then v else Table.get d t k

/-- Drop number `k`. -/
def Table.erase {α : Type} : Table α → Nat → Table α
  | [], _ => []
  | (k', v) :: t, k => if k' = k then Table.erase t k else (k', v) :: Table.erase t k

/-- List value `v` at number `k`, in its place by number. -/
def Table.insert {α : Type} : Table α → Nat → α → Table α
  | [], k, v => [(k, v)]
  | (k', v') :: t, k, v =>
    if k < k' then (k, v) :: (k', v') :: t
    else if k = k' then (k, v) :: t
    else (k', v') :: Table.insert t k v

/-- Write value `v` at number `k`, keeping the canonical form. -/
def Table.set {α : Type} [DecidableEq α] (d : α) (t : Table α) (k : Nat) (v : α) : Table α :=
  if v = d then Table.erase t k else Table.insert t k v

/-- The table whose value at each number below `n` is `f` of it. -/
def Table.ofFun {α : Type} [DecidableEq α] (d : α) (n : Nat) (f : Nat → α) : Table α :=
  (List.range n).filterMap fun k => if f k = d then none else some (k, f k)

/-- Change every listed value by `f`, dropping what becomes the unlisted value. -/
def Table.mapValues {α : Type} [DecidableEq α] (d : α) (f : Nat → α → α) (t : Table α) : Table α :=
  t.filterMap fun e => if f e.1 e.2 = d then none else some (e.1, f e.1 e.2)

/-- The listed numbers. -/
def Table.keys {α : Type} (t : Table α) : List Nat := t.map Prod.fst

/-- Strictly rising. -/
def rising : List Nat → Bool
  | [] => true
  | [_] => true
  | a :: b :: l => decide (a < b) && rising (b :: l)

/-- The canonical form of a table (entry 22). -/
def Table.wf {α : Type} [DecidableEq α] (d : α) (t : Table α) : Bool :=
  rising (Table.keys t) && t.all fun e => decide (e.2 ≠ d)

/-- Add `k` to a set. -/
def setInsert : List Nat → Nat → List Nat
  | [], k => [k]
  | a :: l, k => if k < a then k :: a :: l else if k = a then a :: l else a :: setInsert l k

/-- Take `k` out of a set. -/
def setErase (l : List Nat) (k : Nat) : List Nat := l.filter fun a => decide (a ≠ k)

end Sys2Proof.Machine
end

