-- ==== Sys2Proof/Syntax.lean ====
section
/-!
DEFINITION. The commands of the ER24: one constructor of `Instr` for each row of spec/opcode_table.json, with the
operands that the event or request carries, and the enumerations that the frames carry.

An operand is a plain number where the rule checks its range when the command is taken, and a bit vector where
the width of its field is its range.
-/

namespace Sys2Proof

/-- The two sides of a node (00, Sides). -/
inductive Side where
  | east
  | west
  deriving DecidableEq, Repr

/-- The other side of the same node. -/
def Side.other : Side → Side
  | .east => .west
  | .west => .east

/-- The node state (02, 2.4). -/
inductive NodeState where
  | configuring
  | joining
  | syncing
  | running
  deriving DecidableEq, Repr

/-- The state of an end report (R78). -/
inductive ReportState where
  | clear
  | degraded
  | waiting
  | forcedOut
  | failed
  deriving DecidableEq, Repr

/-- The cause of an end report (R78). -/
inductive ReportCause where
  | none
  | degrade
  | recovery
  | forced
  | halted
  | lineFail
  | signallingLoss
  | misconnection
  | neighbourSilent
  deriving DecidableEq, Repr

/-- The two ends of a span (00, Span ends and keys). -/
inductive SpanEnd where
  | lower
  | upper
  deriving DecidableEq, Repr

/-- The fields of a Greeting (R60). -/
structure Greeting where
  ringId : Nat
  sender : Nat
  senderSide : Side
  ringSize : Nat
  digest : BitVec 32
  nodeState : NodeState
  heard : Bool
  mapSent : Bool
  deriving DecidableEq, Repr

/-- The fields of a Span Report (R56). -/
structure SpanReport where
  span : Nat
  spanEnd : SpanEnd
  state : ReportState
  cause : ReportCause
  epoch : BitVec 16
  deriving DecidableEq, Repr

/-- The fields of a Path Confirm (R141). -/
structure PathConfirm where
  handle : Nat
  check : BitVec 16
  sender : Nat
  target : Nat
  heard : Bool
  hops : BitVec 8
  deriving DecidableEq, Repr

/-- A stage image as the host sends it (R178): `kind` is the two-bit kind field, and 0 in `protSlot`, `prio`
or `ceiling` is how an absent value is written (R2). -/
structure StageImage where
  handle : Nat
  circuit : Nat
  kind : Nat
  dir : Side
  lockout : Bool
  endA : Nat
  endB : Nat
  workSlot : Nat
  protSlot : Nat
  prio : Nat
  ceiling : Nat
  port : Byte
  portPresent : Bool
  deriving DecidableEq, Repr

/-- The commands. The requests of R162 to R167 carry the tag of their frame first. -/
inductive Instr where
  /-- FULL_RESET: power-on or RESET_N (R36). -/
  | fullReset
  /-- LINE_FAIL: the Line Fail level of a side becomes `active` (R39). -/
  | lineFail (side : Side) (active : Bool)
  /-- BLOCK_COUNT_REPORT: a report with its count E, or `none` where it is malformed (R40). -/
  | blockCountReport (side : Side) (report : Option (BitVec 16))
  /-- HOLD_OFF_TIMER_EXPIRY (R45). -/
  | holdOffTimerExpiry (side : Side)
  /-- WTR_TIMER_EXPIRY (R47). -/
  | wtrTimerExpiry (side : Side)
  /-- SILENCE_TIMER_EXPIRY (R42). -/
  | silenceTimerExpiry (side : Side)
  /-- FRAME_SLOT: the start of a 125 µs slot on both lanes (R70). -/
  | frameSlot
  /-- LANE_BAD_FRAME (R58). -/
  | laneBadFrame (side : Side)
  /-- FILL: a good Fill frame (R57). -/
  | fill (side : Side)
  /-- GREETING: a good Greeting frame (R62). -/
  | greeting (side : Side) (g : Greeting)
  /-- SPAN_REPORT: a good Span Report frame (R71). -/
  | spanReport (side : Side) (r : SpanReport)
  /-- PATH_CONFIRM: a good Path Confirm frame (R75). -/
  | pathConfirm (side : Side) (p : PathConfirm)
  /-- LOCK_WINDOW_TIMER_EXPIRY (R58). -/
  | lockWindowTimerExpiry (side : Side)
  /-- ADJACENCY_TIMER_EXPIRY (R64). -/
  | adjacencyTimerExpiry (side : Side)
  /-- GREETING_TIMER_EXPIRY (R60). -/
  | greetingTimerExpiry (side : Side)
  /-- JOIN_TIMER_EXPIRY (R32). -/
  | joinTimerExpiry
  /-- GATHER_HANDLE: Gathering looks at one handle (R96). -/
  | gatherHandle
  /-- CLASS_PASS_ENTRY: a class pass treats one candidate (R104). -/
  | classPassEntry
  /-- EXTRA_PASS_ENTRY: the Extra pass treats one entry (R106). -/
  | extraPassEntry
  /-- SWEEP_COMMIT (R107). -/
  | sweepCommit
  /-- DONE: a Done frame on the Fabric Link (R128). -/
  | fabricDone (tag : Byte) (priorDiffered : Bool)
  /-- REFUSED: a Refused frame on the Fabric Link (R130). -/
  | fabricRefused (tag : Byte)
  /-- FABRIC_LINK_DISCARD: a frame that R127 discards for its form. -/
  | fabricLinkDiscard
  /-- RESPONSE_TIMER_EXPIRY (R131). -/
  | responseTimerExpiry
  /-- REASSERTION_TIMER_EXPIRY (R133). -/
  | reassertionTimerExpiry
  /-- CONFIRM_TIMER_EXPIRY: the confirm timer of one record (R147). -/
  | confirmTimerExpiry (handle : Nat)
  /-- READ_TRANSACTION: `bits` bits are clocked out after the opening byte (R159). -/
  | readTransaction (bits : Nat)
  /-- REQUEST_DISCARDED: a request transaction ends while the port is Working (R158). -/
  | requestDiscarded
  /-- BAD_FRAME: a request transaction whose frame fails check 1 or 3 of R157, as the bytes clocked. -/
  | badFrame (clocked : List Byte)
  /-- UNKNOWN_COMMAND: a request transaction whose frame fails check 2 of R157, as the bytes clocked. -/
  | unknownCommand (clocked : List Byte)
  /-- RESPONSE_PLACED (R156). -/
  | responsePlaced
  | start (tag : Byte)
  | stop (tag : Byte)
  | softReset (tag : Byte)
  | setRing (tag : Byte) (ringId ringSize own : Nat)
  | setTimers (tag : Byte) (holdOff wtr confirmInterval reassertInterval cadence : Nat)
  | setDegrade (tag : Byte) (side : Nat) (leak : BitVec 16) (declare clear : BitVec 24)
  | setSpanDelay (tag : Byte) (span : Nat) (delay : BitVec 16)
  | readNode (tag : Byte)
  | stageRecord (tag : Byte) (handle : Nat) (image : StageImage)
  | amendRecord (tag : Byte) (handle : Nat) (image : StageImage)
  | activateRecord (tag : Byte) (handle : Nat)
  | retireRecord (tag : Byte) (handle : Nat)
  | discardRecord (tag : Byte) (handle : Nat)
  | readRecord (tag : Byte) (handle : Nat)
  | findCircuit (tag : Byte) (circuit : Nat)
  | nextChanged (tag : Byte)
  | streamBegin (tag : Byte) (first count : Nat) (activate : Bool)
  | streamChunk (tag : Byte) (images : List StageImage)
  | streamStatus (tag : Byte)
  | streamAbort (tag : Byte)
  | forceSpan (tag : Byte) (side : Nat)
  | releaseSpan (tag : Byte) (side : Nat)
  | readSpanMap (tag : Byte)
  | readLane (tag : Byte) (side : Nat)
  | readSlotGrants (tag : Byte) (span : Nat)
  | readConnections (tag : Byte) (first count : Nat)
  | readSummary (tag : Byte)
  | acknowledgeCause (tag : Byte) (cause : Nat)
  | setAttentionMask (tag : Byte) (enables : Byte)
  /-- DISCARDED_GOOD_FRAME: a good lane frame of unknown type or with a field out of range (R57). -/
  | discardedGoodFrame (side : Side)
  deriving DecidableEq, Repr

end Sys2Proof
end

