-- ==== Sys2Proof/Machine/State.lean ====
section
/-!
DEFINITION. The state of the ER24 as plain data: every register, table, set, queue, counter, timer, mode and pin that
spec/ gives the block (INVENTORY.md, "State"), and the queue of commands that wait.

A timer is `none` when stopped and otherwise the microseconds left (entry 2). Each state value stands once: what the
manual also names but what follows from another field (current cause, dirty set, changed flag, composed report,
Node Control's copy of resync done) is a function in the Machine files (entry 16).
-/

namespace Sys2Proof.Machine

/-! ### Records (01) -/

/-- Kind of a record (R1). -/
inductive Kind where
  | prot
  | unprot
  | extra
  deriving DecidableEq, Repr

/-- Lifecycle of a record (R4). -/
inductive Lifecycle where
  | free
  | staged
  | active
  | retiring
  deriving DecidableEq, Repr

/-- Committed outcome (R4). -/
inductive Outcome where
  | unplanned
  | working
  | detour
  | suppressed
  | riding
  | preempted
  deriving DecidableEq, Repr

/-- Committed reason (R4). -/
inductive Reason where
  | none
  | noRoute
  | overDelay
  | outbid
  | lockedOut
  | unprotected
  | outranked
  | arcLost
  deriving DecidableEq, Repr

/-- Connection status (R132). -/
inductive ConnStatus where
  | none
  | applying
  | settled
  | fault
  deriving DecidableEq, Repr

/-- Confirm state (08). -/
inductive ConfirmState where
  | none
  | pending
  | awaiting
  | restored
  | unconfirmed
  deriving DecidableEq, Repr

/-- The planning fields of a record (R1). -/
structure Planning where
  circuit : Nat
  kind : Kind
  endA : Nat
  endB : Nat
  dir : Side
  workSlot : Nat
  protSlot : Option Nat
  prio : Option Nat
  ceiling : Option Nat
  lockout : Bool
  deriving DecidableEq, Repr

/-- The planning fields a Free record reads as (R1). -/
def Planning.cleared : Planning :=
  { circuit := 0, kind := .prot, endA := 0, endB := 0, dir := .east, workSlot := 0, protSlot := none, prio := none,
    ceiling := none, lockout := false }

/-- The Confirmation Unit's state for one record (08). -/
structure Exchange where
  state : ConfirmState
  heardTheirs : Bool
  theyHeardMine : Bool
  attempts : Nat
  sending : Bool
  timer : Option Nat
  deriving DecidableEq, Repr

/-- An exchange of a record that is not on a detour here (R154). -/
def Exchange.idle : Exchange :=
  { state := .none, heardTheirs := false, theyHeardMine := false, attempts := 0, sending := false, timer := none }

/-- A record (R1, R3, R4). -/
structure Record where
  lifecycle : Lifecycle
  plan : Planning
  port : Option Byte
  code : BitVec 32
  outcome : Outcome
  reason : Reason
  conn : ConnStatus
  exchange : Exchange
  deriving DecidableEq, Repr

/-- A Free record (R4, R25). -/
def Record.free : Record :=
  { lifecycle := .free, plan := Planning.cleared, port := none, code := 0, outcome := .unplanned, reason := .none,
    conn := .none, exchange := Exchange.idle }

/-- Stream state (R21). -/
inductive StreamState where
  | closed
  | opened
  | complete
  | halted
  deriving DecidableEq, Repr

/-- Reason of a halted Stream (R21). -/
inductive HaltReason where
  | wrongState
  | invalidField
  | labelClash
  | activateRefused
  deriving DecidableEq, Repr

/-- Statuses of a response (R161). -/
inductive Status where
  | ok
  | clamped
  | badFrame
  | unknownCommand
  | badHandle
  | wrongState
  | invalidField
  | slotClash
  | portClash
  | labelClash
  | notFound
  | streamState
  | notReady
  deriving DecidableEq, Repr

/-- The halt record of the Stream (R21). -/
structure HaltRecord where
  handle : Nat
  reason : HaltReason
  status : Option Status
  deriving DecidableEq, Repr

/-- The Stream (R21). -/
structure Stream where
  state : StreamState
  first : Nat
  count : Nat
  remaining : Nat
  activate : Bool
  halt : Option HaltRecord
  deriving DecidableEq, Repr

/-- The Stream after either reset (R24). -/
def Stream.closed : Stream :=
  { state := .closed, first := 0, count := 0, remaining := 0, activate := false, halt := none }

/-- The Record Store. -/
structure RecordStore where
  records : Table Record
  labelIndex : Table (List Nat)
  digest : BitVec 32
  changed : List Nat
  stream : Stream
  deriving DecidableEq, Repr

/-! ### Node Control (02) -/

/-- Node Control: node state, ring parameters, timer settings, join timer. -/
structure NodeControl where
  state : NodeState
  ringId : Nat
  ringSize : Nat
  own : Nat
  holdOff : Nat
  wtr : Nat
  confirmInterval : Nat
  reassertInterval : Nat
  joinTimer : Option Nat
  deriving DecidableEq, Repr

/-! ### Line Monitors (03) -/

/-- The content of an end report: its state and cause. -/
structure Content where
  state : ReportState
  cause : ReportCause
  deriving DecidableEq, Repr

/-- Return state of Holding (R44). -/
inductive ReturnState where
  | clear
  | degraded
  | waiting
  deriving DecidableEq, Repr

/-- Line condition; Holding carries its return state and held report, which exist in Holding only (R44, R55). -/
inductive LineCond where
  | clear
  | degraded
  | holding (ret : ReturnState) (held : Content)
  | failed
  | waiting
  deriving DecidableEq, Repr

/-- The set of defects present (R41). -/
structure Defects where
  lineFail : Bool
  signallingLoss : Bool
  misconnection : Bool
  neighbourSilent : Bool
  deriving DecidableEq, Repr

/-- One Line Monitor. -/
structure Monitor where
  lineFail : Bool
  cond : LineCond
  defects : Defects
  integrator : Nat
  leak : Nat
  declareLevel : Nat
  clearLevel : Nat
  holdOffTimer : Option Nat
  wtrTimer : Option Nat
  silenceTimer : Option Nat
  force : Bool
  deriving DecidableEq, Repr

/-! ### Signalling lanes (04) -/

/-- Lock state of a lane (R58). -/
inductive LockState where
  | hunting
  | locked
  deriving DecidableEq, Repr

/-- Adjacency of a lane (4.4). -/
inductive Adjacency where
  | down
  | heard
  | up
  | mismatched
  deriving DecidableEq, Repr

/-- One Signalling Lane. -/
structure Lane where
  lock : LockState
  goodRun : Nat
  badRun : Nat
  lockWindow : Option Nat
  adjacency : Adjacency
  adjTimer : Option Nat
  greetTimer : Option Nat
  greetDue : Bool
  dueReports : Nat
  mapSent : Bool
  exchanged : Bool
  neighbour : Option Greeting
  differs : Bool
  pendingKeys : List Nat
  queue : List PathConfirm
  /-- The frame last sent on the lane (entry 14). -/
  tx : List Byte
  deriving DecidableEq, Repr

/-! ### Span Map (05) -/

/-- An end report that is known (R78). -/
structure EndReport where
  content : Content
  epoch : BitVec 16
  deriving DecidableEq, Repr

/-- Planning condition of a span (R81). -/
inductive PlanCond where
  | good
  | impaired
  | unusable
  deriving DecidableEq, Repr

/-- What the Span Map keeps of a span so that a change can be seen as an event (R78). -/
structure SpanHeld where
  effective : ReportState
  planning : PlanCond
  deriving DecidableEq, Repr

/-- A span of which nothing has been heard (R80). -/
def SpanHeld.unheard : SpanHeld := { effective := .clear, planning := .good }

/-- The Span Map: own reports by side, the known reports of the other keys, held span conditions, span delays. -/
structure SpanMap where
  ownEast : EndReport
  ownWest : EndReport
  others : Table (Option EndReport)
  spans : Table SpanHeld
  delays : Table (BitVec 16)
  deriving DecidableEq, Repr

/-! ### Restoration Planner (06) -/

/-- The two passes of a class (R103). -/
inductive Pass where
  | a
  | b
  deriving DecidableEq, Repr

/-- Sweep phase (R93). -/
inductive Phase where
  | idle
  | gathering
  | classPass (cls : Nat) (pass : Pass)
  | extraPass
  deriving DecidableEq, Repr

/-- What an entry of the plan buffer holds beside its record: the pass that treats it, or its result (R93). -/
inductive Verdict where
  | forClass (cls : Nat) (pass : Pass)
  | forExtra
  | settled (outcome : Outcome) (reason : Reason)
  deriving DecidableEq, Repr

/-- One entry of the plan buffer (R93). -/
structure PlanEntry where
  handle : Nat
  plan : Planning
  verdict : Verdict
  deriving DecidableEq, Repr

/-- One span of the snapshot (R95). -/
structure SnapSpan where
  cond : PlanCond
  delay : BitVec 16
  deriving DecidableEq, Repr

/-- The Restoration Planner. A grant table is numbered by span × 64 + protection slot. -/
structure Planner where
  phase : Phase
  gatherPos : Nat
  snapshot : List SnapSpan
  buffer : List PlanEntry
  excluded : List Nat
  late : List Nat
  nextGrants : Table (Option Nat)
  committed : Table (Option Nat)
  abandonCount : Nat
  replan : Bool
  commitNumber : BitVec 16
  deriving DecidableEq, Repr

/-! ### Fabric Driver (07) -/

/-- What the fabric sends on a line slot (R120). -/
inductive ConnValue where
  | idle
  | through
  | localPort (port : Byte)
  | void
  deriving DecidableEq, Repr

/-- Status of an entry (R121). -/
inductive EntryStatus where
  | applied
  | dirty
  | inFlight
  | failed
  deriving DecidableEq, Repr

/-- One entry of the Connection Map; `last` is `none` when Unknown (R121). -/
structure Entry where
  desired : ConnValue
  last : Option ConnValue
  status : EntryStatus
  deriving DecidableEq, Repr

/-- An entry after a full reset (R137). -/
def Entry.untouched : Entry := { desired := .idle, last := none, status := .applied }

/-- The outstanding command (07, table of state); `prior` is `none` when Unknown. -/
structure Command where
  entry : Nat
  value : ConnValue
  prior : Option ConnValue
  tag : Byte
  attempt : Nat
  reassert : Bool
  deriving DecidableEq, Repr

/-- The Fabric Driver. -/
structure Fabric where
  entries : Table Entry
  outstanding : Option Command
  responseTimer : Option Nat
  tagCounter : Byte
  reassertTimer : Option Nat
  reassertPending : Bool
  pointer : Nat
  cadence : Nat
  resyncDone : Bool
  /-- An answer ended a command, and no microsecond has passed since: an expiry of the response timer that is taken now is that of
  the timer which the answer stopped (the model's own field; R131, DESIGN CHOICE, entry 30). -/
  answered : Bool
  /-- The Connect frame last sent (entry 14). -/
  tx : List Byte
  deriving DecidableEq, Repr

/-! ### Management Port (09) -/

/-- Port state (R156). -/
inductive PortState where
  | ready
  | working
  | answered
  deriving DecidableEq, Repr

/-- A response: what its frame carries beside the Attention flag, which is sampled at each read (R159, R179). -/
structure Response where
  tag : Byte
  status : Status
  collision : Bool
  data : List Byte
  deriving DecidableEq, Repr

/-- The request in hand and the response that its carrying out built (R156, R160). -/
structure InHand where
  request : Instr
  response : Response
  deriving DecidableEq, Repr

/-- What MP_DO carried in the last transaction, after its opening byte: in a read transaction a frame, with the number of bits
that were clocked out; in a request transaction no frame. Every bit that is none of the frame is 0 (R155). -/
structure PortOutput where
  frame : List Byte
  bits : Nat
  deriving DecidableEq, Repr

/-- The Management Port. -/
structure Port where
  state : PortState
  holder : Option Response
  collision : Bool
  inHand : Option InHand
  /-- A Soft Reset has been answered and waits to take effect (R36). -/
  softResetArmed : Bool
  output : PortOutput
  deriving DecidableEq, Repr

/-! ### Attention Unit (10) -/

/-- The eight causes, in priority order (10). -/
inductive Cause where
  | fabricFault
  | misconnection
  | restorationUnconfirmed
  | spanMapChange
  | tableDisagreement
  | fabricDrift
  | streamFinished
  | recordsChanged
  deriving DecidableEq, Repr

/-- The Attention Unit; the sets are bytes laid out as in R179, bit 7 for cause 1. `asserted` is ATTN_N low. -/
structure Attention where
  pending : Byte
  mask : Byte
  latch : Option Cause
  asserted : Bool
  deriving DecidableEq, Repr

/-! ### The block -/

/-- No command faults: the block has no fault of its own and answers what it cannot carry out with a status
(R161, entry 21). Nothing raises one. -/
inductive Fault where
  deriving DecidableEq, Repr

/-- Why a command has no meaning. -/
inductive Refusal where
  /-- Raised by an arm of `exec` whose command has no meaning yet; no arm of this model raises it. Safe. -/
  | notModelled (mnemonic : String)
  deriving DecidableEq, Repr

/-- The ER24. `pending` is the queue of commands that wait, first in first out (entry 1). -/
structure State where
  node : NodeControl
  store : RecordStore
  monEast : Monitor
  monWest : Monitor
  laneEast : Lane
  laneWest : Lane
  map : SpanMap
  planner : Planner
  fabric : Fabric
  port : Port
  attn : Attention
  pending : List Instr
  deriving DecidableEq, Repr

/-- Node Control after a full reset (R37). -/
def NodeControl.reset : NodeControl :=
  { state := .configuring, ringId := 0, ringSize := 0, own := 0, holdOff := 0, wtr := 300, confirmInterval := 50,
    reassertInterval := 20, joinTimer := none }

/-- The Record Store after a full reset: the digest is the CRC-32 of 48 zero bytes (R19, R25). -/
def RecordStore.reset : RecordStore :=
  { records := [], labelIndex := [], digest := crc32 (List.replicate 48 0), changed := [], stream := Stream.closed }

/-- No defect present. -/
def Defects.empty : Defects :=
  { lineFail := false, signallingLoss := false, misconnection := false, neighbourSilent := false }

/-- A Line Monitor after a full reset (R55); the Line Fail input is inactive (DESIGN CHOICE, entry 7). -/
def Monitor.reset : Monitor :=
  { lineFail := false, cond := .clear, defects := Defects.empty, integrator := 0, leak := 0, declareLevel := 16777215,
    clearLevel := 0, holdOffTimer := none, wtrTimer := none, silenceTimer := none, force := false }

/-- A lane after a full reset (R77); nothing has been sent (DESIGN CHOICE, entry 14). -/
def Lane.reset : Lane :=
  { lock := .hunting, goodRun := 0, badRun := 0, lockWindow := none, adjacency := .down, adjTimer := none,
    greetTimer := none, greetDue := false, dueReports := 0, mapSent := false, exchanged := false, neighbour := none,
    differs := false, pendingKeys := [], queue := [], tx := [] }

/-- The content Halted (R34). -/
def Content.halted : Content := { state := .forcedOut, cause := .halted }

/-- An own report after either reset (R37, R91). -/
def EndReport.ownReset : EndReport := { content := Content.halted, epoch := 0 }

/-- The Span Map after a full reset: N is 0, so no span exists (R91). -/
def SpanMap.reset : SpanMap :=
  { ownEast := EndReport.ownReset, ownWest := EndReport.ownReset, others := [], spans := [], delays := [] }

/-- The Planner after either reset (R119). -/
def Planner.reset : Planner :=
  { phase := .idle, gatherPos := 0, snapshot := [], buffer := [], excluded := [], late := [], nextGrants := [],
    committed := [], abandonCount := 0, replan := false, commitNumber := 0 }

/-- The Fabric Driver after a full reset (R137). -/
def Fabric.reset : Fabric :=
  { entries := [], outstanding := none, responseTimer := none, tagCounter := 0, reassertTimer := none,
    reassertPending := false, pointer := 0, cadence := 1, resyncDone := false,
    answered := false, tx := [] }

/-- The Management Port after either reset (R168); nothing has been driven on MP_DO (DESIGN CHOICE, entry 14). -/
def Port.reset : Port :=
  { state := .ready, holder := none, collision := false, inHand := none, softResetArmed := false,
    output := { frame := [], bits := 0 } }

/-- The Attention Unit after a full reset: all eight causes enabled (R176). -/
def Attention.reset : Attention := { pending := 0, mask := 0xFF, latch := none, asserted := false }

/-- The block right after power-on: every block at its full-reset values (R36). With both Line Fail inputs inactive and
the ring ID 0 no defect is present, so the evaluation that follows the reset (R55) changes nothing. -/
def State.reset : State :=
  { node := NodeControl.reset, store := RecordStore.reset, monEast := Monitor.reset, monWest := Monitor.reset,
    laneEast := Lane.reset, laneWest := Lane.reset, map := SpanMap.reset, planner := Planner.reset, fabric := Fabric.reset,
    port := Port.reset, attn := Attention.reset, pending := [] }

end Sys2Proof.Machine
end

