-- ==== Sys2Proof/Machine/Codes.lean ====
section
/-!
DEFINITION. The codes of the enumerated values (R178, R179), and the readers of those that arrive in frames.
-/

namespace Sys2Proof.Machine

/-- Side (R178). -/
def sideCode : Side → Nat
  | .east => 0
  | .west => 1

/-- The side a code names. -/
def sideOf : Nat → Option Side
  | 0 => some .east
  | 1 => some .west
  | _ => none

/-- Node state (R178). -/
def nodeStateCode : NodeState → Nat
  | .configuring => 0
  | .joining => 1
  | .syncing => 2
  | .running => 3

/-- The node state a code names. -/
def nodeStateOf : Nat → Option NodeState
  | 0 => some .configuring
  | 1 => some .joining
  | 2 => some .syncing
  | 3 => some .running
  | _ => none

/-- End report state, in the severity order of R80 (R178). -/
def reportStateCode : ReportState → Nat
  | .clear => 0
  | .degraded => 1
  | .waiting => 2
  | .forcedOut => 3
  | .failed => 4

/-- The end report state a code names. -/
def reportStateOf : Nat → Option ReportState
  | 0 => some .clear
  | 1 => some .degraded
  | 2 => some .waiting
  | 3 => some .forcedOut
  | 4 => some .failed
  | _ => none

/-- End report cause (R178). -/
def reportCauseCode : ReportCause → Nat
  | .none => 0
  | .degrade => 1
  | .recovery => 2
  | .forced => 3
  | .halted => 4
  | .lineFail => 5
  | .signallingLoss => 6
  | .misconnection => 7
  | .neighbourSilent => 8

/-- The end report cause a code names. -/
def reportCauseOf : Nat → Option ReportCause
  | 0 => some .none
  | 1 => some .degrade
  | 2 => some .recovery
  | 3 => some .forced
  | 4 => some .halted
  | 5 => some .lineFail
  | 6 => some .signallingLoss
  | 7 => some .misconnection
  | 8 => some .neighbourSilent
  | _ => none

/-- Span end: 0 lower, 1 upper (R180). -/
def spanEndCode : SpanEnd → Nat
  | .lower => 0
  | .upper => 1

/-- The span end a code names. -/
def spanEndOf : Nat → Option SpanEnd
  | 0 => some .lower
  | 1 => some .upper
  | _ => none

/-- Kind (R178). -/
def kindCode : Kind → Nat
  | .prot => 0
  | .unprot => 1
  | .extra => 2

/-- The kind that the two-bit kind field names; 3 is out of range (R178). -/
def kindOf : Nat → Option Kind
  | 0 => some .prot
  | 1 => some .unprot
  | 2 => some .extra
  | _ => none

/-- Lifecycle (R178). -/
def lifecycleCode : Lifecycle → Nat
  | .free => 0
  | .staged => 1
  | .active => 2
  | .retiring => 3

/-- Outcome (R178). -/
def outcomeCode : Outcome → Nat
  | .unplanned => 0
  | .working => 1
  | .detour => 2
  | .suppressed => 3
  | .riding => 4
  | .preempted => 5

/-- Reason (R178). -/
def reasonCode : Reason → Nat
  | .none => 0
  | .noRoute => 1
  | .overDelay => 2
  | .outbid => 3
  | .lockedOut => 4
  | .unprotected => 5
  | .outranked => 6
  | .arcLost => 7

/-- Connection status (R178). -/
def connCode : ConnStatus → Nat
  | .none => 0
  | .applying => 1
  | .settled => 2
  | .fault => 3

/-- Confirm state (R178). -/
def confirmCode : ConfirmState → Nat
  | .none => 0
  | .pending => 1
  | .awaiting => 2
  | .restored => 3
  | .unconfirmed => 4

/-- Planning condition (R178). -/
def planCondCode : PlanCond → Nat
  | .good => 0
  | .impaired => 1
  | .unusable => 2

/-- Line condition (R178). -/
def lineCondCode : LineCond → Nat
  | .clear => 0
  | .degraded => 1
  | .holding _ _ => 2
  | .failed => 3
  | .waiting => 4

/-- Return state, coded as the line condition (R178). -/
def returnStateCode : ReturnState → Nat
  | .clear => 0
  | .degraded => 1
  | .waiting => 4

/-- Lock state (R178). -/
def lockCode : LockState → Nat
  | .hunting => 0
  | .locked => 1

/-- Adjacency (R178). -/
def adjacencyCode : Adjacency → Nat
  | .down => 0
  | .heard => 1
  | .up => 2
  | .mismatched => 3

/-- Stream state (R178). -/
def streamStateCode : StreamState → Nat
  | .closed => 0
  | .opened => 1
  | .complete => 2
  | .halted => 3

/-- Halt reason (R178). -/
def haltReasonCode : HaltReason → Nat
  | .wrongState => 0
  | .invalidField => 1
  | .labelClash => 2
  | .activateRefused => 3

/-- Entry status (R178). -/
def entryStatusCode : EntryStatus → Nat
  | .applied => 0
  | .dirty => 1
  | .inFlight => 2
  | .failed => 3

/-- Pass of a class pass (R178). -/
def passCode : Pass → Nat
  | .a => 0
  | .b => 1

/-- Attention cause: its number, 1 highest priority (10). -/
def causeNumber : Cause → Nat
  | .fabricFault => 1
  | .misconnection => 2
  | .restorationUnconfirmed => 3
  | .spanMapChange => 4
  | .tableDisagreement => 5
  | .fabricDrift => 6
  | .streamFinished => 7
  | .recordsChanged => 8

/-- The cause a number names. -/
def causeOf : Nat → Option Cause
  | 1 => some .fabricFault
  | 2 => some .misconnection
  | 3 => some .restorationUnconfirmed
  | 4 => some .spanMapChange
  | 5 => some .tableDisagreement
  | 6 => some .fabricDrift
  | 7 => some .streamFinished
  | 8 => some .recordsChanged
  | _ => none

/-- Status codes (R179). -/
def statusCode : Status → Nat
  | .ok => 0x00
  | .clamped => 0x01
  | .badFrame => 0x10
  | .unknownCommand => 0x11
  | .badHandle => 0x20
  | .wrongState => 0x21
  | .invalidField => 0x22
  | .slotClash => 0x23
  | .portClash => 0x24
  | .labelClash => 0x25
  | .notFound => 0x26
  | .streamState => 0x27
  | .notReady => 0x30

/-- A Connection Map value as two bytes: its kind, and the port of a Local (R180). -/
def connValueBytes : ConnValue → List Byte
  | .idle => [0, 0]
  | .through => [1, 0]
  | .localPort p => [2, p]
  | .void => [3, 0]

/-- A value or Unknown, as two bytes (R180). -/
def lastValueBytes : Option ConnValue → List Byte
  | none => [0xFF, 0]
  | some v => connValueBytes v

/-- A set of defects as a byte (R178). -/
def defectsCode (d : Defects) : Nat :=
  d.lineFail.toNat + 2 * d.signallingLoss.toNat + 4 * d.misconnection.toNat + 8 * d.neighbourSilent.toNat

/-- State and cause of a report. -/
def contentBytes (c : Content) : List Byte := be1 (reportStateCode c.state) ++ be1 (reportCauseCode c.cause)

end Sys2Proof.Machine
end

