-- ==== Sys2Proof/Machine/Frames.lean ====
section
/-!
DEFINITION. The frames that the ER24 sends: lane frames and Connect (R180), responses and NOT_READY (R179).
-/

namespace Sys2Proof.Machine

/-- A lane frame: type, body padded with zeros to byte 13, CRC-16: 16 bytes (R180). -/
def laneFrame (kind : Nat) (body : List Byte) : List Byte :=
  closeFrame (be1 kind ++ body ++ List.replicate (13 - body.length) 0)

/-- Fill (R180). -/
def fillFrame : List Byte := laneFrame 0x01 []

/-- A Greeting (R60, R180). -/
def greetingFrame (g : Greeting) : List Byte :=
  laneFrame 0x02 (be2 g.ringId ++ be1 g.sender ++ be1 (sideCode g.senderSide) ++ be1 g.ringSize ++ be4 g.digest.toNat ++
    be1 (nodeStateCode g.nodeState) ++ be1 (128 * g.heard.toNat + 64 * g.mapSent.toNat))

/-- A Span Report (R180). -/
def spanReportFrame (r : SpanReport) : List Byte :=
  laneFrame 0x03 (be1 r.span ++ be1 (spanEndCode r.spanEnd) ++ be1 (reportStateCode r.state) ++
    be1 (reportCauseCode r.cause) ++ be2 r.epoch.toNat)

/-- A Path Confirm (R180). -/
def pathConfirmFrame (p : PathConfirm) : List Byte :=
  laneFrame 0x04 (be2 p.handle ++ be2 p.check.toNat ++ be1 p.sender ++ be1 p.target ++ be1 p.heard.toNat ++
    be1 p.hops.toNat)

/-- A Connect on the Fabric Link (R126, R180). -/
def connectFrame (c : Command) : List Byte :=
  closeFrame (be1 0x11 ++ [c.tag] ++ be2 c.entry ++ connValueBytes c.value ++ lastValueBytes c.prior)

/-- The flags byte of a returned frame: bit 7 Collision, bit 6 Attention (R179). -/
def flagsByte (collision attention : Bool) : List Byte := be1 (128 * collision.toNat + 64 * attention.toNat)

/-- The length of a response frame in bytes (R179). -/
def Response.length (r : Response) : Nat := r.data.length + 7

/-- A response frame as it is driven with the Attention flag of the read (R159, R179). -/
def Response.frame (r : Response) (attention : Bool) : List Byte :=
  closeFrame (be2 r.length ++ [r.tag] ++ be1 (statusCode r.status) ++ flagsByte r.collision attention ++ r.data)

/-- The short NOT_READY frame: 6 bytes (R159, R179). -/
def notReadyFrame (attention : Bool) : List Byte :=
  closeFrame (be2 6 ++ be1 (statusCode .notReady) ++ flagsByte false attention)

end Sys2Proof.Machine
end

