-- ==== Sys2Proof/Machine/Flags.lean ====
section
/-!
DEFINITION. The flags of the Attention Unit: raising and clearing causes, and the pin ATTN_N, which every change of the
pending set or the mask sets anew (10).
-/

namespace Sys2Proof.Machine

/-- The bit of a cause in the pending set and the mask: bit 7 for cause 1 through bit 0 for cause 8 (R179). -/
def causeBit : Cause → Byte
  | .fabricFault => 0x80
  | .misconnection => 0x40
  | .restorationUnconfirmed => 0x20
  | .spanMapChange => 0x10
  | .tableDisagreement => 0x08
  | .fabricDrift => 0x04
  | .streamFinished => 0x02
  | .recordsChanged => 0x01

/-- The causes in priority order (10). -/
def allCauses : List Cause :=
  [.fabricFault, .misconnection, .restorationUnconfirmed, .spanMapChange, .tableDisagreement, .fabricDrift,
    .streamFinished, .recordsChanged]

/-- The cause is in the set. -/
def causeIn (set : Byte) (c : Cause) : Bool := decide (set &&& causeBit c ≠ 0)

/-- At least one cause is both pending and enabled (R171, R175). -/
def Attention.calls (a : Attention) : Bool := decide (a.pending &&& a.mask ≠ 0)

/-- Drive ATTN_N by R171. -/
def Attention.drive (a : Attention) : Attention := { a with asserted := a.calls }

/-- Make a cause pending, whatever the mask (R169). -/
def Attention.raise (a : Attention) (c : Cause) : Attention := { a with pending := a.pending ||| causeBit c }.drive

/-- The cause of lowest number that is both pending and enabled (R172). -/
def Attention.top (a : Attention) : Option Cause := allCauses.find? fun c => causeIn (a.pending &&& a.mask) c

/-- Read Summary fills an empty latch (R172). -/
def Attention.fillLatch (a : Attention) : Attention :=
  match a.latch with
  | some _ => a
  | none => { a with latch := a.top }

/-- Acknowledge a cause (R173). -/
def Attention.acknowledge (a : Attention) (c : Cause) : Attention :=
  if causeIn a.pending c then
    { a with pending := a.pending &&& ~~~ (causeBit c), latch := if a.latch = some c then none else a.latch }.drive
  else a

/-- Write all eight enables (R170). -/
def Attention.setMask (a : Attention) (enables : Byte) : Attention := { a with mask := enables }.drive

/-- The Attention Unit at a soft reset: the mask is kept (R176). -/
def Attention.softReset (a : Attention) : Attention := { Attention.reset with mask := a.mask }

/-- Raise a cause at the Attention Unit (R169). -/
def raiseCause (c : Cause) (s : State) : State := { s with attn := s.attn.raise c }

/-- Raise a cause if `b`. -/
def raiseIf (b : Bool) (c : Cause) (s : State) : State := if b then raiseCause c s else s

end Sys2Proof.Machine
end

