-- ==== Sys2Proof/Machine/Geometry.lean ====
section
/-!
DEFINITION. The geometry of a ring: arcs, roles and sides of a record (00 Numbering conventions; R5, R6, R7), keys of
span ends, and indices of Connection Map entries (R120).
-/

namespace Sys2Proof.Machine

/-- Both ends of a record are below N (R5). -/
def Planning.endsFit (p : Planning) (n : Nat) : Bool := decide (p.endA < n) && decide (p.endB < n)

/-- Steps from node `a` to node `b` in direction `d` (00, Arcs). -/
def arcLength (n a b : Nat) : Side → Nat
  | .east => (b + n - a) % n
  | .west => (a + n - b) % n

/-- The span crossed by step `i` of an arc that leaves node `a` in direction `d` (00, Arcs). -/
def arcSpan (n a : Nat) (d : Side) (i : Nat) : Nat :=
  match d with
  | .east => (a + i) % n
  | .west => (a + n - 1 - i) % n

/-- The spans of an arc of length `len` that leaves node `a` in direction `d`, in order. -/
def arcSpans (n a : Nat) (d : Side) (len : Nat) : List Nat := (List.range len).map (arcSpan n a d)

/-- Working length (R5). -/
def Planning.workingLength (p : Planning) (n : Nat) : Nat := arcLength n p.endA p.endB p.dir

/-- Spans of the working arc, from End A (R5). -/
def Planning.workingArc (p : Planning) (n : Nat) : List Nat := arcSpans n p.endA p.dir (p.workingLength n)

/-- Detour length (R5). -/
def Planning.detourLength (p : Planning) (n : Nat) : Nat := n - p.workingLength n

/-- Spans of the detour arc, from End A the other way round (R5). -/
def Planning.detourArc (p : Planning) (n : Nat) : List Nat := arcSpans n p.endA p.dir.other (p.detourLength n)

/-- The role of a record at a node (R6). -/
inductive Role where
  | endA
  | endB
  | workingTransit
  | detourTransit
  deriving DecidableEq, Repr

/-- Role codes (R178). -/
def roleCode : Role → Nat
  | .endA => 0
  | .endB => 1
  | .workingTransit => 2
  | .detourTransit => 3

/-- The role of a record at node `k` of a ring of `n` nodes; none unless both ends are below `n` (R5, R6). A node that
is no end lies strictly inside the working arc when it is reached before End B. -/
def Planning.role (p : Planning) (n k : Nat) : Option Role :=
  if p.endsFit n then
    some (if k = p.endA then .endA
      else if k = p.endB then .endB
      else if arcLength n p.endA k p.dir < p.workingLength n then .workingTransit
      else .detourTransit)
  else none

/-- The working side of a record at one of its ends (R6); for an Extra record its arc side. -/
def Planning.workingSide (p : Planning) : Role → Side
  | .endB => p.dir.other
  | _ => p.dir

/-- The detour side of a record at one of its ends (R6). -/
def Planning.detourSide (p : Planning) (r : Role) : Side := (p.workingSide r).other

/-- The end that is not this one (R138). -/
def Planning.otherEnd (p : Planning) : Role → Nat
  | .endA => p.endB
  | _ => p.endA

/-- The port-presence rule at node `k`: a local port exactly where the node is an end (R3). -/
def portPresenceOk (p : Planning) (port : Option Byte) (k : Nat) : Bool :=
  port.isSome == (decide (k = p.endA) || decide (k = p.endB))

/-- Two arcs share a span (R7). -/
def arcsShare (a b : List Nat) : Bool := a.any fun s => b.contains s

/-- Two records break the slot rule of R12: both Extra or neither, equal slots, arcs that share a span. -/
def slotClash (n : Nat) (p q : Planning) : Bool :=
  (decide (p.kind = .extra) == decide (q.kind = .extra)) && decide (p.workSlot = q.workSlot) &&
    arcsShare (p.workingArc n) (q.workingArc n)

/-- Key of a span end (00). -/
def keyOf (span : Nat) : SpanEnd → Nat
  | .lower => 2 * span
  | .upper => 2 * span + 1

/-- The own key of a side of node `k` (00, Span ends and keys). -/
def ownKey (n k : Nat) : Side → Nat
  | .east => keyOf k .lower
  | .west => keyOf ((k + n - 1) % n) .upper

/-- The neighbour expected on a lane (R61). -/
def expectedNeighbour (n k : Nat) : Side → Nat
  | .east => (k + 1) % n
  | .west => (k + n - 1) % n

/-- The entry of a working slot (R120). -/
def workEntry (slot : Nat) : Side → Nat
  | .east => slot
  | .west => 256 + slot

/-- The entry of a protection slot (R120). -/
def protEntry (slot : Nat) : Side → Nat
  | .east => 192 + slot
  | .west => 448 + slot

/-- The number of a (span, protection slot) pair in a grant table. -/
def grantKey (span slot : Nat) : Nat := span * Config.protSlots + slot

end Sys2Proof.Machine
end

