-- ==== Sys2Proof/Machine/Operands.lean ====
section
/-!
DEFINITION. The operands of the requests: stage images and their checks (R1, R2, R9), planning images and record codes
(R18, R178), and the clamps of Set Timers and Set Degrade (R29, R51).
-/

namespace Sys2Proof.Machine

/-- The working slot is in the range of the kind (R1, R2). -/
def workSlotOk (k : Kind) (slot : Nat) : Bool :=
  match k with
  | .extra => decide (slot ≤ 63)
  | _ => decide (slot ≤ 191)

/-- An image of a kind that is never restored writes zero in the optional fields and has lockout off (R2). -/
def optionalFieldsOk (k : Kind) (i : StageImage) : Bool :=
  match k with
  | .prot => decide (i.protSlot ≤ 63) && decide (i.prio ≤ 7) && decide (i.ceiling ≤ 2000000)
  | _ => decide (i.protSlot = 0) && decide (i.prio = 0) && decide (i.ceiling = 0) && !i.lockout

/-- The planning fields that an image gives a record of kind `k` (R2, R178). -/
def planningOf (k : Kind) (i : StageImage) : Planning :=
  { circuit := i.circuit, kind := k, endA := i.endA, endB := i.endB, dir := i.dir, workSlot := i.workSlot,
    protSlot := if k = .prot then some i.protSlot else none,
    prio := if k = .prot then some i.prio else none,
    ceiling := if i.ceiling = 0 then none else some i.ceiling,
    lockout := i.lockout }

/-- The planning fields of an image that passes the field checks of step 3 of R9; none where a field fails. Ends are
checked against 0 to 23 and not against N. -/
def imagePlanning (i : StageImage) : Option Planning :=
  match kindOf i.kind with
  | none => none
  | some k =>
    if decide (1 ≤ i.circuit) && decide (i.circuit ≤ 16777215) && decide (i.endA ≤ 23) && decide (i.endB ≤ 23) &&
        decide (i.endA ≠ i.endB) && workSlotOk k i.workSlot && optionalFieldsOk k i then
      some (planningOf k i)
    else none

/-- The local port of an image (R178). -/
def imagePort (i : StageImage) : Option Byte := if i.portPresent then some i.port else none

/-- Byte 5 of the planning image (R178). -/
def Planning.kindByte (p : Planning) : Nat := kindCode p.kind + 4 * sideCode p.dir + 8 * p.lockout.toNat

/-- The 16-byte planning image of a record (R178). -/
def Planning.image (p : Planning) (handle : Nat) : List Byte :=
  be2 handle ++ be3 p.circuit ++ be1 p.kindByte ++ be1 p.endA ++ be1 p.endB ++ be1 p.workSlot ++
    be1 (p.protSlot.getD 0) ++ be1 (p.prio.getD 0) ++ be3 (p.ceiling.getD 0) ++ be2 0

/-- The record code: the CRC-32 of the planning image (R18). -/
def recordCode (handle : Nat) (p : Planning) : BitVec 32 := crc32 (p.image handle)

/-- The record check of a Path Confirm: the low 16 bits of the record code (R18, R141). -/
def recordCheck (code : BitVec 32) : BitVec 16 := code.truncate 16

/-- The bucket of a circuit number (R17). -/
def bucketOf (circuit : Nat) : Nat := (circuit ^^^ (circuit >>> 10) ^^^ (circuit >>> 20)) &&& 1023

/-- The side that a request's side byte names (R51, R52, R76). -/
def sideOperand (n : Nat) : Option Side := sideOf n

/-- Hold-off as taken (R29). -/
def clampHoldOff (v : Nat) : Nat := if 2550 < v then 2550 else v / 10 * 10

/-- Wait-to-restore as taken (R29). -/
def clampWtr (v : Nat) : Nat := if 3600 < v then 3600 else v

/-- Confirm interval as taken (R29). -/
def clampConfirm (v : Nat) : Nat := if v < 5 then 5 else if 1000 < v then 1000 else v

/-- Reassert interval as taken (R29). -/
def clampReassert (v : Nat) : Nat := if v = 0 then 1 else if 1000 < v then 1000 else v

/-- Cadence scale as taken (R29). -/
def clampCadence (v : Nat) : Nat :=
  if v ≤ 1 then 1 else if v ≤ 3 then 2 else if v ≤ 7 then 4 else 8

/-- Declare level as taken (R51). -/
def clampDeclare (v : Nat) : Nat := if v = 0 then 1 else v

/-- Clear level as taken, by the declare level as taken (R51). -/
def clampClear (v declare : Nat) : Nat := if declare ≤ v then declare - 1 else v

end Sys2Proof.Machine
end

