-- ==== Sys2Proof/Machine/Ops.lean ====
section
/-!
DEFINITION. The operations that the commands share: reading and writing records, monitors, lanes and reports; the
changed set, the Label Index and the digest (01); marks in the pending report sets (R68); the start of sweeps and the
triggers (06); the comparison of the Span Map after an event (R84).
-/

namespace Sys2Proof.Machine

/-! ### Sides -/

/-- The Line Monitor of a side. -/
def State.mon (s : State) : Side → Monitor
  | .east => s.monEast
  | .west => s.monWest

/-- Write the Line Monitor of a side. -/
def State.setMon (s : State) (d : Side) (m : Monitor) : State :=
  match d with
  | .east => { s with monEast := m }
  | .west => { s with monWest := m }

/-- The lane of a side. -/
def State.lane (s : State) : Side → Lane
  | .east => s.laneEast
  | .west => s.laneWest

/-- Write the lane of a side. -/
def State.setLane (s : State) (d : Side) (l : Lane) : State :=
  match d with
  | .east => { s with laneEast := l }
  | .west => { s with laneWest := l }

/-- The own report of a side (R78). -/
def SpanMap.own (m : SpanMap) : Side → EndReport
  | .east => m.ownEast
  | .west => m.ownWest

/-- Write the own report of a side. -/
def SpanMap.setOwn (m : SpanMap) (d : Side) (r : EndReport) : SpanMap :=
  match d with
  | .east => { m with ownEast := r }
  | .west => { m with ownWest := r }

/-! ### Records -/

/-- The record of a handle; a handle not listed is Free (R1). -/
def State.record (s : State) (h : Nat) : Record := Table.get Record.free s.store.records h

/-- Write the record of a handle. -/
def State.setRec (s : State) (h : Nat) (r : Record) : State :=
  { s with store := { s.store with records := Table.set Record.free s.store.records h r } }

/-- The handles of the records that are not Free, ascending. -/
def State.handles (s : State) : List Nat := Table.keys s.store.records

/-- Put a handle into the changed set; a set that was empty raises Records Changed (R20). -/
def markChanged (h : Nat) (s : State) : State :=
  raiseIf (decide (s.store.changed = [])) .recordsChanged
    { s with store := { s.store with changed := setInsert s.store.changed h } }

/-- Put a handle into the changed set if `b`. -/
def markChangedIf (b : Bool) (h : Nat) (s : State) : State := if b then markChanged h s else s

/-- Take a handle out of the changed set (R20). -/
def unmarkChanged (h : Nat) (s : State) : State :=
  { s with store := { s.store with changed := setErase s.store.changed h } }

/-- A bucket of the Label Index (R17). -/
def State.bucket (s : State) (b : Nat) : List Nat := Table.get [] s.store.labelIndex b

/-- Write a bucket of the Label Index. -/
def State.setBucket (s : State) (b : Nat) (l : List Nat) : State :=
  { s with store := { s.store with labelIndex := Table.set [] s.store.labelIndex b l } }

/-- A handle joins the bucket of a circuit number (R17). -/
def joinBucket (circuit h : Nat) (s : State) : State :=
  s.setBucket (bucketOf circuit) (setInsert (s.bucket (bucketOf circuit)) h)

/-- A handle leaves the bucket of a circuit number (R17). -/
def leaveBucket (circuit h : Nat) (s : State) : State :=
  s.setBucket (bucketOf circuit) (setErase (s.bucket (bucketOf circuit)) h)

/-- Compare the digest with the neighbour's on a lane that is Up; from Same to Differs raises Table Disagreement
(R66). -/
def compareDigest (d : Side) (s : State) : State :=
  match (s.lane d).adjacency, (s.lane d).neighbour with
  | .up, some g =>
    raiseIf (decide (g.digest ≠ s.store.digest) && !(s.lane d).differs) .tableDisagreement
      (s.setLane d { s.lane d with differs := decide (g.digest ≠ s.store.digest) })
  | _, _ => s

/-- Write the digest; a change is compared on both lanes (R19, R66). -/
def setDigest (v : BitVec 32) (s : State) : State :=
  if v = s.store.digest then s
  else compareDigest .west (compareDigest .east { s with store := { s.store with digest := v } })

/-- The span delay image: 24 delays, two bytes each, span 0 first (R19). -/
def delayImage (delays : Table (BitVec 16)) : List Byte :=
  (List.range Config.delayCount).flatMap fun k => be2 (Table.get 0 delays k).toNat

/-- The record becomes Free: it leaves its bucket and the changed set, and its fields are cleared (R4, R17, R20). The
digest is left to the caller. -/
def freeRecord (h : Nat) (s : State) : State :=
  unmarkChanged h (State.setRec (leaveBucket (s.record h).plan.circuit h s) h Record.free)

/-- Apply an operation for each number of a list, in order. -/
def forEach (l : List Nat) (f : Nat → State → State) (s : State) : State := l.foldl (fun t h => f h t) s

/-! ### Reports, keys and marks -/

/-- The report at a key: an own key holds the own report of its side once N is set (R78, R83). -/
def State.report (s : State) (key : Nat) : Option EndReport :=
  if s.node.ringSize ≠ 0 ∧ key = ownKey s.node.ringSize s.node.own .east then some s.map.ownEast
  else if s.node.ringSize ≠ 0 ∧ key = ownKey s.node.ringSize s.node.own .west then some s.map.ownWest
  else Table.get none s.map.others key

/-- Mark a key in a lane's pending report set; a lane that is not Up takes no mark (R68). -/
def markKey (d : Side) (key : Nat) (s : State) : State :=
  if (s.lane d).adjacency = .up then
    s.setLane d { s.lane d with pendingKeys := setInsert (s.lane d).pendingKeys key }
  else s

/-- Mark a key on both lanes (R68). -/
def markBoth (key : Nat) (s : State) : State := markKey .west key (markKey .east key s)

/-- The more severe of two report states (R80). -/
def moreSevere (a b : ReportState) : ReportState := if reportStateCode a < reportStateCode b then b else a

/-- The state a report counts with: an unknown report counts as Clear (R80). -/
def countedState (r : Option EndReport) : ReportState :=
  match r with
  | none => .clear
  | some e => e.content.state

/-- The effective state of a span (R80). -/
def State.effectiveState (s : State) (span : Nat) : ReportState :=
  moreSevere (countedState (s.report (keyOf span .lower))) (countedState (s.report (keyOf span .upper)))

/-- Planning condition of an effective state (R81). -/
def planCondOf : ReportState → PlanCond
  | .clear => .good
  | .degraded => .impaired
  | _ => .unusable

/-- What the Span Map works out for a span from its reports (R80, R81). -/
def State.workedOut (s : State) (span : Nat) : SpanHeld :=
  { effective := s.effectiveState span, planning := planCondOf (s.effectiveState span) }

/-- What the Span Map holds for a span (R78). -/
def State.heldSpan (s : State) (span : Nat) : SpanHeld := Table.get SpanHeld.unheard s.map.spans span

/-- The held values of every span below N, worked out from the reports. -/
def State.workedOutSpans (s : State) : Table SpanHeld :=
  Table.ofFun SpanHeld.unheard s.node.ringSize s.workedOut

/-! ### Sweeps and triggers -/

/-- The snapshot of the spans below N (R95). -/
def State.takeSnapshot (s : State) : List SnapSpan :=
  (List.range s.node.ringSize).map fun k => { cond := (s.heldSpan k).planning, delay := Table.get 0 s.map.delays k }

/-- A sweep starts (R94). The abandon count is not changed. -/
def startSweep (s : State) : State :=
  { s with planner := { s.planner with
      phase := .gathering, gatherPos := 0, snapshot := s.takeSnapshot, buffer := [], excluded := [], late := [],
      nextGrants := [], replan := false } }

/-- Re-plan pending is set by a request in Joining, Syncing or Running, which starts a sweep when the Planner is Idle
(R112). -/
def hostTrigger (s : State) : State :=
  if s.node.state = .configuring then s
  else if s.planner.phase = .idle then startSweep s
  else { s with planner := { s.planner with replan := true } }

/-- A span trigger (R86, R113, R114). -/
def spanTrigger (s : State) : State :=
  if s.node.state = .configuring then s
  else if s.planner.phase = .idle then startSweep s
  else if s.planner.abandonCount < Config.abandonLimit then
    startSweep { s with planner := { s.planner with abandonCount := s.planner.abandonCount + 1 } }
  else { s with planner := { s.planner with replan := true } }

/-- Some span below N has a worked-out value that differs, by `f`, from the held one. -/
def State.anySpan (s : State) (f : SpanHeld → SpanHeld → Bool) : Bool :=
  (List.range s.node.ringSize).any fun k => f (s.heldSpan k) (s.workedOut k)

/-- The planning condition becomes Unusable from Good or Impaired (R87). -/
def becameUnusable (old new : SpanHeld) : Bool :=
  decide (new.planning = .unusable) && decide (old.planning ≠ .unusable)

/-- Compare every span with what the Span Map holds, store the new values, and set off Span Map Change, the cadence
scale reset and one span trigger, as one event (R84 to R88). Spans at or above N hold nothing. -/
def compareSpans (s : State) : State :=
  let changed := s.anySpan fun old new => decide (old.effective ≠ new.effective)
  let moved := s.anySpan fun old new => decide (old.planning ≠ new.planning)
  let lost := s.anySpan becameUnusable
  let s1 := { s with map := { s.map with spans := s.workedOutSpans } }
  let s2 := raiseIf changed .spanMapChange s1
  let s3 := if lost then { s2 with fabric := { s2.fabric with cadence := 1 } } else s2
  if moved then spanTrigger s3 else s3

/-! ### Own reports -/

/-- The first defect present gives the current cause (R43). -/
def Defects.cause (d : Defects) : Option ReportCause :=
  if d.lineFail then some .lineFail
  else if d.signallingLoss then some .signallingLoss
  else if d.misconnection then some .misconnection
  else if d.neighbourSilent then some .neighbourSilent
  else none

/-- Some defect is present (R41). -/
def Defects.any (d : Defects) : Bool := d.lineFail || d.signallingLoss || d.misconnection || d.neighbourSilent

/-- The report that the line condition machine gives (R53). -/
def Monitor.output (m : Monitor) : Content :=
  match m.cond with
  | .clear => { state := .clear, cause := .none }
  | .degraded => { state := .degraded, cause := .degrade }
  | .holding _ held => held
  | .failed => { state := .failed, cause := m.defects.cause.getD .none }
  | .waiting => { state := .waiting, cause := .recovery }

/-- The own end report of a side as its Line Monitor composes it: the Halted override, then the force flag, then the
machine's output (R34, R53). -/
def State.composed (s : State) (d : Side) : Content :=
  if s.node.state ≠ .running then Content.halted
  else if (s.mon d).force then { state := .forcedOut, cause := .forced }
  else (s.mon d).output

/-- Take the composed report of a side: a change of content increments the own epoch and marks the own key on both lanes
(R53, R74). -/
def takeOwn (d : Side) (s : State) : State :=
  if s.composed d = (s.map.own d).content then s
  else
    let s1 := { s with map := s.map.setOwn d { content := s.composed d, epoch := (s.map.own d).epoch + 1 } }
    if s1.node.ringSize = 0 then s1 else markBoth (ownKey s1.node.ringSize s1.node.own d) s1

/-- The end of an event that may have changed a part of an own report: both own reports are composed again and the Span
Map is compared once (R53, R84). -/
def refreshReports (s : State) : State := compareSpans (takeOwn .west (takeOwn .east s))

end Sys2Proof.Machine
end

