-- ==== Sys2Proof/Machine/LineOps.lean ====
section
/-!
DEFINITION. The Line Monitor: defects, the silence timer, the line condition machine and the degrade integrator (03).
-/

namespace Sys2Proof.Machine

/-- The line condition that a return state names (R45). -/
def ReturnState.cond : ReturnState → LineCond
  | .clear => .clear
  | .degraded => .degraded
  | .waiting => .waiting

/-- A defect appears with the machine in state `ret`: the integrator is zeroed, and the machine enters Holding, or Failed
when the hold-off is 0 (R44, R50). The held report is what the machine gives (entry 8). -/
def Monitor.hit (m : Monitor) (holdOff : Nat) (ret : ReturnState) : Monitor :=
  if holdOff = 0 then { m with integrator := 0, cond := .failed, wtrTimer := none }
  else { m with integrator := 0, cond := .holding ret m.output, holdOffTimer := some (holdOff * Config.ms) }

/-- A defect appears (R44). -/
def Monitor.defectAppears (m : Monitor) (holdOff : Nat) : Monitor :=
  match m.cond with
  | .clear => m.hit holdOff .clear
  | .degraded => m.hit holdOff .degraded
  | .waiting => m.hit holdOff .waiting
  | .holding _ _ => { m with integrator := 0 }
  | .failed => { m with integrator := 0 }

/-- A defect clears (R45, R46). -/
def Monitor.defectClears (m : Monitor) (wtr : Nat) : Monitor :=
  match m.cond with
  | .holding ret _ => { m with cond := ret.cond, holdOffTimer := none }
  | .failed => if wtr = 0 then { m with cond := .clear } else { m with cond := .waiting, wtrTimer := some (wtr * Config.sec) }
  | .clear => m
  | .degraded => m
  | .waiting => m

/-- The set of defects becomes `new`; the machine acts when it goes from empty to not empty or back (R41). -/
def Monitor.setDefects (m : Monitor) (new : Defects) (holdOff wtr : Nat) : Monitor :=
  let m1 := { m with defects := new }
  if !m.defects.any && new.any then m1.defectAppears holdOff
  else if m.defects.any && !new.any then m1.defectClears wtr
  else m1

/-- The three conditions of the silence timer hold: Locked, Down, ring ID set (R42). -/
def State.quiet (s : State) (d : Side) : Bool :=
  decide ((s.lane d).lock = .locked) && decide ((s.lane d).adjacency = .down) && decide (s.node.ringId ≠ 0)

/-- The defects present by the inputs as they stand (R41); NeighbourSilent stays present while the three conditions of
R42 hold. -/
def State.defectsNow (s : State) (d : Side) : Defects :=
  { lineFail := (s.mon d).lineFail,
    signallingLoss := decide ((s.lane d).lock = .hunting) && !(s.mon d).lineFail && decide (s.node.ringId ≠ 0),
    misconnection := decide ((s.lane d).adjacency = .mismatched),
    neighbourSilent := s.quiet d && (s.mon d).defects.neighbourSilent }

/-- The silence timer by the inputs as they stand: it starts when the three conditions come to hold, runs on while they
hold, and stops when one ends (R42). -/
def State.silenceNow (s : State) (d : Side) : Option Nat :=
  if s.quiet d && !(s.mon d).defects.neighbourSilent then some ((s.mon d).silenceTimer.getD Config.silenceTime) else none

/-- The Line Monitor of a side works out its defects again and the machine acts (R39). -/
def evalMonitor (d : Side) (s : State) : State :=
  s.setMon d (Monitor.setDefects { s.mon d with silenceTimer := s.silenceNow d } (s.defectsNow d) s.node.holdOff s.node.wtr)

/-- An event at one Line Monitor, with the own report it may change. -/
def lineEvent (d : Side) (s : State) : State := refreshReports (evalMonitor d s)

/-- The integrator takes a count (R48). -/
def Monitor.integrate (m : Monitor) (count : Nat) : Nat := min (m.integrator + count - m.leak) Config.integratorMax

/-- A well-formed block-count report: ignored while a defect is present; else integrated and compared (R48, R49, R50). -/
def Monitor.takeCount (m : Monitor) (count : Nat) : Monitor :=
  if m.defects.any then m
  else
    let i := m.integrate count
    match m.cond with
    | .clear => { m with integrator := i, cond := if m.declareLevel ≤ i then .degraded else .clear }
    | .degraded => { m with integrator := i, cond := if i ≤ m.clearLevel then .clear else .degraded }
    | _ => { m with integrator := i }

/-- The hold-off timer runs out: from Holding to Failed with the current cause, the WTR timer stopped (R45). -/
def Monitor.holdOffExpires (m : Monitor) : Monitor :=
  match m.cond with
  | .holding _ _ => { m with cond := .failed, holdOffTimer := none, wtrTimer := none }
  | _ => { m with holdOffTimer := none }

/-- The WTR timer runs out (R45, R47). -/
def Monitor.wtrExpires (m : Monitor) : Monitor :=
  match m.cond with
  | .waiting => { m with wtrTimer := none, cond := if m.declareLevel ≤ m.integrator then .degraded else .clear }
  | .holding .waiting held => { m with wtrTimer := none, cond := .holding .clear held }
  | _ => { m with wtrTimer := none }

/-- The silence timer runs out: NeighbourSilent becomes present (R42). -/
def Monitor.silenceExpires (m : Monitor) (holdOff wtr : Nat) : Monitor :=
  Monitor.setDefects { m with silenceTimer := none } { m.defects with neighbourSilent := true } holdOff wtr

/-- The Line Monitor at a soft reset: the input level and the degrade settings are kept (R55). -/
def Monitor.softReset (m : Monitor) : Monitor :=
  { Monitor.reset with lineFail := m.lineFail, leak := m.leak, declareLevel := m.declareLevel, clearLevel := m.clearLevel }

/-- The Line Monitor at a full reset: only the input level is no state of its own (R55, entry 7). -/
def Monitor.fullReset (m : Monitor) : Monitor := { Monitor.reset with lineFail := m.lineFail }

end Sys2Proof.Machine
end

