-- ==== Sys2Proof/Machine/LaneOps.lean ====
section
/-!
DEFINITION. The Signalling Engine: lock, adjacency, entry to and exit from Up, the transmitter, and what a lane does with
a frame that is acted on (04); entry to Syncing, which a Greeting can bring about (R32, R33).
-/

namespace Sys2Proof.Machine

/-! ### Node Control's join condition -/

/-- Both adjacencies are Up and map exchange is complete on both lanes (R32). -/
def State.joinCondition (s : State) : Bool :=
  decide (s.laneEast.adjacency = .up) && decide (s.laneWest.adjacency = .up) && s.laneEast.exchanged &&
    s.laneWest.exchanged

/-- Entry to Syncing: the join timer stops, a running sweep is abandoned with the abandon count set to 0, and a sweep
starts (R32, R33, R116). -/
def enterSyncing (s : State) : State :=
  startSweep { s with
    node := { s.node with state := .syncing, joinTimer := none },
    planner := { s.planner with abandonCount := 0 } }

/-- The join condition is tested on an event that can make it true (R32). -/
def joinCheck (s : State) : State := if s.node.state = .joining ∧ s.joinCondition = true then enterSyncing s else s

/-! ### Adjacency -/

/-- What leaving Up does to the lane's transmit state (R65). -/
def Lane.leaveUp (l : Lane) : Lane :=
  { l with pendingKeys := [], queue := [], mapSent := false, exchanged := false, differs := false }

/-- The adjacency becomes `a`, which is not Up, with the effects of leaving Up where it was Up (R65). -/
def Lane.fallTo (l : Lane) (a : Adjacency) : Lane :=
  { (if l.adjacency = .up then l.leaveUp else l) with adjacency := a }

/-- The adjacency goes to Down and its timer stops (R59, R64). -/
def Lane.toDown (l : Lane) : Lane := { l.fallTo .down with adjTimer := none }

/-- The lane returns to Hunting and its adjacency goes to Down (R58, R59). -/
def Lane.loseLock (l : Lane) : Lane := { l.toDown with lock := .hunting, goodRun := 0, lockWindow := none }

/-- Every key of the ring (R65). -/
def allKeys (n : Nat) : List Nat := List.range (2 * n)

/-! ### Lock -/

/-- A good frame counts towards lock (R58). -/
def Lane.countGood (l : Lane) : Lane :=
  match l.lock with
  | .hunting =>
    if l.goodRun + 1 < Config.lockRun then { l with goodRun := l.goodRun + 1 }
    else { l with goodRun := Config.lockRun, lock := .locked, badRun := 0, lockWindow := some Config.lockWindowTime }
  | .locked => { l with badRun := 0, lockWindow := some Config.lockWindowTime }

/-- A bad frame counts towards loss of lock (R58). -/
def Lane.countBad (l : Lane) : Lane :=
  match l.lock with
  | .hunting => { l with goodRun := 0 }
  | .locked =>
    if l.badRun + 1 < Config.unlockRun then { l with badRun := l.badRun + 1 }
    else { l with badRun := Config.unlockRun }.loseLock

/-- A good frame arrives: it counts towards lock, and a change of lock state reaches the Line Monitor (R57, R59). -/
def takeGood (d : Side) (s : State) : State := lineEvent d (s.setLane d (s.lane d).countGood)

/-- A good frame arriving now is acted on: the lane was Locked before it and the ring ID is set (R57). -/
def State.actsOn (s : State) (d : Side) : Bool := decide ((s.lane d).lock = .locked) && decide (s.node.ringId ≠ 0)

/-! ### Greetings -/

/-- Every field of a Greeting is in its range (R57, R180). -/
def greetingInRange (g : Greeting) : Bool :=
  decide (1 ≤ g.ringId) && decide (g.ringId ≤ 65535) && decide (g.sender ≤ 23) && decide (3 ≤ g.ringSize) &&
    decide (g.ringSize ≤ 24)

/-- The Greeting is correct on the lane it arrived on (R61). -/
def State.correct (s : State) (d : Side) (g : Greeting) : Bool :=
  decide (g.ringId = s.node.ringId) && decide (g.ringSize = s.node.ringSize) && decide (g.senderSide = d.other) &&
    decide (g.sender = expectedNeighbour s.node.ringSize s.node.own d)

/-- A Greeting that R62 or R63 acts on restarts the adjacency timer and is stored (R62, R63). -/
def Lane.greeted (l : Lane) (g : Greeting) : Lane :=
  { l with adjTimer := some Config.adjacencyTime, neighbour := some g }

/-- Entry to Up: every key is marked, map sent is no; the digest comparison is made on the state that results (R65). -/
def enterUp (d : Side) (s : State) : State :=
  compareDigest d (s.setLane d { s.lane d with
    adjacency := .up, pendingKeys := allKeys s.node.ringSize, mapSent := false, exchanged := false, differs := false })

/-- A correct Greeting moves the adjacency (R62), and while Up it may complete the exchange and is compared (R66, R67). One
that takes the adjacency out of Up is not compared (DESIGN CHOICE, entry 29). -/
def correctGreeting (d : Side) (g : Greeting) (s : State) : State :=
  let l := (s.lane d).greeted g
  match l.adjacency with
  | .down => s.setLane d { l with adjacency := .heard }
  | .mismatched => s.setLane d { l with adjacency := .heard }
  | .heard => if g.heard then enterUp d (s.setLane d l) else s.setLane d l
  | .up =>
    if g.heard then compareDigest d (s.setLane d { l with exchanged := l.exchanged || g.mapSent })
    else s.setLane d (l.fallTo .heard)

/-- An incorrect Greeting moves the adjacency to Mismatched; the entry raises Misconnection (R63). -/
def incorrectGreeting (d : Side) (g : Greeting) (s : State) : State :=
  raiseIf (decide ((s.lane d).adjacency ≠ .mismatched)) .misconnection
    (s.setLane d (((s.lane d).greeted g).fallTo .mismatched))

/-- What a Greeting that is acted on does (R62, R63), with the line event and the join condition that follow. -/
def actOnGreeting (d : Side) (g : Greeting) (s : State) : State :=
  joinCheck (lineEvent d (if s.correct d g then correctGreeting d g s else incorrectGreeting d g s))

/-! ### Span Reports -/

/-- Every field of a Span Report is in its range (R57, R180). -/
def spanReportInRange (r : SpanReport) : Bool := decide (r.span ≤ 23)

/-- Epoch `x` is newer than epoch `y` (R71). -/
def newer (x y : BitVec 16) : Bool := decide (1 ≤ (x - y).toNat) && decide ((x - y).toNat ≤ 32767)

/-- The content a Span Report carries. -/
def reportContent (r : SpanReport) : Content := { state := r.state, cause := r.cause }

/-- The key of a Span Report (R71). -/
def reportKey (r : SpanReport) : Nat := keyOf r.span r.spanEnd

/-- A report for a key that is not an own key: stored and marked on the other lane when the key is unknown or the report
is newer; else discarded (R72). -/
def takeOther (d : Side) (r : SpanReport) (s : State) : State :=
  let store : State :=
    compareSpans (markKey d.other (reportKey r)
      { s with map := { s.map with
        others := Table.set none s.map.others (reportKey r) (some { content := reportContent r, epoch := r.epoch }) } })
  match Table.get none s.map.others (reportKey r) with
  | none => store
  | some held => if newer r.epoch held.epoch then store else s

/-- A report for an own key: own-epoch adoption, or discarded (R73). -/
def takeForOwn (o : Side) (r : SpanReport) (s : State) : State :=
  if newer r.epoch (s.map.own o).epoch ∨ (r.epoch = (s.map.own o).epoch ∧ reportContent r ≠ (s.map.own o).content) then
    markBoth (reportKey r) { s with map := s.map.setOwn o { s.map.own o with epoch := r.epoch + 1 } }
  else s

/-- What a Span Report that is acted on does (R71). -/
def actOnSpanReport (d : Side) (r : SpanReport) (s : State) : State :=
  if (s.lane d).adjacency = .heard ∨ (s.lane d).adjacency = .up then
    if r.span < s.node.ringSize then
      if (reportKey r) = ownKey s.node.ringSize s.node.own .east then takeForOwn .east r s
      else if (reportKey r) = ownKey s.node.ringSize s.node.own .west then takeForOwn .west r s
      else takeOther d r s
    else s
  else s

/-! ### Path Confirms -/

/-- Every field of a Path Confirm is in its range (R57, R180). -/
def confirmInRange (p : PathConfirm) : Bool :=
  decide (p.handle ≤ 4095) && decide (p.sender ≤ 23) && decide (p.target ≤ 23)

/-- A Path Confirm is given to a lane: it joins the queue of a lane that is Up and not full, and is dropped otherwise
(R69). -/
def giveConfirm (d : Side) (p : PathConfirm) (s : State) : State :=
  if (s.lane d).adjacency = .up ∧ (s.lane d).queue.length < Config.queueLimit then
    s.setLane d { s.lane d with queue := (s.lane d).queue ++ [p] }
  else s

/-- A Path Confirm for another node: forwarded with its hop count decremented, or dropped (R75). -/
def forwardConfirm (d : Side) (p : PathConfirm) (s : State) : State :=
  if p.hops.toNat ≤ 1 then s else giveConfirm d.other { p with hops := p.hops - 1 } s

/-! ### The transmitter -/

/-- The Greeting that a lane's transmitter sends, from the state as it stands (R60). -/
def State.greetingFor (s : State) (d : Side) : Greeting :=
  { ringId := s.node.ringId, sender := s.node.own, senderSide := d, ringSize := s.node.ringSize,
    digest := s.store.digest, nodeState := s.node.state,
    heard := decide ((s.lane d).adjacency = .heard) || decide ((s.lane d).adjacency = .up),
    mapSent := (s.lane d).mapSent }

/-- The span end of a key. -/
def endOfKey (key : Nat) : SpanEnd := if key % 2 = 0 then .lower else .upper

/-- The Span Report that carries a known report (R68). -/
def reportFor (key : Nat) (e : EndReport) : SpanReport :=
  { span := key / 2, spanEnd := endOfKey key, state := e.content.state, cause := e.content.cause, epoch := e.epoch }

/-- The pending keys from the lowest known one on: unknown keys before it are dropped (R68). -/
def State.fromKnown (s : State) : List Nat → List Nat
  | [] => []
  | k :: l => match s.report k with
    | none => s.fromKnown l
    | some _ => k :: l

/-- The Greeting is sent: no longer due, and the count of reports sent while due returns to 0 (R70). -/
def Lane.sendGreeting (l : Lane) (frame : List Byte) : Lane :=
  { l with greetDue := false, dueReports := 0, tx := frame }

/-- The pending set becomes `keys`; the event that first leaves it empty while the adjacency is Up makes map sent yes
(R67). -/
def Lane.leaveKeys (l : Lane) (keys : List Nat) : Lane :=
  { l with
    pendingKeys := keys,
    mapSent := l.mapSent || (decide (l.adjacency = .up) && decide (l.pendingKeys ≠ []) && decide (keys = [])) }

/-- The choices of R70 after the pending set: a due Greeting, the Path Confirm at the head, Fill. -/
def Lane.sendRest (l : Lane) (greeting : List Byte) : Lane :=
  if l.greetDue then l.sendGreeting greeting
  else match l.queue with
    | p :: rest => { l with queue := rest, tx := pathConfirmFrame p }
    | [] => { l with tx := fillFrame }

/-- What a lane sends in one frame slot (R56, R67 to R70). The content is that of the state at the start of the slot. -/
def State.slotLane (s : State) (d : Side) : Lane :=
  let l := s.lane d
  let greeting := greetingFrame (s.greetingFor d)
  if s.node.ringId = 0 then { l with tx := fillFrame }
  else if l.greetDue ∧ Config.reportsBeforeGreeting ≤ l.dueReports then l.sendGreeting greeting
  else
    match s.fromKnown l.pendingKeys with
    | k :: rest =>
      match s.report k with
      | some e =>
        { l.leaveKeys rest with
          tx := spanReportFrame (reportFor k e),
          dueReports := if l.greetDue then l.dueReports + 1 else l.dueReports }
      | none => (l.leaveKeys rest).sendRest greeting
    | [] => (l.leaveKeys []).sendRest greeting

/-! ### Resets -/

/-- The lane at a soft reset: the Greeting timer starts where the ring ID is set (R60, R77). -/
def Lane.softReset (l : Lane) (ringId : Nat) : Lane :=
  { Lane.reset with greetTimer := if ringId = 0 then none else some Config.greetingTime, tx := l.tx }

end Sys2Proof.Machine
end

