-- ==== Sys2Proof/Decode.lean ====
section
/-!
DEFINITION. From bytes to commands: what the host's table word spells (nothing: no row of the table gives bits), the
transactions of the Management Port (R155, R157, R179), lane frames (R57, R180), and the byte streams of the Fabric Link
and of the status lanes (R127, R40, R180); with encoders for what arrives from outside. The step takes commands; these
functions say which command a run of bytes is (entry 25).
-/

namespace Sys2Proof

open Sys2Proof.Machine

/-- The command that a word spells by the table's bits: the table gives bits to no row, so no word spells one. -/
def decodeTableWord (_nbits _w : Nat) : Option Instr := none

/-! ### Management Port -/

/-- A stage image from its 18 bytes (R178). -/
def decodeImage (b : List Byte) : StageImage :=
  { handle := de2 (b.getD 0 0) (b.getD 1 0), circuit := de3 (b.getD 2 0) (b.getD 3 0) (b.getD 4 0),
    kind := (b.getD 5 0).toNat % 4, dir := if (b.getD 5 0).getLsbD 2 then .west else .east,
    lockout := (b.getD 5 0).getLsbD 3, endA := (b.getD 6 0).toNat, endB := (b.getD 7 0).toNat,
    workSlot := (b.getD 8 0).toNat, protSlot := (b.getD 9 0).toNat, prio := (b.getD 10 0).toNat,
    ceiling := de3 (b.getD 11 0) (b.getD 12 0) (b.getD 13 0), port := b.getD 16 0,
    portPresent := (b.getD 17 0).getLsbD 0 }

/-- `n` stage images one after the other. -/
def decodeImages : Nat → List Byte → List StageImage
  | 0, _ => []
  | n + 1, b => decodeImage (b.take 18) :: decodeImages n (b.drop 18)

/-- The request without parameters, where there are none (R179). -/
def noParams (i : Instr) : List Byte → Option Instr
  | [] => some i
  | _ => none

/-- The request with a handle, from 2 bytes. -/
def handleParam (f : Nat → Instr) : List Byte → Option Instr
  | [a, b] => some (f (de2 a b))
  | _ => none

/-- The request with one byte. -/
def byteParam (f : Nat → Instr) : List Byte → Option Instr
  | [a] => some (f a.toNat)
  | _ => none

/-- The request with a handle and a stage image, from 20 bytes. -/
def imageParam (f : Nat → StageImage → Instr) (b : List Byte) : Option Instr :=
  if b.length = 20 then some (f (de2 (b.getD 0 0) (b.getD 1 0)) (decodeImage (b.drop 2))) else none

/-- Stream Chunk: the image count and that many images, whatever the count (R157, R179). -/
def chunkParam (tag : Byte) : List Byte → Option Instr
  | [] => none
  | n :: b => if b.length = 18 * n.toNat then some (.streamChunk tag (decodeImages n.toNat b)) else none

/-- The request of a command code (R179): `none` for a code that is none of the 29, and `some` of the parameters' reading,
itself `none` where the parameter part has not the size the command needs (checks 2 and 3 of R157). -/
def requestOf (code : Nat) (tag : Byte) (p : List Byte) : Option (Option Instr) :=
  match code with
  | 0x10 => some (noParams (.start tag) p)
  | 0x11 => some (noParams (.stop tag) p)
  | 0x12 => some (noParams (.softReset tag) p)
  | 0x13 => some (match p with
    | [a, b, n, k] => some (.setRing tag (de2 a b) n.toNat k.toNat)
    | _ => none)
  | 0x14 => some (match p with
    | [a, b, c, d, e, f, g, h, i] => some (.setTimers tag (de2 a b) (de2 c d) (de2 e f) (de2 g h) i.toNat)
    | _ => none)
  | 0x15 => some (match p with
    | [s, a, b, c, d, e, f, g, h] => some (.setDegrade tag s.toNat (BitVec.ofNat 16 (de2 a b)) (BitVec.ofNat 24 (de3 c d e))
      (BitVec.ofNat 24 (de3 f g h)))
    | _ => none)
  | 0x16 => some (match p with
    | [s, a, b] => some (.setSpanDelay tag s.toNat (BitVec.ofNat 16 (de2 a b)))
    | _ => none)
  | 0x17 => some (noParams (.readNode tag) p)
  | 0x20 => some (imageParam (.stageRecord tag) p)
  | 0x21 => some (imageParam (.amendRecord tag) p)
  | 0x22 => some (handleParam (.activateRecord tag) p)
  | 0x23 => some (handleParam (.retireRecord tag) p)
  | 0x24 => some (handleParam (.discardRecord tag) p)
  | 0x25 => some (handleParam (.readRecord tag) p)
  | 0x26 => some (match p with
    | [a, b, c] => some (.findCircuit tag (de3 a b c))
    | _ => none)
  | 0x27 => some (noParams (.nextChanged tag) p)
  | 0x30 => some (match p with
    | [a, b, c, d, e] => some (.streamBegin tag (de2 a b) (de2 c d) (e.getLsbD 0))
    | _ => none)
  | 0x31 => some (chunkParam tag p)
  | 0x32 => some (noParams (.streamStatus tag) p)
  | 0x33 => some (noParams (.streamAbort tag) p)
  | 0x40 => some (byteParam (.forceSpan tag) p)
  | 0x41 => some (byteParam (.releaseSpan tag) p)
  | 0x42 => some (noParams (.readSpanMap tag) p)
  | 0x43 => some (byteParam (.readLane tag) p)
  | 0x44 => some (byteParam (.readSlotGrants tag) p)
  | 0x50 => some (match p with
    | [a, b, c] => some (.readConnections tag (de2 a b) c.toNat)
    | _ => none)
  | 0x60 => some (noParams (.readSummary tag) p)
  | 0x61 => some (byteParam (.acknowledgeCause tag) p)
  | 0x62 => some (match p with
    | [a] => some (.setAttentionMask tag a)
    | _ => none)
  | _ => none

/-- The command that a request transaction spells, from its complete bytes, the first of which is the length L (R155,
R157). -/
def decodeRequest (clocked : List Byte) : Instr :=
  let len := (clocked.getD 0 0).toNat
  let frame := clocked.take len
  if clocked.length < len ∨ len < 5 ∨ crcOk frame = false then .badFrame clocked
  else match requestOf (frame.getD 1 0).toNat (frame.getD 2 0) ((frame.drop 3).take (len - 5)) with
    | none => .unknownCommand clocked
    | some none => .badFrame clocked
    | some (some i) => i

/-- The command that a transaction is: `bits` bits were clocked in all, `clocked` are the complete bytes among them. A
transaction without a complete byte is ignored (R155). -/
def decodeTransaction (bits : Nat) (clocked : List Byte) : Option Instr :=
  match clocked with
  | [] => none
  | b :: _ => if b = 0 then some (.readTransaction (bits - 8)) else some (decodeRequest clocked)

/-! ### Lanes -/

/-- The Greeting in the bytes after the type, where the coded fields have a meaning (R180). -/
def decodeGreeting (b : List Byte) : Option Greeting :=
  match sideOf (b.getD 3 0).toNat, nodeStateOf (b.getD 9 0).toNat with
  | some side, some state =>
    some { ringId := de2 (b.getD 0 0) (b.getD 1 0), sender := (b.getD 2 0).toNat, senderSide := side,
           ringSize := (b.getD 4 0).toNat,
           digest := BitVec.ofNat 32 (de4 (b.getD 5 0) (b.getD 6 0) (b.getD 7 0) (b.getD 8 0)), nodeState := state,
           heard := (b.getD 10 0).getLsbD 7, mapSent := (b.getD 10 0).getLsbD 6 }
  | _, _ => none

/-- The Span Report in the bytes after the type (R180). -/
def decodeSpanReport (b : List Byte) : Option SpanReport :=
  match spanEndOf (b.getD 1 0).toNat, reportStateOf (b.getD 2 0).toNat, reportCauseOf (b.getD 3 0).toNat with
  | some e, some st, some c =>
    some { span := (b.getD 0 0).toNat, spanEnd := e, state := st, cause := c,
           epoch := BitVec.ofNat 16 (de2 (b.getD 4 0) (b.getD 5 0)) }
  | _, _, _ => none

/-- The Path Confirm in the bytes after the type; the heard flag is 0 or 1 (R180). -/
def decodePathConfirm (b : List Byte) : Option PathConfirm :=
  if (b.getD 6 0).toNat ≤ 1 then
    some { handle := de2 (b.getD 0 0) (b.getD 1 0), check := BitVec.ofNat 16 (de2 (b.getD 2 0) (b.getD 3 0)),
           sender := (b.getD 4 0).toNat, target := (b.getD 5 0).toNat, heard := (b.getD 6 0).getLsbD 0,
           hops := b.getD 7 0 }
  else none

/-- A good frame of a type, with its body: the command, or a discarded good frame where a field is out of range (R57). -/
def frameOf {α : Type} (d : Side) (body : Option α) (inRange : α → Bool) (f : α → Instr) : Instr :=
  match body with
  | none => .discardedGoodFrame d
  | some x => if inRange x then f x else .discardedGoodFrame d

/-- The command that the bytes of one frame slot are, on the lane of a side (R57, R180). -/
def decodeLaneFrame (d : Side) (frame : List Byte) : Instr :=
  if frame.length = 16 ∧ crcOk frame = true then
    match (frame.getD 0 0).toNat with
    | 0x01 => .fill d
    | 0x02 => frameOf d (decodeGreeting (frame.drop 1)) greetingInRange (.greeting d)
    | 0x03 => frameOf d (decodeSpanReport (frame.drop 1)) spanReportInRange (.spanReport d)
    | 0x04 => frameOf d (decodePathConfirm (frame.drop 1)) confirmInRange (.pathConfirm d)
    | _ => .discardedGoodFrame d
  else .laneBadFrame d

/-! ### Fabric Link and status lanes -/

/-- Where a receiver of a byte stream stands: between frames, skipping to the next idle byte, or inside a frame of a fixed
length with the bytes it has, newest last. -/
inductive StreamMode where
  | between
  | skipping
  | inside (length : Nat) (got : List Byte)
  deriving DecidableEq, Repr

/-- The command of a whole answer (R127, R180). -/
def answerOf (frame : List Byte) : Instr :=
  if crcOk frame then
    if (frame.getD 0 0).toNat = 0x12 then .fabricDone (frame.getD 1 0) ((frame.getD 2 0).getLsbD 0)
    else .fabricRefused (frame.getD 1 0)
  else .fabricLinkDiscard

/-- One byte at the Fabric Link's receiver (R180). A nonzero byte right after a whole frame starts the next frame (DESIGN
CHOICE, entry 28). -/
def linkByte (mode : StreamMode) (b : Byte) : StreamMode × List Instr :=
  match mode with
  | .between =>
    if b = 0 then (.between, [])
    else if b.toNat = 0x12 then (.inside 5 [b], [])
    else if b.toNat = 0x13 then (.inside 4 [b], [])
    else (.skipping, [.fabricLinkDiscard])
  | .skipping => if b = 0 then (.between, []) else (.skipping, [])
  | .inside length got =>
    if got.length + 1 < length then (.inside length (got ++ [b]), []) else (.between, [answerOf (got ++ [b])])

/-- A run of bytes at the Fabric Link's receiver. -/
def decodeLink : StreamMode → List Byte → StreamMode × List Instr
  | mode, [] => (mode, [])
  | mode, b :: l => ((decodeLink (linkByte mode b).1 l).1, (linkByte mode b).2 ++ (decodeLink (linkByte mode b).1 l).2)

/-- One byte on a status lane; a malformed report is discarded with the bytes up to the next idle byte (R40, R180). A nonzero
byte right after a well-formed report starts the next report (DESIGN CHOICE, entry 28). -/
def statusByte (d : Side) (mode : StreamMode) (b : Byte) : StreamMode × List Instr :=
  match mode with
  | .between =>
    if b = 0 then (.between, [])
    else if b.toNat = 0x21 then (.inside 5 [b], [])
    else (.skipping, [.blockCountReport d none])
  | .skipping => if b = 0 then (.between, []) else (.skipping, [])
  | .inside length got =>
    if got.length + 1 < length then (.inside length (got ++ [b]), [])
    else if crcOk (got ++ [b]) then
      (.between, [.blockCountReport d (some (BitVec.ofNat 16 (de2 (got.getD 1 0) (got.getD 2 0))))])
    else (.skipping, [.blockCountReport d none])

/-- A run of bytes on a status lane. -/
def decodeStatusLane (d : Side) : StreamMode → List Byte → StreamMode × List Instr
  | mode, [] => (mode, [])
  | mode, b :: l =>
    ((decodeStatusLane d (statusByte d mode b).1 l).1,
      (statusByte d mode b).2 ++ (decodeStatusLane d (statusByte d mode b).1 l).2)

/-! ### Encoders -/

/-- A stage image as bytes (R178). -/
def encodeImage (i : StageImage) : List Byte :=
  be2 i.handle ++ be3 i.circuit ++ be1 (i.kind + 4 * sideCode i.dir + 8 * i.lockout.toNat) ++ be1 i.endA ++ be1 i.endB ++
    be1 i.workSlot ++ be1 i.protSlot ++ be1 i.prio ++ be3 i.ceiling ++ be2 0 ++ [i.port] ++ flagByte i.portPresent

/-- Code, tag and parameters of a request; `none` for a command that is no request (R179). -/
def requestParts : Instr → Option (Nat × Byte × List Byte)
  | .start tag => some (0x10, tag, [])
  | .stop tag => some (0x11, tag, [])
  | .softReset tag => some (0x12, tag, [])
  | .setRing tag ringId ringSize own => some (0x13, tag, be2 ringId ++ be1 ringSize ++ be1 own)
  | .setTimers tag holdOff wtr confirmInterval reassertInterval cadence =>
    some (0x14, tag, be2 holdOff ++ be2 wtr ++ be2 confirmInterval ++ be2 reassertInterval ++ be1 cadence)
  | .setDegrade tag side leak declare clear =>
    some (0x15, tag, be1 side ++ be2 leak.toNat ++ be3 declare.toNat ++ be3 clear.toNat)
  | .setSpanDelay tag span delay => some (0x16, tag, be1 span ++ be2 delay.toNat)
  | .readNode tag => some (0x17, tag, [])
  | .stageRecord tag h i => some (0x20, tag, be2 h ++ encodeImage i)
  | .amendRecord tag h i => some (0x21, tag, be2 h ++ encodeImage i)
  | .activateRecord tag h => some (0x22, tag, be2 h)
  | .retireRecord tag h => some (0x23, tag, be2 h)
  | .discardRecord tag h => some (0x24, tag, be2 h)
  | .readRecord tag h => some (0x25, tag, be2 h)
  | .findCircuit tag circuit => some (0x26, tag, be3 circuit)
  | .nextChanged tag => some (0x27, tag, [])
  | .streamBegin tag first count activate => some (0x30, tag, be2 first ++ be2 count ++ flagByte activate)
  | .streamChunk tag images => some (0x31, tag, be1 images.length ++ images.flatMap encodeImage)
  | .streamStatus tag => some (0x32, tag, [])
  | .streamAbort tag => some (0x33, tag, [])
  | .forceSpan tag side => some (0x40, tag, be1 side)
  | .releaseSpan tag side => some (0x41, tag, be1 side)
  | .readSpanMap tag => some (0x42, tag, [])
  | .readLane tag side => some (0x43, tag, be1 side)
  | .readSlotGrants tag span => some (0x44, tag, be1 span)
  | .readConnections tag first count => some (0x50, tag, be2 first ++ be1 count)
  | .readSummary tag => some (0x60, tag, [])
  | .acknowledgeCause tag cause => some (0x61, tag, be1 cause)
  | .setAttentionMask tag enables => some (0x62, tag, [enables])
  | .fullReset => none
  | .lineFail _ _ => none
  | .blockCountReport _ _ => none
  | .holdOffTimerExpiry _ => none
  | .wtrTimerExpiry _ => none
  | .silenceTimerExpiry _ => none
  | .frameSlot => none
  | .laneBadFrame _ => none
  | .fill _ => none
  | .greeting _ _ => none
  | .spanReport _ _ => none
  | .pathConfirm _ _ => none
  | .lockWindowTimerExpiry _ => none
  | .adjacencyTimerExpiry _ => none
  | .greetingTimerExpiry _ => none
  | .joinTimerExpiry => none
  | .gatherHandle => none
  | .classPassEntry => none
  | .extraPassEntry => none
  | .sweepCommit => none
  | .fabricDone _ _ => none
  | .fabricRefused _ => none
  | .fabricLinkDiscard => none
  | .responseTimerExpiry => none
  | .reassertionTimerExpiry => none
  | .confirmTimerExpiry _ => none
  | .readTransaction _ => none
  | .requestDiscarded => none
  | .badFrame _ => none
  | .unknownCommand _ => none
  | .responsePlaced => none
  | .discardedGoodFrame _ => none

/-- The request frame of a request (R179); no bytes for a command that is no request. -/
def encodeRequest (i : Instr) : List Byte :=
  match requestParts i with
  | none => []
  | some (code, tag, params) => closeFrame (be1 (params.length + 5) ++ be1 code ++ [tag] ++ params)

/-- A Done frame (R180). -/
def doneFrame (tag : Byte) (priorDiffered : Bool) : List Byte := closeFrame (be1 0x12 ++ [tag] ++ flagByte priorDiffered)

/-- A Refused frame (R180). -/
def refusedFrame (tag : Byte) : List Byte := closeFrame (be1 0x13 ++ [tag])

/-- A block-count report (R180). -/
def countFrame (count : BitVec 16) : List Byte := closeFrame (be1 0x21 ++ be2 count.toNat)

end Sys2Proof
end

