-- ==== Sys2Proof/Machine/ConfirmOps.lean ====
section
/-!
DEFINITION. The Confirmation Unit: the local connection, sending and taking Path Confirms, the confirm timer, and what a
commit, a Start, a Stop and an Amend do to an exchange (08).
-/

namespace Sys2Proof.Machine

/-- This node's role for a record if it is one of the record's ends (R138). -/
def Planning.endRole (p : Planning) (n k : Nat) : Option Role :=
  match p.role n k with
  | some .endA => some .endA
  | some .endB => some .endB
  | _ => none

/-- This node's end role for the record of a handle. -/
def State.endRole (s : State) (h : Nat) : Option Role := (s.record h).plan.endRole s.node.ringSize s.node.own

/-- The Connection Map entry at an index; an unlisted entry is as after a full reset (R121, R137). -/
def State.entry (s : State) (i : Nat) : Entry := Table.get Entry.untouched s.fabric.entries i

/-- The detour entry of a record at this end (R138). -/
def Planning.detourEntry (p : Planning) (r : Role) : Nat := protEntry (p.protSlot.getD 0) (p.detourSide r)

/-- The local connection is applied: the detour entry is confirmed Local of the record's local port, and Applied
(R138). -/
def State.localApplied (s : State) (h : Nat) (r : Role) : Bool :=
  match (s.record h).port with
  | none => false
  | some port =>
    decide ((s.entry ((s.record h).plan.detourEntry r)).last = some (.localPort port)) &&
      decide ((s.entry ((s.record h).plan.detourEntry r)).status = .applied)

/-- Write the exchange of a record; a change of its confirm state puts the record in the changed set (R139). -/
def setExchange (h : Nat) (x : Exchange) (s : State) : State :=
  markChangedIf (decide (x.state ≠ (s.record h).exchange.state)) h (s.setRec h { s.record h with exchange := x })

/-- The Path Confirm that this end sends for a record (R141). -/
def State.confirmFor (s : State) (h : Nat) (r : Role) (heard : Bool) : PathConfirm :=
  { handle := h, check := recordCheck (s.record h).code, sender := s.node.own, target := (s.record h).plan.otherEnd r,
    heard := heard, hops := BitVec.ofNat 8 s.node.ringSize }

/-- Send a Path Confirm on the record's detour side (R142). -/
def sendConfirm (h : Nat) (r : Role) (heard : Bool) (s : State) : State :=
  giveConfirm ((s.record h).plan.detourSide r) (s.confirmFor h r heard) s

/-- The confirm interval as a timer count (R30). -/
def State.confirmTime (s : State) : Nat := s.node.confirmInterval * Config.ms

/-- A Pending record whose local connection is applied enters Awaiting with attempt 1, and Restored in the same event if
the other end was heard while it was Pending (R141, R146). -/
def enterAwaiting (h : Nat) (r : Role) (s : State) : State :=
  let x := (s.record h).exchange
  setExchange h
    { x with
      state := if x.heardTheirs then .restored else .awaiting,
      attempts := 1, sending := true, timer := some s.confirmTime }
    (sendConfirm h r x.heardTheirs s)

/-- Test the local connection of a record in Pending; nothing is tested in Configuring (R140, R150). -/
def testLocal (h : Nat) (s : State) : State :=
  match s.endRole h with
  | none => s
  | some r =>
    if s.node.state ≠ .configuring ∧ (s.record h).exchange.state = .pending ∧ s.localApplied h r = true then
      enterAwaiting h r s
    else s

/-- What a commit hands the unit for one record: its outcome before, with the outcome after in the record (R139). -/
def confirmOutcome (h : Nat) (before : Outcome) (s : State) : State :=
  match s.endRole h with
  | none => s
  | some _ =>
    if before ≠ .detour ∧ (s.record h).outcome = .detour then
      testLocal h (setExchange h { Exchange.idle with state := .pending } s)
    else if before = .detour ∧ (s.record h).outcome ≠ .detour then setExchange h Exchange.idle s
    else s

/-- The detour entry of a record changed its status or last confirmed value between two states (R121, R140). -/
def detourEntryChanged (old new : State) (h : Nat) : Bool :=
  match new.endRole h with
  | none => false
  | some r =>
    let i := (new.record h).plan.detourEntry r
    decide ((old.entry i).status ≠ (new.entry i).status) || decide ((old.entry i).last ≠ (new.entry i).last)

/-- The Fabric Driver hands the unit the entries that changed: each record whose detour entry is among them is tested, in
ascending handle order (R140). -/
def handEntries (old : State) (s : State) : State :=
  forEach s.handles (fun h t => if detourEntryChanged old s h then testLocal h t else t) s

/-- The unit takes the confirm (R143). -/
def State.takesConfirm (s : State) (d : Side) (p : PathConfirm) : Bool :=
  match s.endRole p.handle with
  | none => false
  | some r =>
    decide (s.node.state ≠ .configuring) && decide ((s.record p.handle).outcome = .detour) &&
      decide (p.sender = (s.record p.handle).plan.otherEnd r) && decide (d = (s.record p.handle).plan.detourSide r) &&
      decide (p.check = recordCheck (s.record p.handle).code)

/-- The exchange after a confirm that is taken: the flags first, then the state (R144, R146). -/
def Exchange.heardConfirm (x : Exchange) (heard : Bool) : Exchange :=
  { x with
    heardTheirs := true,
    theyHeardMine := x.theyHeardMine || (heard && decide (1 ≤ x.attempts)),
    state := match x.state with
      | .awaiting => .restored
      | .unconfirmed => .restored
      | st => st }

/-- The record answers a confirm with a reply: heard flag clear, and Awaiting, Restored or Unconfirmed (R145). -/
def Exchange.replies (x : Exchange) (heard : Bool) : Bool :=
  !heard && (decide (x.state = .awaiting) || decide (x.state = .restored) || decide (x.state = .unconfirmed))

/-- A confirm whose target is this node: taken, or discarded without effect (R143 to R146). -/
def confirmArrives (d : Side) (p : PathConfirm) (s : State) : State :=
  match s.endRole p.handle with
  | none => s
  | some r =>
    if s.takesConfirm d p then
      let x := (s.record p.handle).exchange
      let s1 := setExchange p.handle (x.heardConfirm p.heard) s
      if x.replies p.heard then sendConfirm p.handle r true s1 else s1
    else s

/-- What a Path Confirm that is acted on does (R75). -/
def actOnPathConfirm (d : Side) (p : PathConfirm) (s : State) : State :=
  if (s.lane d).adjacency = .up then
    if p.sender = s.node.own then s
    else if p.target = s.node.own then confirmArrives d p s
    else forwardConfirm d p s
  else s

/-- The confirm timer of a record runs out (R147, R148). -/
def confirmExpires (h : Nat) (r : Role) (s : State) : State :=
  let x := (s.record h).exchange
  if x.theyHeardMine then setExchange h { x with sending := false, timer := none } s
  else if x.attempts < Config.maxAttempts then
    setExchange h { x with attempts := x.attempts + 1, timer := some s.confirmTime } (sendConfirm h r x.heardTheirs s)
  else if x.heardTheirs then setExchange h { x with sending := false, timer := none } s
  else raiseCause .restorationUnconfirmed
    (setExchange h { x with state := .unconfirmed, sending := false, timer := none } s)

/-- An Amend that changed a planning field restarts the sending of a record that is Awaiting or Unconfirmed; in
Configuring the restart sends nothing and starts no timer (R152). -/
def restartSending (h : Nat) (s : State) : State :=
  let x := (s.record h).exchange
  match s.endRole h with
  | none => s
  | some r =>
    if x.state = .awaiting ∨ x.state = .unconfirmed then
      if s.node.state = .configuring then
        setExchange h { x with state := .awaiting, attempts := 0, sending := true } s
      else
        setExchange h { x with state := .awaiting, attempts := 1, sending := true, timer := some s.confirmTime }
          (sendConfirm h r x.heardTheirs s)
    else s

/-- Entry to Joining for one record: a timer for a record that is sending, a test for one that is Pending (R151). -/
def resumeExchange (h : Nat) (s : State) : State :=
  let x := (s.record h).exchange
  if x.sending then setExchange h { x with timer := some s.confirmTime } s else testLocal h s

/-- Entry to Joining, in ascending handle order (R151). -/
def resumeExchanges (s : State) : State := forEach s.handles resumeExchange s

/-- Every confirm timer stops; states, flags, attempts and sending are kept (R150). -/
def stopConfirmTimers (s : State) : State :=
  { s with store := { s.store with
    records := Table.mapValues Record.free (fun _ r => { r with exchange := { r.exchange with timer := none } })
      s.store.records } }

end Sys2Proof.Machine
end

