-- ==== Sys2Proof/Machine/FabricOps.lean ====
section
/-!
DEFINITION. The Fabric Driver: deriving the desired map, sending commands, their end, connection statuses, and entry to
Running (07; R33, R34).
-/

namespace Sys2Proof.Machine

/-! ### Deriving the desired map -/

/-- The two protection or working slot entries of a transit, East and West. -/
def transitWrites (entry : Nat → Side → Nat) (slot : Nat) (v : ConnValue) : List (Nat × ConnValue) :=
  [(entry slot .east, v), (entry slot .west, v)]

/-- The entries that a record writes, by role, kind and committed outcome (R122). -/
def Record.writes (r : Record) (n k : Nat) : List (Nat × ConnValue) :=
  let p := r.plan
  let loc : ConnValue := .localPort (r.port.getD 0)
  let prot := p.protSlot.getD 0
  match p.role n k with
  | none => []
  | some role =>
    match p.kind, role, r.outcome with
    | .extra, .endA, .riding => [(protEntry p.workSlot (p.workingSide .endA), loc)]
    | .extra, .endB, .riding => [(protEntry p.workSlot (p.workingSide .endB), loc)]
    | .extra, .endA, .preempted => [(protEntry p.workSlot (p.workingSide .endA), .void)]
    | .extra, .endB, .preempted => [(protEntry p.workSlot (p.workingSide .endB), .void)]
    | .extra, .workingTransit, .riding => transitWrites protEntry p.workSlot .through
    | .extra, .workingTransit, .preempted => transitWrites protEntry p.workSlot .void
    | .extra, _, _ => []
    | _, .workingTransit, .working => transitWrites workEntry p.workSlot .through
    | _, .workingTransit, .detour => transitWrites workEntry p.workSlot .through
    | _, .workingTransit, .suppressed => transitWrites workEntry p.workSlot .through
    | .prot, .detourTransit, .detour => transitWrites protEntry prot .through
    | _, .workingTransit, _ => []
    | _, .detourTransit, _ => []
    | _, e, .working => [(workEntry p.workSlot (p.workingSide e), loc)]
    | _, e, .suppressed => [(workEntry p.workSlot (p.workingSide e), .void)]
    | .prot, e, .detour =>
      [(workEntry p.workSlot (p.workingSide e), .void), (protEntry prot (p.detourSide e), loc)]
    | _, _, _ => []

/-- What the record of a handle writes at this node. -/
def State.writesOf (s : State) (h : Nat) : List (Nat × ConnValue) := (s.record h).writes s.node.ringSize s.node.own

/-- What all records write. -/
def State.allWrites (s : State) : List (Nat × ConnValue) := s.handles.flatMap s.writesOf

/-- The value of entry `i` among what is written: one that is not Void wins over Void, and no writer gives Idle
(R123). -/
def resolveEntry (writes : List (Nat × ConnValue)) (i : Nat) : ConnValue :=
  match writes.find? (fun w => decide (w.1 = i) && decide (w.2 ≠ .void)) with
  | some w => w.2
  | none => if writes.any (fun w => decide (w.1 = i)) then .void else .idle

/-- An entry at a commit, by its status (R124); the resync commit marks Applied and Failed entries too. -/
def Entry.commit (e : Entry) (desired : ConnValue) (resync : Bool) : Entry :=
  { e with
    desired := desired,
    status := match e.status with
      | .inFlight => .inFlight
      | .dirty => .dirty
      | st => if resync || decide (desired ≠ e.desired) then .dirty else st }

/-- The first commit after entry to Syncing (R33). -/
def State.isResync (s : State) : Bool := decide (s.node.state = .syncing) && !s.fabric.resyncDone

/-- The driver derives the desired map at a commit (R122 to R124). -/
def deriveMap (s : State) : State :=
  let writes := s.allWrites
  { s with fabric := { s.fabric with
    entries := Table.ofFun Entry.untouched Config.entryCount
      (fun i => (s.entry i).commit (resolveEntry writes i) s.isResync),
    resyncDone := s.fabric.resyncDone || s.isResync } }

/-! ### Connection status -/

/-- Connection status from the statuses of the entries a record names (R132). -/
def connOf (named : List EntryStatus) : ConnStatus :=
  if named.isEmpty then .none
  else if named.any (fun st => decide (st = .failed)) then .fault
  else if named.any (fun st => decide (st = .dirty) || decide (st = .inFlight)) then .applying
  else .settled

/-- The connection status of the record of a handle, worked out anew (R132). -/
def State.connNow (s : State) (h : Nat) : ConnStatus := connOf ((s.writesOf h).map fun w => (s.entry w.1).status)

/-- Work out the connection status of one record; a change to Fault or Settled puts it in the changed set (R132). -/
def refreshConnOf (h : Nat) (s : State) : State :=
  if s.connNow h = (s.record h).conn then s
  else
    markChangedIf (decide (s.connNow h = .fault) || decide (s.connNow h = .settled)) h
      (s.setRec h { s.record h with conn := s.connNow h })

/-- Work out the connection status of every record (R132). -/
def refreshConn (s : State) : State := forEach s.handles refreshConnOf s

/-! ### Sending -/

/-- Phase of a desired value (R124). -/
def phaseOf : ConnValue → Nat
  | .idle => 1
  | .void => 1
  | .through => 2
  | .localPort _ => 3

/-- The dirty set, in index order (R121). -/
def State.dirtySet (s : State) : List Nat :=
  (s.fabric.entries.filter fun e => decide (e.2.status = .dirty)).map Prod.fst

/-- The Dirty entry that is sent next: of the lowest phase, and in it of the lowest index (R125). -/
def State.chooseDirty (s : State) : Option Nat :=
  let inPhase := fun ph => s.dirtySet.find? fun i => decide (phaseOf (s.entry i).desired = ph)
  (inPhase 1).orElse fun _ => (inPhase 2).orElse fun _ => inPhase 3

/-- Write an entry. -/
def State.setEntry (s : State) (i : Nat) (e : Entry) : State :=
  { s with fabric := { s.fabric with entries := Table.set Entry.untouched s.fabric.entries i e } }

/-- The command becomes the outstanding one and its Connect is sent: it takes the next tag and starts the response timer
(R126). -/
def sendCommand (c : Command) (s : State) : State :=
  let c1 := { c with tag := s.fabric.tagCounter + 1 }
  { s with fabric := { s.fabric with
    outstanding := some c1, tagCounter := s.fabric.tagCounter + 1, responseTimer := some Config.responseTime,
    tx := connectFrame c1 } }

/-- A first attempt for an entry, with its desired value and last confirmed value (R126). The tag is set by the
sending. -/
def State.commandFor (s : State) (i : Nat) (reassert : Bool) : Command :=
  { entry := i, value := (s.entry i).desired, prior := (s.entry i).last, tag := 0, attempt := 1, reassert := reassert }

/-- Send a dirty command: the entry becomes InFlight (R126). -/
def sendDirty (i : Nat) (s : State) : State :=
  (sendCommand (s.commandFor i false) s).setEntry i { s.entry i with status := .inFlight }

/-- Send the reassert command of the entry at the pointer (R134). -/
def sendReassert (s : State) : State := sendCommand (s.commandFor s.fabric.pointer true) s

/-- The driver chooses what to send, if anything: nothing while a command is outstanding or in Configuring; dirty work
first; a pending reassert request in Running (R125, R134, R135). -/
def dispatch (s : State) : State :=
  if s.fabric.outstanding ≠ none ∨ s.node.state = .configuring then s
  else match s.chooseDirty with
    | some i => sendDirty i s
    | none => if s.node.state = .running ∧ s.fabric.reassertPending = true then sendReassert s else s

/-! ### Entry to Running -/

/-- The Reassertion Timer's count: interval times scale, in ms (R30, R133). -/
def State.reassertTime (s : State) : Nat := s.node.reassertInterval * s.fabric.cadence * Config.ms

/-- Entry to Running: the Reassertion Timer is loaded and the Halted override is released (R34, R133, R135). -/
def enterRunning (s : State) : State :=
  refreshReports { s with
    node := { s.node with state := .running },
    fabric := { s.fabric with reassertTimer := some s.reassertTime, reassertPending := false } }

/-- After the resync commit the node enters Running on the first event that leaves the dirty set empty with no command
outstanding (R33). -/
def runningCheck (s : State) : State :=
  if s.node.state = .syncing ∧ s.fabric.resyncDone = true ∧ s.dirtySet = [] ∧ s.fabric.outstanding = none then
    enterRunning s
  else s

/-! ### The end of a command -/

/-- The command leaves the link; a reassert command advances the pointer and clears the request (R128, R130, R134). -/
def retireCommand (c : Command) (s : State) : State :=
  { s with fabric := { s.fabric with
    outstanding := none, responseTimer := none,
    pointer := if c.reassert then (s.fabric.pointer + 1) % Config.entryCount else s.fabric.pointer,
    reassertPending := if c.reassert then false else s.fabric.reassertPending } }

/-- A Done for Local of a port makes every other entry's last confirmed value of that port Unknown (R128). -/
def loseOtherPorts (i : Nat) (v : ConnValue) (s : State) : State :=
  match v with
  | .localPort q =>
    { s with fabric := { s.fabric with
      entries := Table.mapValues Entry.untouched
        (fun j e => if decide (j ≠ i) && decide (e.last = some (.localPort q)) then { e with last := none } else e)
        s.fabric.entries } }
  | _ => s

/-- An entry that is answered Done: confirmed at the value sent, and Applied or Dirty by its desired value as it stands
(R128). -/
def Entry.confirm (e : Entry) (v : ConnValue) : Entry :=
  { e with last := some v, status := if e.desired = v then .applied else .dirty }

/-- What a Done does to the map (R128). -/
def confirmEntry (c : Command) (s : State) : State :=
  loseOtherPorts c.entry c.value (s.setEntry c.entry ((s.entry c.entry).confirm c.value))

/-- What a Refused does to the map, with its cause (R130). -/
def failEntry (c : Command) (s : State) : State :=
  raiseCause .fabricFault (s.setEntry c.entry { s.entry c.entry with last := none, status := .failed })

/-- What follows the end of a command: the Confirmation Unit is handed the changes, the driver chooses again, connection
statuses are worked out, and the node may enter Running (R121, R125, R132, R33). -/
def afterCommand (old s : State) : State := runningCheck (refreshConn (dispatch (handEntries old s)))

/-- Write whether an answer has just ended a command (R131, entry 30). -/
def State.setAnswered (s : State) (b : Bool) : State := { s with fabric := { s.fabric with answered := b } }

/-- The outstanding command is answered Done (R128, R129). -/
def endDone (c : Command) (priorDiffered : Bool) (s : State) : State :=
  afterCommand s (raiseIf priorDiffered .fabricDrift (confirmEntry c (retireCommand c s)))

/-- The outstanding command is answered Refused, or its second response timer ran out (R130, R131). -/
def endRefused (c : Command) (s : State) : State := afterCommand s (failEntry c (retireCommand c s))

/-- The Fabric Driver at a soft reset: desired values, tag counter and cadence scale are kept (R137). -/
def Fabric.softReset (f : Fabric) : Fabric :=
  { Fabric.reset with
    entries := Table.mapValues Entry.untouched (fun _ e => { Entry.untouched with desired := e.desired }) f.entries,
    tagCounter := f.tagCounter, cadence := f.cadence, tx := f.tx }

end Sys2Proof.Machine
end

