-- ==== Sys2Proof/Machine/PlanOps.lean ====
section
/-!
DEFINITION. The Restoration Planner: evaluation of a gathered record, the class passes, the Extra pass, and the commit
(06).
-/

namespace Sys2Proof.Machine

/-! ### Evaluation -/

/-- Condition of a span in the snapshot (R95). -/
def snapCond (snap : List SnapSpan) (k : Nat) : PlanCond :=
  match snap[k]? with
  | some x => x.cond
  | none => .good

/-- Delay of a span in the snapshot (R95). -/
def snapDelay (snap : List SnapSpan) (k : Nat) : Nat :=
  match snap[k]? with
  | some x => x.delay.toNat
  | none => 0

/-- Working condition of an arc (R98). -/
def arcCond (snap : List SnapSpan) (arc : List Nat) : PlanCond :=
  if arc.any fun k => decide (snapCond snap k = .unusable) then .unusable
  else if arc.any fun k => decide (snapCond snap k = .impaired) then .impaired
  else .good

/-- Every span of an arc is Good (R100). -/
def arcGood (snap : List SnapSpan) (arc : List Nat) : Bool := arc.all fun k => decide (snapCond snap k = .good)

/-- Sum of the delays of an arc (R101). -/
def arcDelay (snap : List SnapSpan) (arc : List Nat) : Nat := (arc.map (snapDelay snap)).sum

/-- A detour delay passes a ceiling; an absent ceiling always passes (R101). -/
def delayPasses (ceiling : Option Nat) (delay : Nat) : Bool :=
  match ceiling with
  | none => true
  | some c => decide (delay ≤ c)

/-- The outcome of a record that gets no detour: Suppressed when its working arc is Unusable, else Working (R99, R102). -/
def withoutDetour (cond : PlanCond) (reason : Reason) : Verdict :=
  .settled (if cond = .unusable then .suppressed else .working) reason

/-- The pass of a class that treats a candidate (R101). -/
def passFor (cond : PlanCond) : Pass := if cond = .unusable then .a else .b

/-- Evaluation of a gathered record from its copied fields and the snapshot (R98 to R102). -/
def evaluate (snap : List SnapSpan) (n : Nat) (p : Planning) : Verdict :=
  let cond := arcCond snap (p.workingArc n)
  match p.kind with
  | .extra => .forExtra
  | .unprot => if cond = .good then .settled .working .none else withoutDetour cond .unprotected
  | .prot =>
    if cond = .good then .settled .working .none
    else if p.lockout then withoutDetour cond .lockedOut
    else if !arcGood snap (p.detourArc n) then withoutDetour cond .noRoute
    else if !delayPasses p.ceiling (arcDelay snap (p.detourArc n)) then withoutDetour cond .overDelay
    else .forClass (p.prio.getD 0) (passFor cond)

/-! ### Gathering -/

/-- Gathering looks at the handle at its position and advances; past 4095 the class pass of class 7, pass a, begins
(R96). -/
def gatherOne (s : State) : State :=
  let h := s.planner.gatherPos
  let r := s.record h
  let pl := s.planner
  let pl1 : Planner :=
    match r.lifecycle with
    | .active =>
      if pl.late.contains h then pl
      else { pl with buffer := pl.buffer ++
        [{ handle := h, plan := r.plan, verdict := evaluate pl.snapshot s.node.ringSize r.plan }] }
    | .retiring => { pl with excluded := setInsert pl.excluded h }
    | .free => pl
    | .staged => pl
  { s with planner := { pl1 with
    gatherPos := h + 1,
    phase := if Config.handleCount ≤ h + 1 then .classPass 7 .a else .gathering } }

/-! ### Passes -/

/-- The pass that follows a pass, from class 7 pass a down to class 0 pass b; none after that (R103). -/
def nextPass (cls : Nat) : Pass → Option (Nat × Pass)
  | .a => some (cls, .b)
  | .b => match cls with
    | 0 => none
    | c + 1 => some (c, .a)

/-- Some entry of the buffer is marked for the pass. -/
def hasMark (buffer : List PlanEntry) (v : Verdict) : Bool := buffer.any fun e => decide (e.verdict = v)

/-- The first pass from this one on with an entry marked for it; the Extra pass when there is none. A pass with no entries
ends without effect (R103). There are at most 16 passes to look at. -/
def settleFrom (buffer : List PlanEntry) : Nat → Nat → Pass → Phase
  | 0, _, _ => .extraPass
  | fuel + 1, cls, pass =>
    if hasMark buffer (.forClass cls pass) then .classPass cls pass
    else match nextPass cls pass with
      | some (c, p) => settleFrom buffer fuel c p
      | none => .extraPass

/-- The phase once passes without entries have ended (R103). -/
def Planner.settledPhase (p : Planner) : Phase :=
  match p.phase with
  | .classPass cls pass => settleFrom p.buffer 16 cls pass
  | ph => ph

/-- Give the first entry with verdict `v` the verdict that `f` makes of it. -/
def settleFirst (v : Verdict) (f : PlanEntry → Verdict) : List PlanEntry → List PlanEntry
  | [] => []
  | e :: l => if e.verdict = v then { e with verdict := f e } :: l else e :: settleFirst v f l

/-- The first entry of the buffer with verdict `v`. -/
def firstWith (v : Verdict) (buffer : List PlanEntry) : Option PlanEntry := buffer.find? fun e => decide (e.verdict = v)

/-- The handle a grant table holds for a span and a protection slot (R93). -/
def grantAt (t : Table (Option Nat)) (span slot : Nat) : Option Nat := Table.get none t (grantKey span slot)

/-- Every entry of an arc is empty for a slot (R104). -/
def arcFree (t : Table (Option Nat)) (arc : List Nat) (slot : Nat) : Bool :=
  arc.all fun k => decide (grantAt t k slot = none)

/-- Write a handle into every entry of an arc (R104). -/
def grantArc (t : Table (Option Nat)) (arc : List Nat) (slot h : Nat) : Table (Option Nat) :=
  arc.foldl (fun u k => Table.set none u (grantKey k slot) (some h)) t

/-- A class pass treats one candidate: granted on every span of its detour arc, or refused as Outbid (R104, R105). -/
def treatCandidate (cls : Nat) (pass : Pass) (e : PlanEntry) (s : State) : State :=
  let arc := e.plan.detourArc s.node.ringSize
  let slot := e.plan.protSlot.getD 0
  let mark := Verdict.forClass cls pass
  let pl := s.planner
  if arcFree pl.nextGrants arc slot then
    { s with planner := { pl with
      nextGrants := grantArc pl.nextGrants arc slot e.handle,
      buffer := settleFirst mark (fun _ => .settled .detour .none) pl.buffer } }
  else
    { s with planner := { pl with
      buffer := settleFirst mark
        (fun x => withoutDetour (arcCond pl.snapshot (x.plan.workingArc s.node.ringSize)) .outbid) pl.buffer } }

/-- What the Extra pass gives an entry (R106). -/
def extraVerdict (snap : List SnapSpan) (grants : Table (Option Nat)) (n : Nat) (p : Planning) : Verdict :=
  let arc := p.workingArc n
  if arc.any fun k => decide (snapCond snap k = .unusable) then .settled .preempted .arcLost
  else if arc.any fun k => decide (grantAt grants k p.workSlot ≠ none) then .settled .preempted .outranked
  else .settled .riding .none

/-- The Extra pass treats its first entry (R106). -/
def treatExtra (s : State) : State :=
  let pl := s.planner
  { s with planner := { pl with
    buffer := settleFirst .forExtra (fun e => extraVerdict pl.snapshot pl.nextGrants s.node.ringSize e.plan) pl.buffer } }

/-! ### Commit -/

/-- The outcome and reason that a commit writes into a record: those of its entry, and Unplanned for an Active record
without one (R108). -/
def committedResult (buffer : List PlanEntry) (h : Nat) (r : Record) : Outcome × Reason :=
  match r.lifecycle with
  | .free => (r.outcome, r.reason)
  | .staged => (r.outcome, r.reason)
  | _ => match buffer.find? fun e => decide (e.handle = h) with
    | some e => match e.verdict with
      | .settled o w => (o, w)
      | _ => (r.outcome, r.reason)
    | none => if r.lifecycle = .active then (.unplanned, .none) else (r.outcome, r.reason)

/-- Write an outcome and reason into a record; a change puts it in the changed set (R108, R117). -/
def writeResult (h : Nat) (o : Outcome) (w : Reason) (s : State) : State :=
  markChangedIf (decide ((s.record h).outcome ≠ o) || decide ((s.record h).reason ≠ w)) h
    (s.setRec h { s.record h with outcome := o, reason := w })

/-- Every record takes what the plan buffer gives it (R108). -/
def writeResults (s : State) : State :=
  forEach s.handles
    (fun h t => writeResult h (committedResult s.planner.buffer h (s.record h)).1
      (committedResult s.planner.buffer h (s.record h)).2 t) s

/-- The excluded records that are still Retiring (R109). -/
def State.freedByCommit (s : State) : List Nat :=
  s.planner.excluded.filter fun h => decide ((s.record h).lifecycle = .retiring)

/-- The sum of the codes of some records. -/
def State.codeSum (s : State) (l : List Nat) : BitVec 32 := l.foldl (fun acc h => acc + (s.record h).code) 0

/-- The excluded Retiring records become Free; their codes leave the digest in one change (R19, R109). -/
def freeExcluded (s : State) : State :=
  setDigest (s.store.digest - s.codeSum s.freedByCommit) (forEach s.freedByCommit freeRecord s)

/-- The Confirmation Unit is handed each record's outcome before and after, in ascending handle order (R110, R139). -/
def handOutcomes (old : State) (s : State) : State :=
  forEach s.handles (fun h t => confirmOutcome h (old.record h).outcome t) s

/-- The end of the commit: the abandon count is 0, and a new sweep starts if re-plan pending is set (R111). -/
def endCommit (s : State) : State :=
  let s1 := { s with planner := { s.planner with abandonCount := 0 } }
  if s1.planner.replan then startSweep s1 else { s1 with planner := { s1.planner with phase := .idle } }

/-- The committed grant table is replaced and the commit number counts (R107, R110). -/
def installPlan (s : State) : State :=
  { s with planner := { s.planner with
    committed := s.planner.nextGrants, commitNumber := s.planner.commitNumber + 1 } }

/-- The commit, one event (R107 to R111): the grant table, the outcomes, the freed records, the Fabric Driver, the
Confirmation Unit, the next command, the connection statuses, and the next sweep or Idle. -/
def commitSweep (s : State) : State :=
  runningCheck (endCommit (refreshConn (dispatch (handOutcomes s (deriveMap (freeExcluded (writeResults (installPlan s))))))))

/-- The sweep has treated every entry: the passes have ended and the Extra pass has none left (R107). -/
def Planner.readyToCommit (p : Planner) : Bool :=
  decide (p.settledPhase = .extraPass) && !hasMark p.buffer .forExtra

/-- The next plan of a running sweep is discarded; an Idle Planner keeps the plan it committed last until the next start
(R93, R111, R116). -/
def Planner.discardSweep (p : Planner) : Planner :=
  if p.phase = .idle then p else { p with snapshot := [], buffer := [], excluded := [], nextGrants := [] }

/-- A Stop abandons a running sweep with its next plan, clears re-plan pending and the abandon count, and leaves the Planner
Idle (R35, R116). -/
def stopPlanner (s : State) : State :=
  { s with planner := { s.planner.discardSweep with phase := .idle, replan := false, abandonCount := 0 } }

/-- A Set Ring that changes the ring parameters empties the committed plan (R117). -/
def emptyPlan (s : State) : State :=
  { s with planner := { s.planner with
    committed := [], buffer := [], excluded := [], nextGrants := [], abandonCount := 0 } }

end Sys2Proof.Machine
end

