-- ==== Sys2Proof/Machine/ResetOps.lean ====
section
/-!
DEFINITION. The two resets (R36 and the reset rules of each block).
-/

namespace Sys2Proof.Machine

/-- Both Line Monitors evaluate their inputs after a reset; the composed reports stay Halted (R39, R55). -/
def evalMonitors (s : State) : State := evalMonitor .west (evalMonitor .east s)

/-- The effective states and planning conditions are worked out without comparison (R91). -/
def settleSpans (s : State) : State := { s with map := { s.map with spans := s.workedOutSpans } }

/-- A full reset: every block takes its full-reset values; the Line Fail inputs stay at their levels, and the queue of
commands is not the block's (R36). -/
def fullReset (s : State) : State :=
  evalMonitors { State.reset with
    monEast := s.monEast.fullReset, monWest := s.monWest.fullReset, pending := s.pending }

/-- A record at a soft reset (R25, R154). -/
def Record.softReset (r : Record) : Record :=
  { r with outcome := .unplanned, reason := .none, conn := .none, exchange := Exchange.idle }

/-- The Record Store at a soft reset (R25). -/
def RecordStore.softReset (st : RecordStore) : RecordStore :=
  { st with
    records := Table.mapValues Record.free (fun _ r => r.softReset) st.records,
    changed := [], stream := Stream.closed }

/-- Node Control at a soft reset (R37). -/
def NodeControl.softReset (n : NodeControl) : NodeControl := { n with state := .configuring, joinTimer := none }

/-- The Span Map at a soft reset: the delays are kept (R91). -/
def SpanMap.softReset (m : SpanMap) : SpanMap := { SpanMap.reset with delays := m.delays }

/-- The Management Port at either reset; what MP_DO drove last stays (R168). -/
def Port.softReset (p : Port) : Port := { Port.reset with output := p.output }

/-- A soft reset takes effect (R36). -/
def softReset (s : State) : State :=
  evalMonitors (settleSpans { s with
    node := s.node.softReset, store := s.store.softReset,
    monEast := s.monEast.softReset, monWest := s.monWest.softReset,
    laneEast := s.laneEast.softReset s.node.ringId, laneWest := s.laneWest.softReset s.node.ringId,
    map := s.map.softReset, planner := Planner.reset, fabric := s.fabric.softReset, port := s.port.softReset,
    attn := s.attn.softReset })

end Sys2Proof.Machine
end

