-- ==== Sys2Proof/Machine/PortOps.lean ====
section
/-!
DEFINITION. The Management Port: taking a request and carrying it out, and reading a response (09).
-/

namespace Sys2Proof.Machine

/-- What carrying out a request gives: the state after it, and the status and data of its response (R160). -/
structure Carried where
  state : State
  status : Status
  data : List Byte

/-- What MP_DO carries in a request transaction: no frame, so 0x00 throughout (R155). -/
def PortOutput.silent : PortOutput := { frame := [], bits := 0 }

/-- Bit `k` of MP_DO after the opening byte, most significant bit of each byte first: that of the frame, and 0 after its
end (R155). -/
def PortOutput.bit (o : PortOutput) (k : Nat) : Bool := (o.frame.getD (k / 8) 0).getMsbD (k % 8)

/-- A request transaction ends while the port is Working (R158); MP_DO carried 0x00 (R155). -/
def discardRequest (s : State) : State :=
  { s with port := { s.port with collision := true, output := PortOutput.silent } }

/-- A request transaction that ends before the Soft Reset response has been read first makes the soft reset take effect
(R36, R168). -/
def beforeTaking (s : State) : State :=
  if s.port.state = .answered ∧ s.port.softResetArmed = true then softReset s else s

/-- A request is taken: the collision latch is cleared and a held response is discarded (R156); MP_DO carried 0x00
(R155). -/
def clearHolder (s : State) : State :=
  { s with port := { s.port with collision := false, holder := none, output := PortOutput.silent } }

/-- The request is in hand with the response its carrying out built; the port is Working (R156, R160). -/
def putInHand (request : Instr) (tag : Byte) (c : Carried) : State :=
  let response : Response := { tag := tag, status := c.status, collision := false, data := c.data }
  { c.state with port := { c.state.port with
    state := .working, inHand := some { request := request, response := response } } }

/-- The end of a request transaction: discarded in Working; else the request is taken and carried out as one event
(R156, R160, entry 4). -/
def takeRequest (request : Instr) (tag : Byte) (carry : State → Carried) (s : State) : State :=
  if s.port.state = .working then discardRequest s
  else putInHand request tag (carry (clearHolder (beforeTaking s)))

/-- A request that is answered without being carried out (R157). -/
def answerOnly (status : Status) (s : State) : Carried := { state := s, status := status, data := [] }

/-- The tag that answers a frame that is not carried out: the byte at the tag's place, or 0 where the frame is too short
(R157, R179). The frame is the first L bytes clocked (R155). -/
def frameTag (clocked : List Byte) : Byte :=
  match clocked with
  | [] => 0
  | l :: _ => (clocked.take l.toNat).getD 2 0

/-- The response in hand is placed with the collision latch as it then stands (R156, R158). -/
def placeResponse (x : InHand) (s : State) : State :=
  { s with port := { s.port with
    state := .answered, inHand := none, holder := some { x.response with collision := s.port.collision } } }

/-- MP_DO drives a frame from its first byte, for a number of bits; the bits after the frame are 0 (R155, R159). -/
def driveOut (frame : List Byte) (bits : Nat) (s : State) : State :=
  { s with port := { s.port with output := { frame := frame, bits := bits } } }

/-- A response that has been read whole leaves the holder; the port is Ready, and an armed soft reset takes effect (R159,
R36). -/
def readWhole (s : State) : State :=
  let s1 := { s with port := { s.port with state := .ready, holder := none } }
  if s1.port.softResetArmed then softReset s1 else s1

end Sys2Proof.Machine
end

