-- ==== Sys2Proof/Machine/Views.lean ====
section
/-!
DEFINITION. The data of the responses: the values that the owning rules list, in the order listed, with the widths of R178
and R179. Where the manual leaves a layout open, entry 10 says what the model does.
-/

namespace Sys2Proof.Machine

/-- The record status block: 12 bytes (R163, R178). -/
def State.blockBytes (s : State) (h : Nat) : List Byte :=
  let r := s.record h
  be2 h ++ be1 (lifecycleCode r.lifecycle) ++ be4 r.code.toNat ++ be1 (outcomeCode r.outcome) ++
    be1 (reasonCode r.reason) ++ be1 (connCode r.conn) ++ be1 (confirmCode r.exchange.state) ++
    flagByte (s.store.changed.contains h)

/-- The record as a stage image: planning image, local port, presence flag; zeros for a Free record (R1, R178, entry 10).
That an absent local port is sent as 0 is the model's choice (DESIGN CHOICE, entry 10). -/
def imageBytes (h : Nat) (r : Record) : List Byte :=
  if r.lifecycle = .free then List.replicate 18 0
  else r.plan.image h ++ [r.port.getD 0] ++ flagByte r.port.isSome

/-- Role and arc lengths of a record, absent where the manual derives none (R5, R16). -/
def State.roleBytes (s : State) (r : Record) : List Byte :=
  if r.lifecycle = .free then absent 3
  else match r.plan.role s.node.ringSize s.node.own with
    | none => absent 3
    | some role =>
      be1 (roleCode role) ++ be1 (r.plan.workingLength s.node.ringSize) ++ be1 (r.plan.detourLength s.node.ringSize)

/-- What Read Record returns (R16, R153). The record check has the width of a Path Confirm (R180; DESIGN CHOICE, entry 10). -/
def State.recordBytes (s : State) (h : Nat) : List Byte :=
  let r := s.record h
  be1 (lifecycleCode r.lifecycle) ++ imageBytes h r ++ be4 r.code.toNat ++ be1 (outcomeCode r.outcome) ++
    be1 (reasonCode r.reason) ++ be1 (connCode r.conn) ++ be1 (confirmCode r.exchange.state) ++
    flagByte (s.store.changed.contains h) ++ s.roleBytes r ++ flagByte r.exchange.heardTheirs ++
    flagByte r.exchange.theyHeardMine ++ be2 r.exchange.attempts ++ flagByte r.exchange.sending ++
    timeBytes r.exchange.timer ++ be2 (recordCheck r.code).toNat

/-- The halt record of the Stream (R21, R165). -/
def haltBytes : Option HaltRecord → List Byte
  | none => absent 4
  | some x => be2 x.handle ++ be1 (haltReasonCode x.reason) ++
    (match x.status with
      | none => absent 1
      | some st => be1 (statusCode st))

/-- The Stream status (R165). -/
def Stream.bytes (x : Stream) : List Byte :=
  be1 (streamStateCode x.state) ++ be2 x.first ++ be2 x.count ++ be2 x.remaining ++ flagByte x.activate ++ haltBytes x.halt

/-- The three ring parameters (R162), with the widths of the request (R179; DESIGN CHOICE, entry 10). -/
def NodeControl.ringBytes (n : NodeControl) : List Byte := be2 n.ringId ++ be1 n.ringSize ++ be1 n.own

/-- The five timer settings, two bytes each (R162, R179). -/
def State.timerBytes (s : State) : List Byte :=
  be2 s.node.holdOff ++ be2 s.node.wtr ++ be2 s.node.confirmInterval ++ be2 s.node.reassertInterval ++
    be2 s.fabric.cadence

/-- What Read Node returns (R38). -/
def State.nodeBytes (s : State) : List Byte :=
  be1 (nodeStateCode s.node.state) ++ s.node.ringBytes ++ s.timerBytes ++ flagByte s.joinCondition ++
    timeBytes s.node.joinTimer ++ flagByte s.fabric.resyncDone ++ be2 s.dirtySet.length ++
    flagByte s.fabric.outstanding.isSome

/-- The three degrade settings of a side (R162); the leak has the width of the request (R179; DESIGN CHOICE, entry 10). -/
def Monitor.degradeBytes (m : Monitor) : List Byte := be2 m.leak ++ be3 m.declareLevel ++ be3 m.clearLevel

/-- State, cause and epoch of a report. -/
def reportBytes (e : EndReport) : List Byte := contentBytes e.content ++ be2 e.epoch.toNat

/-- The report at a key with its known flag (R90). -/
def State.keyBytes (s : State) (key : Nat) : List Byte :=
  match s.report key with
  | none => flagByte false ++ absent 4
  | some e => flagByte true ++ reportBytes e

/-- One span of Read Span Map (R90). -/
def State.spanBytes (s : State) (k : Nat) : List Byte :=
  s.keyBytes (keyOf k .lower) ++ s.keyBytes (keyOf k .upper) ++ be1 (reportStateCode (s.heldSpan k).effective) ++
    be1 (planCondCode (s.heldSpan k).planning) ++ be2 (Table.get 0 s.map.delays k).toNat

/-- What Read Span Map returns: N, the spans with their count, and the two own keys East then West; while N is 0 the two own
reports by side in place of the keys. That a key takes one byte, and that the own reports by side carry no known flag, is the
model's choice (R90, DESIGN CHOICE, entry 10). -/
def State.spanMapBytes (s : State) : List Byte :=
  if s.node.ringSize = 0 then be1 0 ++ be1 0 ++ reportBytes s.map.ownEast ++ reportBytes s.map.ownWest
  else be1 s.node.ringSize ++ be1 s.node.ringSize ++ (List.range s.node.ringSize).flatMap s.spanBytes ++
    be1 (ownKey s.node.ringSize s.node.own .east) ++ be1 (ownKey s.node.ringSize s.node.own .west)

/-- The neighbour record, or empty (R76). The sender node has the width of a Greeting (R180), one byte (DESIGN CHOICE, entry
10). -/
def neighbourBytes : Option Greeting → List Byte
  | none => absent 10
  | some g => be2 g.ringId ++ be1 g.sender ++ be1 (sideCode g.senderSide) ++ be1 g.ringSize ++ be4 g.digest.toNat ++
    be1 (nodeStateCode g.nodeState)

/-- The lane's own state (R76). -/
def State.laneBytes (s : State) (d : Side) : List Byte :=
  let l := s.lane d
  let g := s.greetingFor d
  be1 (lockCode l.lock) ++ be1 (adjacencyCode l.adjacency) ++ timeBytes l.adjTimer ++ flagByte g.heard ++
    flagByte g.mapSent ++ flagByte l.exchanged ++ neighbourBytes l.neighbour ++ flagByte l.differs ++
    be2 l.pendingKeys.length ++ be2 l.queue.length

/-- Return state and held report in Holding, else absent (R54). -/
def holdingBytes : LineCond → List Byte
  | .holding ret held => be1 (returnStateCode ret) ++ contentBytes held
  | _ => absent 3

/-- The current cause; its byte with no defect present is a free value (R178, entry 12). -/
def causeBytes (d : Defects) : List Byte :=
  match d.cause with
  | some c => be1 (reportCauseCode c)
  | none => [Config.noDefectCauseByte]

/-- The Line Monitor's state (R54). -/
def State.monitorBytes (s : State) (d : Side) : List Byte :=
  let m := s.mon d
  be1 (lineCondCode m.cond) ++ holdingBytes m.cond ++ be1 (defectsCode m.defects) ++ causeBytes m.defects ++
    be3 m.integrator ++ m.degradeBytes ++ timeBytes m.holdOffTimer ++ timeBytes m.wtrTimer ++ timeBytes m.silenceTimer ++
    flagByte m.force ++ contentBytes (s.map.own d).content

/-- The sweep phase, with class and pass in a class pass (R118, R179). -/
def phaseBytes : Phase → List Byte
  | .idle => be1 0 ++ absent 2
  | .gathering => be1 1 ++ absent 2
  | .classPass c p => be1 2 ++ be1 c ++ be1 (passCode p)
  | .extraPass => be1 3 ++ absent 2

/-- An entry of the committed grant table: a handle, or empty (R118). -/
def grantBytes : Option Nat → List Byte
  | none => absent 2
  | some h => be2 h

/-- What Read Slot Grants returns (R118). -/
def State.grantsBytes (s : State) (span : Nat) : List Byte :=
  (List.range Config.protSlots).flatMap (fun p => grantBytes (grantAt s.planner.committed span p)) ++
    phaseBytes s.planner.phase ++ be2 s.planner.abandonCount ++ flagByte s.planner.replan ++
    be2 s.planner.commitNumber.toNat

/-- The handles of the records that write an entry (R136), in ascending order (DESIGN CHOICE, entry 10). -/
def State.writersOf (s : State) (i : Nat) : List Nat :=
  s.handles.filter fun h => (s.writesOf h).any fun w => decide (w.1 = i)

/-- One entry of Read Connections (R136). -/
def State.entryBytes (s : State) (i : Nat) : List Byte :=
  let e := s.entry i
  connValueBytes e.desired ++ lastValueBytes e.last ++ be1 (entryStatusCode e.status) ++
    (if e.status = .dirty then be1 (phaseOf e.desired) else absent 1) ++
    be1 (s.writersOf i).length ++ (s.writersOf i).flatMap be2

/-- The outstanding command, or absent (R136). That its attempt takes one byte is the model's choice (DESIGN CHOICE, entry 10). -/
def commandBytes : Option Command → List Byte
  | none => absent 7
  | some c => be2 c.entry ++ connValueBytes c.value ++ [c.tag] ++ be1 c.attempt ++ flagByte c.reassert

/-- The driver state (R136). -/
def State.driverBytes (s : State) : List Byte :=
  let f := s.fabric
  commandBytes f.outstanding ++ be2 s.dirtySet.length ++ [f.tagCounter] ++ flagByte f.reassertTimer.isSome ++
    timeBytes f.reassertTimer ++ flagByte f.reassertPending ++ be2 f.pointer ++ be2 f.cadence ++ flagByte f.resyncDone

/-- What Read Connections returns (R136). -/
def State.connectionsBytes (s : State) (first count : Nat) : List Byte :=
  be1 count ++ (List.range' first count).flatMap s.entryBytes ++ s.driverBytes

/-- The latched cause, or none (R167). -/
def latchBytes : Option Cause → List Byte
  | none => absent 1
  | some c => be1 (causeNumber c)

/-- What Read Summary returns (R172). -/
def Attention.summaryBytes (a : Attention) : List Byte :=
  latchBytes a.latch ++ [a.pending] ++ [a.mask] ++ flagByte a.asserted

end Sys2Proof.Machine
end

