-- ==== Sys2Proof/Machine/AttentionCmds.lean ====
section
/-!
DEFINITION. The meanings of the attention requests (10, R167).
-/

namespace Sys2Proof.Machine

/-- Read Summary: an empty latch is filled first (R172). -/
def carryReadSummary (s : State) : Carried :=
  { state := { s with attn := s.attn.fillLatch }, status := .ok, data := s.attn.fillLatch.summaryBytes }

/-- Acknowledge Cause (R173). -/
def carryAcknowledge (cause : Nat) (s : State) : Carried :=
  match causeOf cause with
  | none => answerOnly .invalidField s
  | some c =>
    { state := { s with attn := s.attn.acknowledge c }, status := .ok,
      data := [(s.attn.acknowledge c).pending] ++ latchBytes (s.attn.acknowledge c).latch }

/-- Set Attention Mask (R170). -/
def carrySetMask (enables : Byte) (s : State) : Carried :=
  { state := { s with attn := s.attn.setMask enables }, status := .ok, data := [enables] }

/-- READ_SUMMARY. -/
def execReadSummary (tag : Byte) (s : State) : Host.Outcome State Fault Refusal :=
  .next (takeRequest (.readSummary tag) tag carryReadSummary s)

/-- ACKNOWLEDGE_CAUSE. -/
def execAcknowledgeCause (tag : Byte) (cause : Nat) (s : State) : Host.Outcome State Fault Refusal :=
  .next (takeRequest (.acknowledgeCause tag cause) tag (carryAcknowledge cause) s)

/-- SET_ATTENTION_MASK. -/
def execSetAttentionMask (tag : Byte) (enables : Byte) (s : State) : Host.Outcome State Fault Refusal :=
  .next (takeRequest (.setAttentionMask tag enables) tag (carrySetMask enables) s)

end Sys2Proof.Machine
end

