-- ==== Sys2Proof/Machine/Confirm.lean ====
section
/-!
DEFINITION. The meaning of the Confirmation Unit's own command (08).
-/

namespace Sys2Proof.Machine

/-- CONFIRM_TIMER_EXPIRY: without effect on a stopped timer (R147, R148, entry 3). A timer runs only for a record of which
this node is an end (R138). -/
def execConfirmTimerExpiry (h : Nat) (s : State) : Host.Outcome State Fault Refusal :=
  match (s.record h).exchange.timer, s.endRole h with
  | some _, some r => .next (confirmExpires h r s)
  | _, _ => .next s

end Sys2Proof.Machine
end

