-- ==== Sys2Proof/Machine/FabricLink.lean ====
section
/-!
DEFINITION. The meanings of the Fabric Link commands: answers, discards, the response timer and the Reassertion Timer (07).
-/

namespace Sys2Proof.Machine

/-- DONE: discarded unless its tag is the outstanding command's (R127, R128, R129). -/
def execFabricDone (tag : Byte) (priorDiffered : Bool) (s : State) : Host.Outcome State Fault Refusal :=
  match s.fabric.outstanding with
  | none => .next s
  | some c => if c.tag = tag then .next (endDone c priorDiffered (s.setAnswered true)) else .next s

/-- REFUSED: discarded unless its tag is the outstanding command's (R127, R130). -/
def execFabricRefused (tag : Byte) (s : State) : Host.Outcome State Fault Refusal :=
  match s.fabric.outstanding with
  | none => .next s
  | some c => if c.tag = tag then .next (endRefused c (s.setAnswered true)) else .next s

/-- FABRIC_LINK_DISCARD: a frame that R127 discards changes nothing. -/
def execFabricLinkDiscard (s : State) : Host.Outcome State Fault Refusal := .next s

/-- RESPONSE_TIMER_EXPIRY: one retry with a new tag, then as Refused; without effect on a stopped timer, and on the timer of
the next command when it falls together with an answer that was taken first (R131, entries 3, 30). -/
def execResponseTimerExpiry (s : State) : Host.Outcome State Fault Refusal :=
  if s.fabric.answered then .next (s.setAnswered false)
  else match s.fabric.responseTimer, s.fabric.outstanding with
    | some _, some c =>
      if c.attempt = 1 then .next (sendCommand { c with attempt := 2 } s) else .next (endRefused c s)
    | _, _ => .next s

/-- REASSERTION_TIMER_EXPIRY: the request becomes pending, the timer is loaded again, and the request is served if nothing
stands before it; without effect on a stopped timer (R133, R134, entry 3). -/
def execReassertionTimerExpiry (s : State) : Host.Outcome State Fault Refusal :=
  match s.fabric.reassertTimer with
  | none => .next s
  | some _ =>
    .next (dispatch { s with fabric := { s.fabric with
      reassertPending := true, reassertTimer := some s.reassertTime } })

end Sys2Proof.Machine
end

