-- ==== Sys2Proof/Machine/Lanes.lean ====
section
/-!
DEFINITION. The meanings of the lane commands: the frame slot, arriving frames, and the three timers of a lane (04).
-/

namespace Sys2Proof.Machine

/-- FRAME_SLOT: both lanes send one frame, each chosen and filled from the state at the start of the slot (R56, R70). -/
def execFrameSlot (s : State) : Host.Outcome State Fault Refusal :=
  .next ((s.setLane .east (s.slotLane .east)).setLane .west (s.slotLane .west))

/-- LANE_BAD_FRAME (R57, R58, R59). -/
def execLaneBadFrame (d : Side) (s : State) : Host.Outcome State Fault Refusal :=
  .next (lineEvent d (s.setLane d (s.lane d).countBad))

/-- FILL: counts towards lock, and has no further effect (R57). -/
def execFill (d : Side) (s : State) : Host.Outcome State Fault Refusal := .next (takeGood d s)

/-- DISCARDED_GOOD_FRAME: counts towards lock, and is discarded (R57). -/
def execDiscardedGoodFrame (d : Side) (s : State) : Host.Outcome State Fault Refusal := .next (takeGood d s)

/-- A good frame counts towards lock; what it carries is acted on, by `act`, only if the lane was Locked before it, the
ring ID is set, and its fields are in range (R57, entry 23). -/
def takeFrame (d : Side) (inRange : Bool) (act : State → State) (s : State) : State :=
  if s.actsOn d && inRange then act (takeGood d s) else takeGood d s

/-- GREETING (R61 to R67). -/
def execGreeting (d : Side) (g : Greeting) (s : State) : Host.Outcome State Fault Refusal :=
  .next (takeFrame d (greetingInRange g) (actOnGreeting d g) s)

/-- SPAN_REPORT (R71 to R73). -/
def execSpanReport (d : Side) (r : SpanReport) (s : State) : Host.Outcome State Fault Refusal :=
  .next (takeFrame d (spanReportInRange r) (actOnSpanReport d r) s)

/-- PATH_CONFIRM (R75, R143 to R146). -/
def execPathConfirm (d : Side) (p : PathConfirm) (s : State) : Host.Outcome State Fault Refusal :=
  .next (takeFrame d (confirmInRange p) (actOnPathConfirm d p) s)

/-- LOCK_WINDOW_TIMER_EXPIRY: lock is lost; without effect on a stopped timer (R58, R59, entry 3). -/
def execLockWindowTimerExpiry (d : Side) (s : State) : Host.Outcome State Fault Refusal :=
  match (s.lane d).lockWindow with
  | none => .next s
  | some _ => .next (lineEvent d (s.setLane d (s.lane d).loseLock))

/-- ADJACENCY_TIMER_EXPIRY: the adjacency goes to Down; without effect on a stopped timer (R64, entry 3). -/
def execAdjacencyTimerExpiry (d : Side) (s : State) : Host.Outcome State Fault Refusal :=
  match (s.lane d).adjTimer with
  | none => .next s
  | some _ => .next (lineEvent d (s.setLane d (s.lane d).toDown))

/-- A Greeting becomes due and the Greeting timer starts again (R60). -/
def Lane.greetingDue (l : Lane) : Lane := { l with greetDue := true, greetTimer := some Config.greetingTime }

/-- GREETING_TIMER_EXPIRY: without effect on a stopped timer (R60, entry 3). -/
def execGreetingTimerExpiry (d : Side) (s : State) : Host.Outcome State Fault Refusal :=
  match (s.lane d).greetTimer with
  | none => .next s
  | some _ => .next (s.setLane d (s.lane d).greetingDue)

end Sys2Proof.Machine
end

