-- ==== Sys2Proof/Machine/Line.lean ====
section
/-!
DEFINITION. The meanings of the line side commands: Line Fail, block-count reports and the three timers of a Line
Monitor (03).
-/

namespace Sys2Proof.Machine

/-- LINE_FAIL (R39). -/
def execLineFail (d : Side) (active : Bool) (s : State) : Host.Outcome State Fault Refusal :=
  .next (lineEvent d (s.setMon d { s.mon d with lineFail := active }))

/-- BLOCK_COUNT_REPORT: a malformed report changes nothing (R40, R48). -/
def execBlockCountReport (d : Side) (report : Option (BitVec 16)) (s : State) : Host.Outcome State Fault Refusal :=
  match report with
  | none => .next s
  | some e => .next (refreshReports (s.setMon d ((s.mon d).takeCount e.toNat)))

/-- HOLD_OFF_TIMER_EXPIRY: without effect on a stopped timer (R45, entry 3). -/
def execHoldOffTimerExpiry (d : Side) (s : State) : Host.Outcome State Fault Refusal :=
  match (s.mon d).holdOffTimer with
  | none => .next s
  | some _ => .next (refreshReports (s.setMon d (s.mon d).holdOffExpires))

/-- WTR_TIMER_EXPIRY: without effect on a stopped timer (R45, R47, entry 3). -/
def execWtrTimerExpiry (d : Side) (s : State) : Host.Outcome State Fault Refusal :=
  match (s.mon d).wtrTimer with
  | none => .next s
  | some _ => .next (refreshReports (s.setMon d (s.mon d).wtrExpires))

/-- SILENCE_TIMER_EXPIRY: without effect on a stopped timer (R42, entry 3). -/
def execSilenceTimerExpiry (d : Side) (s : State) : Host.Outcome State Fault Refusal :=
  match (s.mon d).silenceTimer with
  | none => .next s
  | some _ => .next (refreshReports (s.setMon d ((s.mon d).silenceExpires s.node.holdOff s.node.wtr)))

end Sys2Proof.Machine
end

