-- ==== Sys2Proof/Machine/RecordOps.lean ====
section
/-!
DEFINITION. The Record Store's checks and effects: stage, activate, amend, retire, discard, the Stream, and the record
checks of Set Ring (01).
-/

namespace Sys2Proof.Machine

/-! ### Clashes -/

/-- The lowest handle other than `h` whose record satisfies `f`. -/
def State.findOther (s : State) (h : Nat) (f : Record → Bool) : Option Nat :=
  s.handles.find? fun k => decide (k ≠ h) && f (s.record k)

/-- The record, other than that of `h`, that is Staged, Active or Retiring and holds a circuit number (R9). -/
def State.labelHolder (s : State) (h circuit : Nat) : Option Nat :=
  s.findOther h fun r => decide (r.lifecycle ≠ .free) && decide (r.plan.circuit = circuit)

/-- The lowest other Active record that breaks the slot rule with a record of these planning fields (R12). -/
def State.slotClashWith (s : State) (h : Nat) (p : Planning) : Option Nat :=
  s.findOther h fun r => decide (r.lifecycle = .active) && slotClash s.node.ringSize r.plan p

/-- The lowest other Active record that has the same local port (R12). -/
def State.portClashWith (s : State) (h : Nat) (port : Option Byte) : Option Nat :=
  s.findOther h fun r => decide (r.lifecycle = .active) && port.isSome && decide (r.port = port)

/-- Another Active or Retiring record has the local port (R14). -/
def State.portHeld (s : State) (h : Nat) (port : Option Byte) : Bool :=
  (s.findOther h fun r => (decide (r.lifecycle = .active) || decide (r.lifecycle = .retiring)) && port.isSome &&
    decide (r.port = port)).isSome

/-! ### Stage and Discard -/

/-- What a check of a record request finds: nothing wrong, or a status with the handle it names, if any. -/
inductive Check where
  | pass
  | fail (status : Status) (handle : Option Nat)
  deriving DecidableEq, Repr

/-- The checks of R9 from step 2 on, with the handle field of the image already compared. -/
def State.stageCheck (s : State) (h : Nat) (i : StageImage) : Check :=
  if (s.record h).lifecycle = .active ∨ (s.record h).lifecycle = .retiring then .fail .wrongState none
  else match imagePlanning i with
    | none => .fail .invalidField none
    | some p => match s.labelHolder h p.circuit with
      | some k => .fail .labelClash (some k)
      | none => .pass

/-- The record takes the fields of the image: Staged, with its code, in the bucket of its circuit number (R9, R10). -/
def stageFields (h : Nat) (p : Planning) (port : Option Byte) (s : State) : State :=
  let old := s.record h
  let s1 := if old.lifecycle = .free then s
    else if old.plan.circuit = p.circuit then s else leaveBucket old.plan.circuit h s
  let s2 := joinBucket p.circuit h s1
  s2.setRec h { old with lifecycle := .staged, plan := p, port := port, code := recordCode h p }

/-- An image that passes is staged (R9, R10). -/
def stageImage (h : Nat) (i : StageImage) (s : State) : State :=
  match imagePlanning i with
  | none => s
  | some p => stageFields h p (imagePort i) s

/-- A Staged record becomes Free (R11). -/
def discardFields (h : Nat) (s : State) : State := freeRecord h s

/-! ### Activate -/

/-- The checks of R12 from step 2 on. -/
def State.activateCheck (s : State) (h : Nat) : Check :=
  let r := s.record h
  if r.lifecycle ≠ .staged then .fail .wrongState none
  else if !r.plan.endsFit s.node.ringSize || !portPresenceOk r.plan r.port s.node.own then .fail .invalidField none
  else match s.slotClashWith h r.plan with
    | some k => .fail .slotClash (some k)
    | none => match s.portClashWith h r.port with
      | some k => .fail .portClash (some k)
      | none => .pass

/-- The record becomes Active; while a sweep runs its handle joins the late set (R13, R96). -/
def makeActive (h : Nat) (s : State) : State :=
  let s1 := s.setRec h { s.record h with lifecycle := .active }
  if s.planner.phase = .idle then s1
  else { s1 with planner := { s1.planner with late := setInsert s1.planner.late h } }

/-- Records become Active in one event: their codes are added to the digest and the Planner is triggered once (R13, R19,
R23). -/
def activateAll (l : List Nat) (s : State) : State :=
  hostTrigger (setDigest (s.store.digest + s.codeSum l) (forEach l makeActive s))

/-! ### Amend -/

/-- Step 3 of R14: the fields that an Amend may not change are unchanged, the others are valid, and the port-presence rule
holds. -/
def State.amendFits (s : State) (h : Nat) (p : Planning) (port : Option Byte) : Bool :=
  let q := (s.record h).plan
  decide (p.circuit = q.circuit) && decide (p.kind = q.kind) && decide (p.endA = q.endA) && decide (p.endB = q.endB) &&
    decide (p.dir = q.dir) && decide (p.workSlot = q.workSlot) && decide (p.protSlot = q.protSlot) &&
    portPresenceOk q port s.node.own

/-- The checks of R14 from step 2 on. -/
def State.amendCheck (s : State) (h : Nat) (i : StageImage) : Check :=
  if (s.record h).lifecycle ≠ .active then .fail .wrongState none
  else match imagePlanning i with
    | none => .fail .invalidField none
    | some p =>
      if decide (i.handle ≠ h) || !s.amendFits h p (imagePort i) then .fail .invalidField none
      else if s.portHeld h (imagePort i) then .fail .portClash none
      else .pass

/-- A planning field changes: new code, the digest with the old code replaced, and the exchange restarted (R14, R18, R19,
R152). -/
def amendPlanning (h : Nat) (p : Planning) (s : State) : State :=
  let r := s.record h
  if p = r.plan then s
  else restartSending h (setDigest (s.store.digest - r.code + recordCode h p)
    (s.setRec h { r with plan := p, code := recordCode h p }))

/-- The local port changes (R14). -/
def amendPort (h : Nat) (port : Option Byte) (s : State) : State := s.setRec h { s.record h with port := port }

/-- An accepted Amend: without effect where nothing changes; else the record takes the new values, joins the changed set
and triggers the Planner (R14). -/
def amendFields (h : Nat) (p : Planning) (port : Option Byte) (s : State) : State :=
  if p = (s.record h).plan ∧ port = (s.record h).port then s
  else hostTrigger (markChanged h (amendPlanning h p (amendPort h port s)))

/-! ### Retire -/

/-- A Retire: Free at once in Configuring, Retiring otherwise (R15). -/
def retireFields (h : Nat) (s : State) : State :=
  if s.node.state = .configuring then
    setDigest (s.store.digest - (s.record h).code) (freeRecord h s)
  else hostTrigger (s.setRec h { s.record h with lifecycle := .retiring })

/-! ### The Stream -/

/-- Write the Stream. -/
def State.setStream (s : State) (x : Stream) : State := { s with store := { s.store with stream := x } }

/-- The handle that the next image is staged at (R22). -/
def Stream.next (x : Stream) : Nat := x.first + x.count - x.remaining

/-- The halt reason of a Stage status (R21). -/
def haltReasonOf : Status → HaltReason
  | .wrongState => .wrongState
  | .labelClash => .labelClash
  | _ => .invalidField

/-- The Stream enters Halted, which raises Stream Finished (R22, R23). -/
def haltStream (h : Nat) (reason : HaltReason) (status : Option Status) (s : State) : State :=
  raiseCause .streamFinished
    (s.setStream { s.store.stream with state := .halted, halt := some { handle := h, reason := reason, status := status } })

/-- The Stream enters Complete, which raises Stream Finished (R23). -/
def completeStream (s : State) : State :=
  raiseCause .streamFinished (s.setStream { s.store.stream with state := .complete })

/-- The outcome of staging the images of a Chunk: the state, how many were accepted, and the status if it halted. -/
structure ChunkResult where
  state : State
  accepted : Nat
  halted : Option Status

/-- The images of a Chunk are staged in order until one fails or remaining is 0; images beyond remaining are ignored
(R22). -/
def stageChunk : List StageImage → Nat → State → ChunkResult
  | [], n, s => { state := s, accepted := n, halted := none }
  | i :: l, n, s =>
    if s.store.stream.remaining = 0 then { state := s, accepted := n, halted := none }
    else
      let h := s.store.stream.next
      match s.stageCheck h i with
      | .fail status _ => { state := haltStream h (haltReasonOf status) none s, accepted := n, halted := some status }
      | .pass =>
        let s1 := stageImage h i s
        stageChunk l (n + 1)
          (s1.setStream { s1.store.stream with remaining := s1.store.stream.remaining - 1 })

/-- The handles of the run (R21). -/
def Stream.run (x : Stream) : List Nat := List.range' x.first x.count

/-- A handle of the set below `h` that satisfies `f` (R23). -/
def State.setBelow (s : State) (run : List Nat) (h : Nat) (f : Record → Bool) : Bool :=
  run.any fun k => decide (k < h) && f (s.record k)

/-- The checks of R12, steps 2 to 5, for a handle of the set: compared with every Active record and every handle of the
set below it (R23). -/
def State.setCheck (s : State) (run : List Nat) (h : Nat) : Check :=
  let r := s.record h
  match s.activateCheck h with
  | .pass =>
    if s.setBelow run h fun q => slotClash s.node.ringSize q.plan r.plan then .fail .slotClash none
    else if s.setBelow run h fun q => r.port.isSome && decide (q.port = r.port) then .fail .portClash none
    else .pass
  | .fail .portClash k =>
    if s.setBelow run h fun q => slotClash s.node.ringSize q.plan r.plan then .fail .slotClash none
    else .fail .portClash k
  | .fail status k => .fail status k

/-- The first handle of the set that fails, in ascending order (R23). -/
def State.setFailure (s : State) (run : List Nat) : Option (Nat × Status) :=
  run.findSome? fun h => match s.setCheck run h with
    | .pass => none
    | .fail status _ => some (h, status)

/-- Remaining is 0: the Stream completes, or with the activate flag all handles of the run become Active or none (R23). -/
def finishStream (s : State) : State × Status :=
  let x := s.store.stream
  if x.activate then
    match s.setFailure x.run with
    | some (h, status) => (haltStream h .activateRefused (some status) s, status)
    | none => (completeStream (activateAll x.run s), .ok)
  else (completeStream s, .ok)

/-! ### The record checks of Set Ring -/

/-- A record that a Set Ring checks fits new ring parameters (R8). -/
def fitsRing (n own : Nat) (r : Record) : Bool := r.plan.endsFit n && portPresenceOk r.plan r.port own

/-- The first Active or Retiring record that does not fit new ring parameters (R8, R162). -/
def State.unfit (s : State) (n own : Nat) : Option Nat :=
  s.handles.find? fun h =>
    (decide ((s.record h).lifecycle = .active) || decide ((s.record h).lifecycle = .retiring)) &&
      !fitsRing n own (s.record h)

/-- The first Active record that breaks the slot rule with another under a new N (R8, R162, entry 13). -/
def State.clashUnder (s : State) (n : Nat) : Option Nat :=
  s.handles.find? fun h => decide ((s.record h).lifecycle = .active) &&
    (s.findOther h fun r => decide (r.lifecycle = .active) && slotClash n r.plan (s.record h).plan).isSome

end Sys2Proof.Machine
end

