-- ==== Sys2Proof/Machine/NodeOps.lean ====
section
/-!
DEFINITION. Node Control: Start, Stop, Set Ring and the settings (02).
-/

namespace Sys2Proof.Machine

/-- Entry to Joining: resync done is cleared, the join timer starts, the Confirmation Unit resumes, the driver begins
sending, and the join condition is tested (R32, R135, R151). -/
def enterJoining (s : State) : State :=
  joinCheck (refreshConn (dispatch (resumeExchanges { s with
    node := { s.node with state := .joining, joinTimer := some Config.joinTime },
    fabric := { s.fabric with resyncDone := false } })))

/-- A Stop at the Fabric Driver: the Reassertion Timer stops; a pending request is cleared unless the outstanding command
is its own (R35, R135). -/
def Fabric.stop (f : Fabric) : Fabric :=
  { f with
    reassertTimer := none,
    reassertPending := match f.outstanding with
      | some c => c.reassert && f.reassertPending
      | none => false }

/-- A Stop (R35): the node enters Configuring, the Planner, the driver and the confirm timers stop, and the Halted override
returns. -/
def stopNode (s : State) : State :=
  let s1 := stopConfirmTimers (stopPlanner s)
  refreshReports { s1 with
    node := { s1.node with state := .configuring, joinTimer := none }, fabric := s1.fabric.stop }

/-- A lane at a Set Ring that changes the ring parameters: a break in the adjacency; the lock state is kept, and the Greeting
timer starts where the ring ID becomes set (R27, R60). -/
def Lane.newRing (l : Lane) (wasUnset : Bool) : Lane :=
  { l.leaveUp with
    adjacency := .down, adjTimer := none,
    greetTimer := if wasUnset then some Config.greetingTime else l.greetTimer }

/-- The Confirmation Unit is handed the change of outcome of a record that was on a detour with this node at one of its
ends (R117, R139). -/
def dropDetour (h : Nat) (s : State) : State :=
  match s.endRole h with
  | none => s
  | some _ => if (s.record h).outcome = .detour then setExchange h Exchange.idle s else s

/-- Every Active and Retiring record takes the outcome Unplanned (R117). -/
def unplan (h : Nat) (s : State) : State :=
  match (s.record h).lifecycle with
  | .active => writeResult h .unplanned .none s
  | .retiring => writeResult h .unplanned .none s
  | _ => s

/-- The new ring parameters, the lanes and the Span Map's reports (R26, R27, R82). -/
def newRing (ringId ringSize own : Nat) (s : State) : State :=
  { s with
    node := { s.node with ringId := ringId, ringSize := ringSize, own := own },
    laneEast := s.laneEast.newRing (decide (s.node.ringId = 0)),
    laneWest := s.laneWest.newRing (decide (s.node.ringId = 0)),
    map := { s.map with others := [] } }

/-- A Set Ring that changes the ring parameters (R27, R88, R117): the exchanges are dropped under the old values, then the
values change, the committed plan is emptied, connection statuses and defects are worked out anew, and the Span Map is
compared. -/
def changeRing (ringId ringSize own : Nat) (s : State) : State :=
  let s1 := forEach s.handles dropDetour s
  let s2 := emptyPlan (newRing ringId ringSize own s1)
  let s3 := refreshConn (forEach s2.handles unplan s2)
  refreshReports (evalMonitor .west (evalMonitor .east s3))

/-- The field check of Set Ring (R26, step 1). -/
def ringFieldsOk (ringId ringSize own : Nat) : Bool :=
  decide (1 ≤ ringId) && decide (ringId ≤ 65535) && decide (3 ≤ ringSize) && decide (ringSize ≤ 24) &&
    decide (own < ringSize)

/-- The values equal those held (R26). -/
def State.sameRing (s : State) (ringId ringSize own : Nat) : Bool :=
  decide (ringId = s.node.ringId) && decide (ringSize = s.node.ringSize) && decide (own = s.node.own)

/-- Set Ring (R26, R162). -/
def carrySetRing (ringId ringSize own : Nat) (s : State) : Carried :=
  if s.node.state ≠ .configuring then answerOnly .wrongState s
  else if !ringFieldsOk ringId ringSize own then answerOnly .invalidField s
  else match s.unfit ringSize own with
    | some h => { state := s, status := .invalidField, data := be2 h }
    | none => match s.clashUnder ringSize with
      | some h => { state := s, status := .slotClash, data := be2 h }
      | none =>
        let s1 := if s.sameRing ringId ringSize own then s else changeRing ringId ringSize own s
        { state := s1, status := .ok, data := s1.node.ringBytes }

/-- A response that carries the node state after the request (R162). -/
def withNodeState (status : Status) (s : State) : Carried :=
  { state := s, status := status, data := be1 (nodeStateCode s.node.state) }

/-- Start (R32). -/
def carryStart (s : State) : Carried :=
  if s.node.state ≠ .configuring ∨ s.node.ringId = 0 then withNodeState .wrongState s
  else withNodeState .ok (enterJoining s)

/-- Stop (R35). -/
def carryStop (s : State) : Carried :=
  if s.node.state = .configuring then withNodeState .wrongState s else withNodeState .ok (stopNode s)

/-- Soft Reset: answered OK, and armed until its response has been read (R36). -/
def carrySoftReset (s : State) : Carried :=
  { state := { s with port := { s.port with softResetArmed := true } }, status := .ok, data := [] }

/-- OK, or CLAMPED where a value was replaced (R29, R51). -/
def clampStatus (asGiven : Bool) : Status := if asGiven then .ok else .clamped

/-- Set Timers (R29). -/
def carrySetTimers (holdOff wtr confirmInterval reassertInterval cadence : Nat) (s : State) : Carried :=
  let s1 := { s with
    node := { s.node with
      holdOff := clampHoldOff holdOff, wtr := clampWtr wtr, confirmInterval := clampConfirm confirmInterval,
      reassertInterval := clampReassert reassertInterval },
    fabric := { s.fabric with cadence := clampCadence cadence } }
  { state := s1,
    status := clampStatus (decide (clampHoldOff holdOff = holdOff) && decide (clampWtr wtr = wtr) &&
      decide (clampConfirm confirmInterval = confirmInterval) &&
      decide (clampReassert reassertInterval = reassertInterval) && decide (clampCadence cadence = cadence)),
    data := s1.timerBytes }

/-- Set Degrade (R51). -/
def carrySetDegrade (side leak declare clear : Nat) (s : State) : Carried :=
  match sideOperand side with
  | none => answerOnly .invalidField s
  | some d =>
    let m := { s.mon d with
      leak := leak, declareLevel := clampDeclare declare, clearLevel := clampClear clear (clampDeclare declare) }
    { state := s.setMon d m,
      status := clampStatus (decide (clampDeclare declare = declare) &&
        decide (clampClear clear (clampDeclare declare) = clear)),
      data := m.degradeBytes }

/-- A span and its delay as held (R162); the span number has the width of the request (R179; DESIGN CHOICE, entry 10). -/
def State.delayBytes (s : State) (span : Nat) : List Byte := be1 span ++ be2 (Table.get 0 s.map.delays span).toNat

/-- A changed span delay is written, the digest takes the new image, and the Planner is triggered (R19, R31). -/
def writeDelay (span : Nat) (delay : BitVec 16) (s : State) : State :=
  let delays := Table.set 0 s.map.delays span delay
  hostTrigger (setDigest (s.store.digest - crc32 (delayImage s.map.delays) + crc32 (delayImage delays))
    { s with map := { s.map with delays := delays } })

/-- Set Span Delay (R31). -/
def carrySetSpanDelay (span : Nat) (delay : BitVec 16) (s : State) : Carried :=
  if Config.delayCount ≤ span then answerOnly .invalidField s
  else
    let s1 := if delay = Table.get 0 s.map.delays span then s else writeDelay span delay s
    { state := s1, status := .ok, data := s1.delayBytes span }

/-- Read Node (R38). -/
def carryReadNode (s : State) : Carried := { state := s, status := .ok, data := s.nodeBytes }

end Sys2Proof.Machine
end

