-- ==== Sys2Proof/Machine/Node.lean ====
section
/-!
DEFINITION. The meanings of the node commands: the join timer and the eight node requests (02, R51, R162).
-/

namespace Sys2Proof.Machine

/-- The join timer runs out: from Joining to Syncing (R32). -/
def joinExpires (s : State) : State := if s.node.state = .joining then enterSyncing s else s

/-- JOIN_TIMER_EXPIRY: without effect on a stopped timer (R32, entry 3). -/
def execJoinTimerExpiry (s : State) : Host.Outcome State Fault Refusal :=
  match s.node.joinTimer with
  | none => .next s
  | some _ => .next (joinExpires s)

/-- START (R32). -/
def execStart (tag : Byte) (s : State) : Host.Outcome State Fault Refusal :=
  .next (takeRequest (.start tag) tag carryStart s)

/-- STOP (R35). -/
def execStop (tag : Byte) (s : State) : Host.Outcome State Fault Refusal :=
  .next (takeRequest (.stop tag) tag carryStop s)

/-- SOFT_RESET (R36). -/
def execSoftReset (tag : Byte) (s : State) : Host.Outcome State Fault Refusal :=
  .next (takeRequest (.softReset tag) tag carrySoftReset s)

/-- SET_RING (R26). -/
def execSetRing (tag : Byte) (ringId ringSize own : Nat) (s : State) : Host.Outcome State Fault Refusal :=
  .next (takeRequest (.setRing tag ringId ringSize own) tag (carrySetRing ringId ringSize own) s)

/-- SET_TIMERS (R29). -/
def execSetTimers (tag : Byte) (holdOff wtr confirmInterval reassertInterval cadence : Nat) (s : State) :
    Host.Outcome State Fault Refusal :=
  .next (takeRequest (.setTimers tag holdOff wtr confirmInterval reassertInterval cadence) tag
    (carrySetTimers holdOff wtr confirmInterval reassertInterval cadence) s)

/-- SET_DEGRADE (R51). -/
def execSetDegrade (tag : Byte) (side : Nat) (leak : BitVec 16) (declare clear : BitVec 24) (s : State) :
    Host.Outcome State Fault Refusal :=
  .next (takeRequest (.setDegrade tag side leak declare clear) tag
    (carrySetDegrade side leak.toNat declare.toNat clear.toNat) s)

/-- SET_SPAN_DELAY (R31). -/
def execSetSpanDelay (tag : Byte) (span : Nat) (delay : BitVec 16) (s : State) : Host.Outcome State Fault Refusal :=
  .next (takeRequest (.setSpanDelay tag span delay) tag (carrySetSpanDelay span delay) s)

/-- READ_NODE (R38). -/
def execReadNode (tag : Byte) (s : State) : Host.Outcome State Fault Refusal :=
  .next (takeRequest (.readNode tag) tag carryReadNode s)

end Sys2Proof.Machine
end

