-- ==== Sys2Proof/Machine/Planning.lean ====
section
/-!
DEFINITION. The meanings of the Planner's own commands (06). A command that finds the Planner in another phase has no
effect (entry 6).
-/

namespace Sys2Proof.Machine

/-- GATHER_HANDLE (R96). -/
def execGatherHandle (s : State) : Host.Outcome State Fault Refusal :=
  if s.planner.phase = .gathering ∧ s.planner.gatherPos < Config.handleCount then .next (gatherOne s) else .next s

/-- CLASS_PASS_ENTRY: passes without entries end, and the first candidate of the pass then reached is treated (R103,
R104). -/
def execClassPassEntry (s : State) : Host.Outcome State Fault Refusal :=
  let s1 := { s with planner := { s.planner with phase := s.planner.settledPhase } }
  match s.planner.settledPhase with
  | .classPass cls pass =>
    match firstWith (.forClass cls pass) s.planner.buffer with
    | some e => .next (treatCandidate cls pass e s1)
    | none => .next s1
  | _ => .next s1

/-- EXTRA_PASS_ENTRY: passes without entries end; in the Extra pass its first entry is treated (R106). -/
def execExtraPassEntry (s : State) : Host.Outcome State Fault Refusal :=
  if s.planner.settledPhase = .extraPass then
    .next (treatExtra { s with planner := { s.planner with phase := .extraPass } })
  else .next s

/-- SWEEP_COMMIT: once the Extra pass has treated its last entry (R107). -/
def execSweepCommit (s : State) : Host.Outcome State Fault Refusal :=
  if s.planner.readyToCommit then .next (commitSweep s) else .next s

end Sys2Proof.Machine
end

