-- ==== Sys2Proof/Machine/PortCmds.lean ====
section
/-!
DEFINITION. The meanings of the port's own commands and of the full reset (09, R36).
-/

namespace Sys2Proof.Machine

/-- FULL_RESET (R36). -/
def execFullReset (s : State) : Host.Outcome State Fault Refusal := .next (fullReset s)

/-- READ_TRANSACTION: `bits` bits are clocked out after the opening byte. The Attention flag is sampled at the read; the
response leaves the holder only when its last bit has been clocked out (R159, R175). -/
def execReadTransaction (bits : Nat) (s : State) : Host.Outcome State Fault Refusal :=
  match s.port.state, s.port.holder with
  | .answered, some r =>
    let s1 := driveOut (r.frame s.attn.calls) bits s
    .next (if 8 * r.length ≤ bits then readWhole s1 else s1)
  | _, _ => .next (driveOut (notReadyFrame s.attn.calls) bits s)

/-- REQUEST_DISCARDED: a request transaction ends in Working; elsewhere the event does not occur (R158, entry 5). -/
def execRequestDiscarded (s : State) : Host.Outcome State Fault Refusal :=
  if s.port.state = .working then .next (discardRequest s) else .next s

/-- BAD_FRAME: answered and not carried out (R157). -/
def execBadFrame (clocked : List Byte) (s : State) : Host.Outcome State Fault Refusal :=
  .next (takeRequest (.badFrame clocked) (frameTag clocked) (answerOnly .badFrame) s)

/-- UNKNOWN_COMMAND: answered and not carried out (R157). -/
def execUnknownCommand (clocked : List Byte) (s : State) : Host.Outcome State Fault Refusal :=
  .next (takeRequest (.unknownCommand clocked) (frameTag clocked) (answerOnly .unknownCommand) s)

/-- RESPONSE_PLACED: the end of carrying out; without effect where no request is in hand (R156, entry 6). -/
def execResponsePlaced (s : State) : Host.Outcome State Fault Refusal :=
  match s.port.state, s.port.inHand with
  | .working, some x => .next (placeResponse x s)
  | _, _ => .next s

end Sys2Proof.Machine
end

