-- ==== Sys2Proof/Machine/Records.lean ====
section
/-!
DEFINITION. The meanings of the record requests (R163, R164): each is taken by the port (R156) and carried out as one event
(R160).
-/

namespace Sys2Proof.Machine

/-- The handle is above 4095 (R9). -/
def badHandle (h : Nat) : Bool := decide (Config.handleCount ≤ h)

/-- A response that carries the record status block, with a handle beside it where one is named (R163). -/
def withBlock (h : Nat) (status : Status) (beside : Option Nat) (s : State) : Carried :=
  { state := s, status := status, data := s.blockBytes h ++ (match beside with | none => [] | some k => be2 k) }

/-- The checks of R9 for a Stage Record, with the handle field of the image compared at step 3. -/
def State.stageRequestCheck (s : State) (h : Nat) (i : StageImage) : Check :=
  match s.stageCheck h i with
  | .fail .wrongState k => .fail .wrongState k
  | c => if i.handle ≠ h then .fail .invalidField none else c

/-- Stage Record (R9, R10). -/
def carryStage (h : Nat) (i : StageImage) (s : State) : Carried :=
  if badHandle h then answerOnly .badHandle s
  else match s.stageRequestCheck h i with
    | .fail status k => withBlock h status k s
    | .pass => withBlock h .ok none (stageImage h i s)

/-- Amend Record (R14). -/
def carryAmend (h : Nat) (i : StageImage) (s : State) : Carried :=
  if badHandle h then answerOnly .badHandle s
  else match s.amendCheck h i with
    | .fail status _ => withBlock h status none s
    | .pass => match imagePlanning i with
      | none => withBlock h .invalidField none s
      | some p => withBlock h .ok none (amendFields h p (imagePort i) s)

/-- Activate Record (R12, R13). -/
def carryActivate (h : Nat) (s : State) : Carried :=
  if badHandle h then answerOnly .badHandle s
  else match s.activateCheck h with
    | .fail status k => withBlock h status k s
    | .pass => withBlock h .ok none (activateAll [h] s)

/-- Retire Record (R15). -/
def carryRetire (h : Nat) (s : State) : Carried :=
  if badHandle h then answerOnly .badHandle s
  else if (s.record h).lifecycle ≠ .active then withBlock h .wrongState none s
  else withBlock h .ok none (retireFields h s)

/-- Discard Record (R11). -/
def carryDiscard (h : Nat) (s : State) : Carried :=
  if badHandle h then answerOnly .badHandle s
  else if (s.record h).lifecycle ≠ .staged then withBlock h .wrongState none s
  else withBlock h .ok none (discardFields h s)

/-- Read Record (R16, R153). -/
def carryReadRecord (h : Nat) (s : State) : Carried :=
  if badHandle h then answerOnly .badHandle s
  else { state := s, status := .ok, data := s.recordBytes h }

/-- The member of a bucket that holds a circuit number, in ascending order (R17). -/
def State.lookup (s : State) (circuit : Nat) : Option Nat :=
  (s.bucket (bucketOf circuit)).find? fun h => decide ((s.record h).plan.circuit = circuit)

/-- Find Circuit (R16, R17). -/
def carryFindCircuit (circuit : Nat) (s : State) : Carried :=
  if circuit = 0 then answerOnly .invalidField s
  else match s.lookup circuit with
    | none => answerOnly .notFound s
    | some h => { state := s, status := .ok, data := be2 h ++ be1 (lifecycleCode (s.record h).lifecycle) }

/-- Next Changed: the lowest handle leaves the changed set (R20). -/
def carryNextChanged (s : State) : Carried :=
  match s.store.changed with
  | [] => answerOnly .notFound s
  | h :: _ => withBlock h .ok none (unmarkChanged h s)

/-- STAGE_RECORD. -/
def execStageRecord (tag : Byte) (h : Nat) (i : StageImage) (s : State) : Host.Outcome State Fault Refusal :=
  .next (takeRequest (.stageRecord tag h i) tag (carryStage h i) s)

/-- AMEND_RECORD. -/
def execAmendRecord (tag : Byte) (h : Nat) (i : StageImage) (s : State) : Host.Outcome State Fault Refusal :=
  .next (takeRequest (.amendRecord tag h i) tag (carryAmend h i) s)

/-- ACTIVATE_RECORD. -/
def execActivateRecord (tag : Byte) (h : Nat) (s : State) : Host.Outcome State Fault Refusal :=
  .next (takeRequest (.activateRecord tag h) tag (carryActivate h) s)

/-- RETIRE_RECORD. -/
def execRetireRecord (tag : Byte) (h : Nat) (s : State) : Host.Outcome State Fault Refusal :=
  .next (takeRequest (.retireRecord tag h) tag (carryRetire h) s)

/-- DISCARD_RECORD. -/
def execDiscardRecord (tag : Byte) (h : Nat) (s : State) : Host.Outcome State Fault Refusal :=
  .next (takeRequest (.discardRecord tag h) tag (carryDiscard h) s)

/-- READ_RECORD. -/
def execReadRecord (tag : Byte) (h : Nat) (s : State) : Host.Outcome State Fault Refusal :=
  .next (takeRequest (.readRecord tag h) tag (carryReadRecord h) s)

/-- FIND_CIRCUIT. -/
def execFindCircuit (tag : Byte) (circuit : Nat) (s : State) : Host.Outcome State Fault Refusal :=
  .next (takeRequest (.findCircuit tag circuit) tag (carryFindCircuit circuit) s)

/-- NEXT_CHANGED. -/
def execNextChanged (tag : Byte) (s : State) : Host.Outcome State Fault Refusal :=
  .next (takeRequest (.nextChanged tag) tag carryNextChanged s)

end Sys2Proof.Machine
end

