-- ==== Sys2Proof/Machine/SpanCmds.lean ====
section
/-!
DEFINITION. The meanings of the span, lane, slot grant and connection requests (R166, R167).
-/

namespace Sys2Proof.Machine

/-- The force flag of a side is written and its report composed again (R52, R53). -/
def setForce (d : Side) (flag : Bool) (s : State) : State := refreshReports (s.setMon d { s.mon d with force := flag })

/-- Force Span and Release Span: the response carries the side's report as composed after the request (R52, R166). -/
def carryForce (side : Nat) (flag : Bool) (s : State) : Carried :=
  match sideOperand side with
  | none => answerOnly .invalidField s
  | some d => { state := setForce d flag s, status := .ok, data := contentBytes ((setForce d flag s).map.own d).content }

/-- Read Span Map (R90). -/
def carryReadSpanMap (s : State) : Carried := { state := s, status := .ok, data := s.spanMapBytes }

/-- Read Lane: the lane's part, then the Line Monitor's part (R54, R76). -/
def carryReadLane (side : Nat) (s : State) : Carried :=
  match sideOperand side with
  | none => answerOnly .invalidField s
  | some d => { state := s, status := .ok, data := s.laneBytes d ++ s.monitorBytes d }

/-- Read Slot Grants (R118). -/
def carryReadSlotGrants (span : Nat) (s : State) : Carried :=
  if 23 < span then answerOnly .invalidField s else { state := s, status := .ok, data := s.grantsBytes span }

/-- The range of Read Connections (R136). -/
def connectionsRangeOk (first count : Nat) : Bool :=
  decide (first ≤ 511) && decide (1 ≤ count) && decide (count ≤ 16) && decide (first + count ≤ 512)

/-- Read Connections (R136). -/
def carryReadConnections (first count : Nat) (s : State) : Carried :=
  if connectionsRangeOk first count then { state := s, status := .ok, data := s.connectionsBytes first count }
  else answerOnly .invalidField s

/-- FORCE_SPAN. -/
def execForceSpan (tag : Byte) (side : Nat) (s : State) : Host.Outcome State Fault Refusal :=
  .next (takeRequest (.forceSpan tag side) tag (carryForce side true) s)

/-- RELEASE_SPAN. -/
def execReleaseSpan (tag : Byte) (side : Nat) (s : State) : Host.Outcome State Fault Refusal :=
  .next (takeRequest (.releaseSpan tag side) tag (carryForce side false) s)

/-- READ_SPAN_MAP. -/
def execReadSpanMap (tag : Byte) (s : State) : Host.Outcome State Fault Refusal :=
  .next (takeRequest (.readSpanMap tag) tag carryReadSpanMap s)

/-- READ_LANE. -/
def execReadLane (tag : Byte) (side : Nat) (s : State) : Host.Outcome State Fault Refusal :=
  .next (takeRequest (.readLane tag side) tag (carryReadLane side) s)

/-- READ_SLOT_GRANTS. -/
def execReadSlotGrants (tag : Byte) (span : Nat) (s : State) : Host.Outcome State Fault Refusal :=
  .next (takeRequest (.readSlotGrants tag span) tag (carryReadSlotGrants span) s)

/-- READ_CONNECTIONS. -/
def execReadConnections (tag : Byte) (first count : Nat) (s : State) : Host.Outcome State Fault Refusal :=
  .next (takeRequest (.readConnections tag first count) tag (carryReadConnections first count) s)

end Sys2Proof.Machine
end

