-- ==== Sys2Proof/Machine/StreamCmds.lean ====
section
/-!
DEFINITION. The meanings of the Stream requests (R165); each returns the Stream status.
-/

namespace Sys2Proof.Machine

/-- A response that carries the Stream status as it stands after the request (R165). -/
def withStream (status : Status) (s : State) : Carried := { state := s, status := status, data := s.store.stream.bytes }

/-- Stream Begin (R21). -/
def carryStreamBegin (first count : Nat) (activate : Bool) (s : State) : Carried :=
  if s.store.stream.state = .opened then withStream .streamState s
  else if count = 0 ∨ Config.handleCount < count ∨ Config.handleCount ≤ first ∨ Config.handleCount < first + count then
    withStream .invalidField s
  else withStream .ok (s.setStream
    { state := .opened, first := first, count := count, remaining := count, activate := activate, halt := none })

/-- A response to Stream Chunk: the Stream status and the number of images accepted (R165). -/
def withChunk (status : Status) (accepted : Nat) (s : State) : Carried :=
  { state := s, status := status, data := s.store.stream.bytes ++ be2 accepted }

/-- Stream Chunk (R22, R23). -/
def carryStreamChunk (images : List StageImage) (s : State) : Carried :=
  if s.store.stream.state ≠ .opened then withChunk .streamState 0 s
  else if images.length < 1 ∨ 8 < images.length then withChunk .invalidField 0 s
  else
    let r := stageChunk images 0 s
    match r.halted with
    | some status => withChunk status r.accepted r.state
    | none =>
      if r.state.store.stream.remaining = 0 then
        withChunk (finishStream r.state).2 r.accepted (finishStream r.state).1
      else withChunk .ok r.accepted r.state

/-- Stream Abort (R24). That first handle, count, remaining and the activate flag stay as they stood is the model's choice
(DESIGN CHOICE, entry 27). -/
def carryStreamAbort (s : State) : Carried :=
  withStream .ok (s.setStream { s.store.stream with state := .closed, halt := none })

/-- STREAM_BEGIN. -/
def execStreamBegin (tag : Byte) (first count : Nat) (activate : Bool) (s : State) : Host.Outcome State Fault Refusal :=
  .next (takeRequest (.streamBegin tag first count activate) tag (carryStreamBegin first count activate) s)

/-- STREAM_CHUNK. -/
def execStreamChunk (tag : Byte) (images : List StageImage) (s : State) : Host.Outcome State Fault Refusal :=
  .next (takeRequest (.streamChunk tag images) tag (carryStreamChunk images) s)

/-- STREAM_STATUS. -/
def execStreamStatus (tag : Byte) (s : State) : Host.Outcome State Fault Refusal :=
  .next (takeRequest (.streamStatus tag) tag (withStream .ok) s)

/-- STREAM_ABORT. -/
def execStreamAbort (tag : Byte) (s : State) : Host.Outcome State Fault Refusal :=
  .next (takeRequest (.streamAbort tag) tag carryStreamAbort s)

end Sys2Proof.Machine
end

