-- ==== Sys2Proof/Machine/Dispatch.lean ====
section
/-! DEFINITION. The dispatch: one arm for each command, one direct call of its meaning. -/

namespace Sys2Proof.Machine

def exec (i : Instr) (s : State) : Host.Outcome State Fault Refusal :=
  match i with
  | .fullReset => Sys2Proof.Machine.execFullReset s
  | .lineFail d active => Sys2Proof.Machine.execLineFail d active s
  | .blockCountReport d report => Sys2Proof.Machine.execBlockCountReport d report s
  | .holdOffTimerExpiry d => Sys2Proof.Machine.execHoldOffTimerExpiry d s
  | .wtrTimerExpiry d => Sys2Proof.Machine.execWtrTimerExpiry d s
  | .silenceTimerExpiry d => Sys2Proof.Machine.execSilenceTimerExpiry d s
  | .frameSlot => Sys2Proof.Machine.execFrameSlot s
  | .laneBadFrame d => Sys2Proof.Machine.execLaneBadFrame d s
  | .fill d => Sys2Proof.Machine.execFill d s
  | .greeting d g => Sys2Proof.Machine.execGreeting d g s
  | .spanReport d r => Sys2Proof.Machine.execSpanReport d r s
  | .pathConfirm d p => Sys2Proof.Machine.execPathConfirm d p s
  | .lockWindowTimerExpiry d => Sys2Proof.Machine.execLockWindowTimerExpiry d s
  | .adjacencyTimerExpiry d => Sys2Proof.Machine.execAdjacencyTimerExpiry d s
  | .greetingTimerExpiry d => Sys2Proof.Machine.execGreetingTimerExpiry d s
  | .joinTimerExpiry => Sys2Proof.Machine.execJoinTimerExpiry s
  | .gatherHandle => Sys2Proof.Machine.execGatherHandle s
  | .classPassEntry => Sys2Proof.Machine.execClassPassEntry s
  | .extraPassEntry => Sys2Proof.Machine.execExtraPassEntry s
  | .sweepCommit => Sys2Proof.Machine.execSweepCommit s
  | .fabricDone tag priorDiffered => Sys2Proof.Machine.execFabricDone tag priorDiffered s
  | .fabricRefused tag => Sys2Proof.Machine.execFabricRefused tag s
  | .fabricLinkDiscard => Sys2Proof.Machine.execFabricLinkDiscard s
  | .responseTimerExpiry => Sys2Proof.Machine.execResponseTimerExpiry s
  | .reassertionTimerExpiry => Sys2Proof.Machine.execReassertionTimerExpiry s
  | .confirmTimerExpiry h => Sys2Proof.Machine.execConfirmTimerExpiry h s
  | .readTransaction bits => Sys2Proof.Machine.execReadTransaction bits s
  | .requestDiscarded => Sys2Proof.Machine.execRequestDiscarded s
  | .badFrame clocked => Sys2Proof.Machine.execBadFrame clocked s
  | .unknownCommand clocked => Sys2Proof.Machine.execUnknownCommand clocked s
  | .responsePlaced => Sys2Proof.Machine.execResponsePlaced s
  | .start tag => Sys2Proof.Machine.execStart tag s
  | .stop tag => Sys2Proof.Machine.execStop tag s
  | .softReset tag => Sys2Proof.Machine.execSoftReset tag s
  | .setRing tag ringId ringSize own => Sys2Proof.Machine.execSetRing tag ringId ringSize own s
  | .setTimers tag holdOff wtr confirmInterval reassertInterval cadence => Sys2Proof.Machine.execSetTimers tag holdOff wtr confirmInterval reassertInterval cadence s
  | .setDegrade tag side leak declare clear => Sys2Proof.Machine.execSetDegrade tag side leak declare clear s
  | .setSpanDelay tag span delay => Sys2Proof.Machine.execSetSpanDelay tag span delay s
  | .readNode tag => Sys2Proof.Machine.execReadNode tag s
  | .stageRecord tag h image => Sys2Proof.Machine.execStageRecord tag h image s
  | .amendRecord tag h image => Sys2Proof.Machine.execAmendRecord tag h image s
  | .activateRecord tag h => Sys2Proof.Machine.execActivateRecord tag h s
  | .retireRecord tag h => Sys2Proof.Machine.execRetireRecord tag h s
  | .discardRecord tag h => Sys2Proof.Machine.execDiscardRecord tag h s
  | .readRecord tag h => Sys2Proof.Machine.execReadRecord tag h s
  | .findCircuit tag circuit => Sys2Proof.Machine.execFindCircuit tag circuit s
  | .nextChanged tag => Sys2Proof.Machine.execNextChanged tag s
  | .streamBegin tag first count activate => Sys2Proof.Machine.execStreamBegin tag first count activate s
  | .streamChunk tag images => Sys2Proof.Machine.execStreamChunk tag images s
  | .streamStatus tag => Sys2Proof.Machine.execStreamStatus tag s
  | .streamAbort tag => Sys2Proof.Machine.execStreamAbort tag s
  | .forceSpan tag side => Sys2Proof.Machine.execForceSpan tag side s
  | .releaseSpan tag side => Sys2Proof.Machine.execReleaseSpan tag side s
  | .readSpanMap tag => Sys2Proof.Machine.execReadSpanMap tag s
  | .readLane tag side => Sys2Proof.Machine.execReadLane tag side s
  | .readSlotGrants tag span => Sys2Proof.Machine.execReadSlotGrants tag span s
  | .readConnections tag first count => Sys2Proof.Machine.execReadConnections tag first count s
  | .readSummary tag => Sys2Proof.Machine.execReadSummary tag s
  | .acknowledgeCause tag cause => Sys2Proof.Machine.execAcknowledgeCause tag cause s
  | .setAttentionMask tag enables => Sys2Proof.Machine.execSetAttentionMask tag enables s
  | .discardedGoodFrame d => Sys2Proof.Machine.execDiscardedGoodFrame d s

end Sys2Proof.Machine
end

