-- ==== Sys2Proof/Machine/Step.lean ====
section
/-!
DEFINITION. The step: the command at the front of the queue is taken and carried out; on an empty queue one microsecond
passes (entries 1, 2).
-/

namespace Sys2Proof.Machine

/-- A timer that runs loses one microsecond; at 0 it waits for its expiry command (entries 2, 3). -/
def tickTimer (t : Option Nat) : Option Nat := t.map fun n => n - 1

/-- One microsecond at a Line Monitor. -/
def Monitor.tick (m : Monitor) : Monitor :=
  { m with
    holdOffTimer := tickTimer m.holdOffTimer, wtrTimer := tickTimer m.wtrTimer,
    silenceTimer := tickTimer m.silenceTimer }

/-- One microsecond at a lane. -/
def Lane.tick (l : Lane) : Lane :=
  { l with
    lockWindow := tickTimer l.lockWindow, adjTimer := tickTimer l.adjTimer, greetTimer := tickTimer l.greetTimer }

/-- One microsecond at a record's exchange. -/
def Record.tick (r : Record) : Record := { r with exchange := { r.exchange with timer := tickTimer r.exchange.timer } }

/-- One microsecond passes: every timer that runs counts down, and nothing falls together with an earlier answer any more; nothing
else changes (DESIGN CHOICE, entries 2, 30). -/
def tick (s : State) : State :=
  { s with
    node := { s.node with joinTimer := tickTimer s.node.joinTimer },
    store := { s.store with records := Table.mapValues Record.free (fun _ r => r.tick) s.store.records },
    monEast := s.monEast.tick, monWest := s.monWest.tick, laneEast := s.laneEast.tick, laneWest := s.laneWest.tick,
    fabric := { s.fabric with
      responseTimer := tickTimer s.fabric.responseTimer, reassertTimer := tickTimer s.fabric.reassertTimer,
      answered := false } }

/-- The step of the block. -/
def step (s : State) : Host.Outcome State Fault Refusal :=
  match s.pending with
  | [] => .next (tick s)
  | c :: rest => exec c { s with pending := rest }

/-- The command that a table word spells is put at the front of the queue; no row of the table gives bits, so no word
spells one. -/
def State.withFetchWord (s : State) (nbits w : Nat) : State :=
  match decodeTableWord nbits w with
  | none => s
  | some c => { s with pending := c :: s.pending }

end Sys2Proof.Machine
end

