-- ==== Sys2Proof/WellFormed.lean ====
section
/-!
DEFINITION. Which commands can arrive: every operand fits the field that carries it (R178, R179, R180), and a request that
fails a frame check is one that the port finds so (R157).
-/

namespace Sys2Proof

open Sys2Proof.Machine

/-- The number fits one byte. -/
def fits1 (n : Nat) : Bool := decide (n < 256)

/-- The number fits two bytes. -/
def fits2 (n : Nat) : Bool := decide (n < 65536)

/-- The number fits three bytes. -/
def fits3 (n : Nat) : Bool := decide (n < 16777216)

/-- Every field of a stage image fits its bytes (R178). -/
def imageFits (i : StageImage) : Bool :=
  fits2 i.handle && fits3 i.circuit && decide (i.kind < 4) && fits1 i.endA && fits1 i.endB && fits1 i.workSlot &&
    fits1 i.protSlot && fits1 i.prio && fits3 i.ceiling

/-- A Stream Chunk fits a frame of 255 bytes with at most 13 images (R179). -/
def chunkFits (images : List StageImage) : Bool := decide (images.length ≤ 13) && images.all imageFits

/-- A command that can arrive. -/
def wellFormed : Instr → Bool
  | .fullReset => true
  | .lineFail _ _ => true
  | .blockCountReport _ _ => true
  | .holdOffTimerExpiry _ => true
  | .wtrTimerExpiry _ => true
  | .silenceTimerExpiry _ => true
  | .frameSlot => true
  | .laneBadFrame _ => true
  | .fill _ => true
  | .greeting _ g => greetingInRange g
  | .spanReport _ r => spanReportInRange r
  | .pathConfirm _ p => confirmInRange p
  | .lockWindowTimerExpiry _ => true
  | .adjacencyTimerExpiry _ => true
  | .greetingTimerExpiry _ => true
  | .joinTimerExpiry => true
  | .gatherHandle => true
  | .classPassEntry => true
  | .extraPassEntry => true
  | .sweepCommit => true
  | .fabricDone _ _ => true
  | .fabricRefused _ => true
  | .fabricLinkDiscard => true
  | .responseTimerExpiry => true
  | .reassertionTimerExpiry => true
  | .confirmTimerExpiry h => decide (h < Config.handleCount)
  | .readTransaction _ => true
  | .requestDiscarded => true
  | .badFrame clocked => decide (clocked.getD 0 0 ≠ 0) && decide (decodeRequest clocked = .badFrame clocked)
  | .unknownCommand clocked => decide (decodeRequest clocked = .unknownCommand clocked)
  | .responsePlaced => true
  | .start _ => true
  | .stop _ => true
  | .softReset _ => true
  | .setRing _ ringId ringSize own => fits2 ringId && fits1 ringSize && fits1 own
  | .setTimers _ holdOff wtr confirmInterval reassertInterval cadence =>
    fits2 holdOff && fits2 wtr && fits2 confirmInterval && fits2 reassertInterval && fits1 cadence
  | .setDegrade _ side _ _ _ => fits1 side
  | .setSpanDelay _ span _ => fits1 span
  | .readNode _ => true
  | .stageRecord _ h i => fits2 h && imageFits i
  | .amendRecord _ h i => fits2 h && imageFits i
  | .activateRecord _ h => fits2 h
  | .retireRecord _ h => fits2 h
  | .discardRecord _ h => fits2 h
  | .readRecord _ h => fits2 h
  | .findCircuit _ circuit => fits3 circuit
  | .nextChanged _ => true
  | .streamBegin _ first count _ => fits2 first && fits2 count
  | .streamChunk _ images => chunkFits images
  | .streamStatus _ => true
  | .streamAbort _ => true
  | .forceSpan _ side => fits1 side
  | .releaseSpan _ side => fits1 side
  | .readSpanMap _ => true
  | .readLane _ side => fits1 side
  | .readSlotGrants _ span => fits1 span
  | .readConnections _ first count => fits2 first && fits1 count
  | .readSummary _ => true
  | .acknowledgeCause _ cause => fits1 cause
  | .setAttentionMask _ _ => true
  | .discardedGoodFrame _ => true

/-- The command is one of the 29 requests (R179). -/
def isRequest (i : Instr) : Bool := (requestParts i).isSome

end Sys2Proof
end

