-- ==== Sys2Proof/Safety.lean ====
section
/-!
DEFINITION. The terms that claims about the ER24 use: the invariants that every step keeps, and the frames that say what a
command leaves unchanged. No command faults or is refused, so a run is safe when the invariants hold all along it.
-/

namespace Sys2Proof.Machine

/-! ### Requests -/

/-- A request transaction that ends now is taken at once: the port is not Working, and no soft reset waits for its response
to be read (R156, R168). -/
def Accepts (s : State) : Prop := s.port.state ≠ .working ∧ ¬ (s.port.state = .answered ∧ s.port.softResetArmed = true)

/-- The request `i` is in hand with its response; the holder is empty, the collision latch clear, and MP_DO carried 0x00
(R155, R156). -/
def State.withRequest (s : State) (i : Instr) (tag : Byte) (status : Status) (data : List Byte) : State :=
  { s with port := { s.port with
    state := .working, holder := none, collision := false, output := PortOutput.silent,
    inHand := some { request := i, response := { tag := tag, status := status, collision := false, data := data } } } }

/-- The fields of a stage image pass step 3 of R9: each in its range (R1), and the optional ones as the kind has them (R2). -/
def ImageFits (i : StageImage) : Prop :=
  1 ≤ i.circuit ∧ i.circuit ≤ 16777215 ∧ i.endA ≤ 23 ∧ i.endB ≤ 23 ∧ i.endA ≠ i.endB ∧
    (i.kind = 0 ∧ i.workSlot ≤ 191 ∧ i.protSlot ≤ 63 ∧ i.prio ≤ 7 ∧ i.ceiling ≤ 2000000 ∨
      (i.kind = 1 ∧ i.workSlot ≤ 191 ∨ i.kind = 2 ∧ i.workSlot ≤ 63) ∧
        i.protSlot = 0 ∧ i.prio = 0 ∧ i.ceiling = 0 ∧ i.lockout = false)

/-- `h` is the lowest number that `f` holds of. -/
def IsLowest (f : Nat → Prop) (h : Nat) : Prop := f h ∧ ∀ k, k < h → ¬ f k

/-! ### Invariants of the units -/

/-- ATTN_N is asserted exactly while some cause is pending and enabled, and a latched cause is pending (R171, R172). -/
def AttentionSound (s : State) : Prop :=
  s.attn.asserted = s.attn.calls ∧ ∀ c, s.attn.latch = some c → causeIn s.attn.pending c = true

/-- Every table is in its canonical form (entry 22). -/
def TablesCanonical (s : State) : Prop :=
  Table.wf Record.free s.store.records = true ∧ Table.wf [] s.store.labelIndex = true ∧
    Table.wf none s.map.others = true ∧ Table.wf SpanHeld.unheard s.map.spans = true ∧
    Table.wf 0 s.map.delays = true ∧ Table.wf none s.planner.nextGrants = true ∧
    Table.wf none s.planner.committed = true ∧ Table.wf Entry.untouched s.fabric.entries = true

/-- The degrade settings and the integrator of a Line Monitor are in their ranges, with C below D (R48, R51). -/
def Monitor.degradeInRange (m : Monitor) : Prop :=
  m.integrator ≤ 16777215 ∧ m.leak ≤ 65535 ∧ 1 ≤ m.declareLevel ∧ m.declareLevel ≤ 16777215 ∧
    m.clearLevel < m.declareLevel

/-- The machine is in Holding or Failed. -/
def Monitor.down (m : Monitor) : Bool :=
  match m.cond with
  | .holding _ _ => true
  | .failed => true
  | _ => false

/-- The machine is in Holding. -/
def Monitor.isHolding (m : Monitor) : Bool :=
  match m.cond with
  | .holding _ _ => true
  | _ => false

/-- The machine is in Waiting, or in Holding with return state Waiting. -/
def Monitor.isWaiting (m : Monitor) : Bool :=
  match m.cond with
  | .waiting => true
  | .holding .waiting _ => true
  | _ => false

/-- A Line Monitor agrees with its inputs: its defects are those of R41, the silence timer runs exactly while R42 has it
run, a defect is present exactly in Holding and Failed with the integrator at 0 (R48, R50), and the hold-off and WTR timers
run exactly in the states of R44 to R47. -/
def MonitorSound (s : State) (d : Side) : Prop :=
  (s.mon d).defects = s.defectsNow d ∧
    (s.mon d).silenceTimer.isSome = (s.quiet d && !(s.mon d).defects.neighbourSilent) ∧
    (s.mon d).down = (s.mon d).defects.any ∧ ((s.mon d).defects.any = true → (s.mon d).integrator = 0) ∧
    (s.mon d).holdOffTimer.isSome = (s.mon d).isHolding ∧ (s.mon d).wtrTimer.isSome = (s.mon d).isWaiting

/-- What holds of a lane: runs, counts, set and queue are in their ranges, the set holds each key once, from 0 to 47; a Hunting
lane is Down, the lock window timer runs exactly in Locked and the adjacency timer exactly outside Down, and a lane that is not
Up holds nothing to send and no exchange (R58, R59, R64, R65, R66, R68). -/
def Lane.sound (l : Lane) : Prop :=
  l.goodRun ≤ 8 ∧ l.badRun ≤ 4 ∧ l.dueReports ≤ 48 ∧ l.queue.length ≤ 16 ∧ rising l.pendingKeys = true ∧
    (∀ k ∈ l.pendingKeys, k < 48) ∧ (l.lockWindow = none ↔ l.lock = .hunting) ∧
    (l.lock = .hunting → l.adjacency = .down) ∧ (l.adjTimer = none ↔ l.adjacency = .down) ∧
    (l.adjacency ≠ .up →
      l.pendingKeys = [] ∧ l.queue = [] ∧ l.mapSent = false ∧ l.exchanged = false ∧ l.differs = false)

/-- The ring parameters and the timers that follow the node state: the parameters are all unset, in Configuring, or all in
range; the join timer runs exactly in Joining, the Reassertion Timer exactly in Running, and the Greeting timers exactly
while the ring ID is set (R26, R28, R32, R60, R133). -/
def NodeSound (s : State) : Prop :=
  (s.node.ringId = 0 ∧ s.node.ringSize = 0 ∧ s.node.own = 0 ∧ s.node.state = .configuring ∨
    1 ≤ s.node.ringId ∧ s.node.ringId ≤ 65535 ∧ 3 ≤ s.node.ringSize ∧ s.node.ringSize ≤ 24 ∧
      s.node.own < s.node.ringSize) ∧
    (s.node.joinTimer = none ↔ s.node.state ≠ .joining) ∧
    (s.fabric.reassertTimer = none ↔ s.node.state ≠ .running) ∧
    (s.laneEast.greetTimer = none ↔ s.node.ringId = 0) ∧ (s.laneWest.greetTimer = none ↔ s.node.ringId = 0)

/-- Both own reports are what their Line Monitors compose (R34, R53). -/
def OwnComposed (s : State) : Prop := (s.map.own .east).content = s.composed .east ∧ (s.map.own .west).content = s.composed .west

/-- What the Span Map holds of each span is what its two end reports give (R80, R81). -/
def SpansWorkedOut (s : State) : Prop := s.map.spans = s.workedOutSpans

/-- A record is Staged, Active or Retiring. -/
def State.inUse (s : State) (h : Nat) : Prop := (s.record h).lifecycle ≠ .free

/-- The Label Index holds the records in use, each in the bucket of its circuit number, and no two of them share a circuit
number (R9, R17). -/
def LabelsSound (s : State) : Prop :=
  (∀ b, rising (s.bucket b) = true) ∧
    (∀ b h, h ∈ s.bucket b ↔ s.inUse h ∧ bucketOf (s.record h).plan.circuit = b) ∧
    ∀ h k, h ≠ k → s.inUse h → s.inUse k → (s.record h).plan.circuit ≠ (s.record k).plan.circuit

/-- No two Active records break the slot rule under the ring as it stands, and no two share a local port (R8, R12). -/
def ActiveSound (s : State) : Prop :=
  ∀ h k, h ≠ k → (s.record h).lifecycle = .active → (s.record k).lifecycle = .active →
    slotClash s.node.ringSize (s.record h).plan (s.record k).plan = false ∧
      ((s.record h).port = none ∨ (s.record h).port ≠ (s.record k).port)

/-- The code of a record in use is that of its planning image, and a Free record is cleared (R4, R18). -/
def CodesSound (s : State) : Prop :=
  ∀ h, ((s.record h).lifecycle = .free → s.record h = Record.free) ∧
    (s.inUse h → (s.record h).code = recordCode h (s.record h).plan)

/-- The code that a record puts into the digest: that of an Active or Retiring record (R19). -/
def digestTerm (r : Record) : BitVec 32 :=
  match r.lifecycle with
  | .active => r.code
  | .retiring => r.code
  | .staged => 0
  | .free => 0

/-- The sum of the terms of the records of a table. -/
def digestSum : Table Record → BitVec 32
  | [] => 0
  | (_, r) :: t => digestTerm r + digestSum t

/-- The digest is the sum of the codes of the Active and Retiring records, plus the check of the span delay image (R19);
with the records in canonical form and the excluded set holding each handle once. -/
def DigestSound (s : State) : Prop :=
  Table.wf Record.free s.store.records = true ∧ rising s.planner.excluded = true ∧
    s.store.digest = digestSum s.store.records + crc32 (delayImage s.map.delays)

/-- The digest comparison of a lane reads Differs exactly when the lane is Up and the neighbour's digest is another one
(R66). -/
def ComparisonsSound (s : State) : Prop :=
  ∀ d, (s.lane d).differs = true ↔
    (s.lane d).adjacency = .up ∧ ∃ g, (s.lane d).neighbour = some g ∧ g.digest ≠ s.store.digest

/-- An Open Stream has images to come, none beyond handle 4095 (R21, R22). -/
def StreamSound (s : State) : Prop :=
  s.store.stream.state = .opened →
    1 ≤ s.store.stream.remaining ∧ s.store.stream.remaining ≤ s.store.stream.count ∧
      s.store.stream.first + s.store.stream.count ≤ 4096

/-- An Open Stream is sound, and only handles from 0 to 4095 have a record in use (R1, R21). -/
def HandlesSound (s : State) : Prop := StreamSound s ∧ ∀ h, 4096 ≤ h → s.record h = Record.free

/-- The next grant table holds a handle for a span and a slot exactly where the plan buffer gives that handle a detour over
the span with that slot (R104, R107); protection slots are in their range (R1). -/
def GrantsSound (s : State) : Prop :=
  (∀ h, (s.record h).plan.protSlot.getD 0 < 64) ∧ (∀ e ∈ s.planner.buffer, e.plan.protSlot.getD 0 < 64) ∧
    ∀ span slot h, slot < 64 →
      (grantAt s.planner.nextGrants span slot = some h ↔
        ∃ e ∈ s.planner.buffer, e.handle = h ∧ e.verdict = .settled .detour .none ∧ e.plan.protSlot.getD 0 = slot ∧
          span ∈ e.plan.detourArc s.node.ringSize)

/-- An entry of the plan buffer that holds a detour, or stands for one, has every span of its detour arc Good in the snapshot,
and the delays of those spans add up to no more than its ceiling (R100, R101, R104). -/
def DetoursSound (s : State) : Prop :=
  ∀ e ∈ s.planner.buffer, ((∃ w, e.verdict = .settled .detour w) ∨ ∃ c p, e.verdict = .forClass c p) →
    (∀ k ∈ e.plan.detourArc s.node.ringSize, snapCond s.planner.snapshot k = .good) ∧
      ∀ c, e.plan.ceiling = some c →
        ((e.plan.detourArc s.node.ringSize).map (snapDelay s.planner.snapshot)).sum ≤ c

/-- The sweep has looked at the handles below its gather position: the plan buffer holds handles in ascending order, the
excluded set others (R93, R96). -/
def PlanSound (s : State) : Prop :=
  s.planner.gatherPos ≤ 4096 ∧ s.planner.buffer.Pairwise (fun a b => a.handle < b.handle) ∧
    (∀ e ∈ s.planner.buffer, e.handle < s.planner.gatherPos) ∧
    ∀ h ∈ s.planner.excluded, h < s.planner.gatherPos ∧ ∀ e ∈ s.planner.buffer, e.handle ≠ h

/-- The response timer runs exactly while a command is outstanding, an InFlight entry is that of an outstanding dirty
command, commands and the pointer name entries from 0 to 511, and the cadence scale is one of the four (R120, R121, R126,
R133). -/
def FabricSound (s : State) : Prop :=
  (s.fabric.responseTimer = none ↔ s.fabric.outstanding = none) ∧
    (∀ i, (s.entry i).status = .inFlight ↔ ∃ c, s.fabric.outstanding = some c ∧ c.entry = i ∧ c.reassert = false) ∧
    (∀ c, s.fabric.outstanding = some c → c.entry < 512) ∧ (∀ i, 512 ≤ i → s.entry i = Entry.untouched) ∧
    s.fabric.pointer < 512 ∧
    (s.fabric.cadence = 1 ∨ s.fabric.cadence = 2 ∨ s.fabric.cadence = 4 ∨ s.fabric.cadence = 8)

/-- Each local port is the last confirmed value of at most one entry (R123, R128). -/
def PortsConfirmedOnce (s : State) : Prop :=
  ∀ i j q, (s.entry i).last = some (.localPort q) → (s.entry j).last = some (.localPort q) → i = j

/-- The Confirmation Unit holds state only for a record whose outcome is Detour and of which this node is an end, and makes
at most eight attempts; a record that no commit covers reads Unplanned (R4, R138, R147). -/
def ExchangesSound (s : State) : Prop :=
  ∀ h, ((s.record h).exchange ≠ Exchange.idle → (s.record h).outcome = .detour ∧ (s.endRole h).isSome = true) ∧
    (s.record h).exchange.attempts ≤ 8 ∧
    ((s.record h).lifecycle = .free ∨ (s.record h).lifecycle = .staged → (s.record h).outcome = .unplanned)

/-! ### Frames -/

/-- What an event at the Line Monitor of a side does beside its own state: the own report follows what is composed, with a
new epoch, and a mark of the own key on each lane that is Up, exactly when the content changes (R53, R68, R74); the other
side's monitor and report, and every other field but the held spans and what they set off, are as before. -/
def LineFrame (d : Side) (s t : State) : Prop :=
  let changed := t.composed d ≠ (s.map.own d).content
  (t.map.own d).content = t.composed d ∧
    (¬ changed → t.map.own d = s.map.own d) ∧ (changed → (t.map.own d).epoch = (s.map.own d).epoch + 1) ∧
    t.map.own d.other = s.map.own d.other ∧ t.mon d.other = s.mon d.other ∧
    (∀ e, t.lane e = { s.lane e with pendingKeys := (t.lane e).pendingKeys }) ∧
    (∀ e, (changed → (s.lane e).adjacency = .up → s.node.ringSize ≠ 0 →
        (t.lane e).pendingKeys = setInsert (s.lane e).pendingKeys (ownKey s.node.ringSize s.node.own d)) ∧
      (¬ (changed ∧ (s.lane e).adjacency = .up ∧ s.node.ringSize ≠ 0) →
        (t.lane e).pendingKeys = (s.lane e).pendingKeys)) ∧
    t.map.others = s.map.others ∧ t.map.delays = s.map.delays ∧ t.node = s.node ∧ t.store = s.store ∧
    t.fabric = { s.fabric with cadence := t.fabric.cadence } ∧ t.port = s.port ∧ t.pending = s.pending

/-- What the comparison of the Span Map at the end of an event sets off, from the spans that `s` held, the attention `a` and the
Planner `p`: Span Map Change on a change of an effective state; a cadence scale of 1 when a span becomes Unusable; and outside
Configuring one span trigger on a change of a planning condition, which starts a sweep in an Idle Planner, abandons a running
one while fewer than four were abandoned in a row, and else sets re-plan pending (R84 to R87, R94, R113, R114). -/
def SpanEffects (a : Attention) (p : Planner) (s t : State) : Prop :=
  let new := fun k => t.effectiveState k
  let changed := ∃ k, k < t.node.ringSize ∧ new k ≠ (s.heldSpan k).effective
  let moved := ∃ k, k < t.node.ringSize ∧ planCondOf (new k) ≠ (s.heldSpan k).planning
  let lost := ∃ k, k < t.node.ringSize ∧ planCondOf (new k) = .unusable ∧ (s.heldSpan k).planning ≠ .unusable
  let swept : Planner := { p with
    phase := .gathering, gatherPos := 0, snapshot := t.takeSnapshot, buffer := [], excluded := [], late := [],
    nextGrants := [], replan := false }
  SpansWorkedOut t ∧ (changed → t.attn = a.raise .spanMapChange) ∧ (¬ changed → t.attn = a) ∧
    (lost → t.fabric.cadence = 1) ∧ (¬ lost → t.fabric.cadence = s.fabric.cadence) ∧
    (¬ moved ∨ t.node.state = .configuring → t.planner = p) ∧
    (moved → t.node.state ≠ .configuring →
      (p.phase = .idle → t.planner = swept) ∧
      (p.phase ≠ .idle → p.abandonCount < 4 → t.planner = { swept with abandonCount := p.abandonCount + 1 }) ∧
      (p.phase ≠ .idle → 4 ≤ p.abandonCount → t.planner = { p with replan := true }))

/-- The place of a class pass in the order in which the passes are made: the greater comes first (R103). -/
def passRank (cls : Nat) : Pass → Nat
  | .a => 2 * cls + 1
  | .b => 2 * cls

/-- The sweep has come to the Extra pass, or to a class pass after which, and in which, no entry waits (R103, entry 6). -/
def PassesEnded (p : Planner) : Prop :=
  p.phase = .extraPass ∨ ∃ cls pass, p.phase = .classPass cls pass ∧ cls ≤ 7 ∧
    ∀ x ∈ p.buffer, ∀ c q, x.verdict = .forClass c q → passRank cls pass < passRank c q

/-- Handle `k` of the set `run` fails the activation at the end of a Stream with status `st`, in node `own` of a ring of `n`
with the records `r`: the first of the checks 2 to 5 of R12 that fails, where checks 4 and 5 compare it with every other
Active record and with every handle of the set below it (R23). -/
def SetFails (n own : Nat) (r : Nat → Record) (run : Nat → Prop) (k : Nat) (st : Status) : Prop :=
  let x := r k
  let fits := x.plan.endA < n ∧ x.plan.endB < n ∧ (x.port.isSome = true ↔ own = x.plan.endA ∨ own = x.plan.endB)
  let against := fun j => j ≠ k ∧ ((r j).lifecycle = .active ∨ run j ∧ j < k)
  let slot := ∃ j, against j ∧ slotClash n (r j).plan x.plan = true
  let port := x.port ≠ none ∧ ∃ j, against j ∧ (r j).port = x.port
  (x.lifecycle ≠ .staged ∧ st = .wrongState) ∨
    (x.lifecycle = .staged ∧ ¬ fits ∧ st = .invalidField) ∨
    (x.lifecycle = .staged ∧ fits ∧ slot ∧ st = .slotClash) ∨
    (x.lifecycle = .staged ∧ fits ∧ ¬ slot ∧ port ∧ st = .portClash)

/-- Of the entries `e`, `i` is the Dirty one that is sent next: of the lowest phase, and in it of the lowest index (R124,
R125). -/
def NextDirty (e : Nat → Entry) (i : Nat) : Prop :=
  (e i).status = .dirty ∧ ∀ j, (e j).status = .dirty →
    phaseOf (e i).desired < phaseOf (e j).desired ∨ phaseOf (e i).desired = phaseOf (e j).desired ∧ i ≤ j

/-- What the driver sends in node state `n` from the fields `f`, with no command outstanding, and the entries `e`: the next
Dirty entry, which becomes InFlight; without one, in Running, the entry at the pointer if a reassert request is pending; else,
and in Configuring, nothing (R125, R126, R134, R135). -/
def SendsNext (n : NodeState) (f : Fabric) (e : Nat → Entry) (t : State) : Prop :=
  let clean := ∀ i, (e i).status ≠ .dirty
  let sent := fun (i : Nat) (reassert : Bool) =>
    let c : Command :=
      { entry := i, value := (e i).desired, prior := (e i).last, tag := f.tagCounter + 1, attempt := 1,
        reassert := reassert }
    t.fabric.outstanding = some c ∧ t.fabric.tagCounter = f.tagCounter + 1 ∧ t.fabric.responseTimer = some 2000 ∧
      t.fabric.tx = connectFrame c
  (n ≠ .configuring → ∀ i, NextDirty e i →
    sent i false ∧ ∀ j, t.entry j = if j = i then { e i with status := .inFlight } else e j) ∧
  (n = .running → f.reassertPending = true → clean → sent f.pointer true ∧ ∀ j, t.entry j = e j) ∧
  (n = .configuring ∨ (clean ∧ ¬ (n = .running ∧ f.reassertPending = true)) →
    t.fabric.outstanding = none ∧ t.fabric.tagCounter = f.tagCounter ∧ t.fabric.responseTimer = none ∧
      t.fabric.tx = f.tx ∧ ∀ j, t.entry j = e j)

/-- What a command leaves of a Line Monitor that works out its defects again: its input, its settings and its force flag
stand, and its defects are those of R41. -/
def MonitorWorked (d : Side) (s t : State) : Prop :=
  (t.mon d).defects = t.defectsNow d ∧
    t.mon d = { s.mon d with
      cond := (t.mon d).cond, defects := (t.mon d).defects, integrator := (t.mon d).integrator,
      holdOffTimer := (t.mon d).holdOffTimer, wtrTimer := (t.mon d).wtrTimer, silenceTimer := (t.mon d).silenceTimer }

/-- The Planner after the setting of re-plan pending, from `p`: nothing in Configuring; a sweep starts when the Planner is
Idle; otherwise the flag is set (R94, R112). -/
def HostTriggered (p : Planner) (s t : State) : Prop :=
  (s.node.state = .configuring → t.planner = p) ∧
    (s.node.state ≠ .configuring → p.phase ≠ .idle → t.planner = { p with replan := true }) ∧
    (s.node.state ≠ .configuring → p.phase = .idle →
      t.planner = { p with
        phase := .gathering, gatherPos := 0, snapshot := t.takeSnapshot, buffer := [], excluded := [], late := [],
        nextGrants := [], replan := false })

/-- Every record but that of `h` is as before. -/
def OtherRecords (h : Nat) (s t : State) : Prop := ∀ k, k ≠ h → t.record k = s.record k

/-- A change of the own digest is compared with the neighbour's on each lane that is Up, and a comparison that goes from Same to
Differs raises Table Disagreement; nothing else moves a comparison or raises the cause (R66). -/
def DigestCompared (s t : State) : Prop :=
  (t.store.digest = s.store.digest → ∀ d, (t.lane d).differs = (s.lane d).differs) ∧
    (t.store.digest ≠ s.store.digest → ∀ d g, (s.lane d).adjacency = .up → (s.lane d).neighbour = some g →
      (t.lane d).differs = decide (g.digest ≠ t.store.digest)) ∧
    (∀ d, (s.lane d).adjacency ≠ .up ∨ (s.lane d).neighbour = none → (t.lane d).differs = (s.lane d).differs) ∧
    (causeIn t.attn.pending .tableDisagreement = true ↔
      causeIn s.attn.pending .tableDisagreement = true ∨
        ∃ d, (t.lane d).differs = true ∧ (s.lane d).differs = false)

/-- Both lanes are as before but for their digest comparisons, which follow a change of the own digest (R66), and what `queues`
allows of their Path Confirm queues. -/
def LanesButDigest (queues : Bool) (s t : State) : Prop :=
  (∀ d, t.lane d = { s.lane d with
    differs := (t.lane d).differs, queue := if queues then (t.lane d).queue else (s.lane d).queue }) ∧
    DigestCompared s t

/-- The own key of each side for which `changed` holds is marked on both lanes, where they are Up (R68, R74). -/
def MarksOwnKeys (changed : Side → Prop) (s t : State) : Prop :=
  ∀ e k, k ∈ (t.lane e).pendingKeys ↔ k ∈ (s.lane e).pendingKeys ∨
    ((s.lane e).adjacency = .up ∧ s.node.ringSize ≠ 0 ∧
      ∃ d, changed d ∧ k = ownKey s.node.ringSize s.node.own d)

/-- What a record request leaves alone: node, Line Monitors, Span Map, fabric, the Stream and the commands that wait. -/
def RecordFrame (s t : State) : Prop :=
  t.node = s.node ∧ t.monEast = s.monEast ∧ t.monWest = s.monWest ∧ t.map = s.map ∧ t.fabric = s.fabric ∧
    t.store.stream = s.store.stream ∧ t.pending = s.pending

/-- The port after a request with its response (R156). -/
def PortHolds (i : Instr) (tag : Byte) (status : Status) (data : List Byte) (s t : State) : Prop :=
  t.port = (s.withRequest i tag status data).port

/-- What a Line Monitor is after a full reset with its Line Fail input at a level: a defect present at that point appears in
Clear, and the hold-off is 0 (R39, R44, R55). -/
def monitorAfterReset (lineFail : Bool) : Monitor :=
  { Monitor.reset with
    lineFail := lineFail, defects := { Defects.empty with lineFail := lineFail },
    cond := if lineFail then .failed else .clear }

/-- The verdict of R98 to R102 on a gathered record. -/
def verdictOf (snap : List SnapSpan) (n : Nat) (p : Planning) (v : Verdict) : Prop :=
  let lost := ∃ k ∈ p.workingArc n, snapCond snap k = .unusable
  let good := ∀ k ∈ p.workingArc n, snapCond snap k = .good
  let routed := ∀ k ∈ p.detourArc n, snapCond snap k = .good
  let inTime := ∀ c, p.ceiling = some c → ((p.detourArc n).map (snapDelay snap)).sum ≤ c
  let kept := fun w => (lost → v = .settled .suppressed w) ∧ (¬ lost → v = .settled .working w)
  (p.kind = .extra → v = .forExtra) ∧ (p.kind ≠ .extra → good → v = .settled .working .none) ∧
    (p.kind = .unprot → ¬ good → kept .unprotected) ∧
    (p.kind = .prot → ¬ good → p.lockout = true → kept .lockedOut) ∧
    (p.kind = .prot → ¬ good → p.lockout = false → ¬ routed → kept .noRoute) ∧
    (p.kind = .prot → ¬ good → p.lockout = false → routed → ¬ inTime → kept .overDelay) ∧
    (p.kind = .prot → ¬ good → p.lockout = false → routed → inTime →
      (lost → v = .forClass (p.prio.getD 0) .a) ∧ (¬ lost → v = .forClass (p.prio.getD 0) .b))

/-- A lane that has lost lock: Hunting and Down, and what it held while Up is emptied (R58, R59, R65). -/
def Lane.lostLock (l : Lane) (badRun : Nat) : Lane :=
  let kept : Lane := if l.adjacency = .up then
      { l with pendingKeys := [], queue := [], mapSent := false, exchanged := false, differs := false }
    else l
  { kept with lock := .hunting, goodRun := 0, badRun := badRun, lockWindow := none, adjacency := .down, adjTimer := none }

/-- A lane after a good frame while it is Locked (R58). -/
def Lane.keptLock (l : Lane) : Lane := { l with badRun := 0, lockWindow := some 4000 }

/-! ### The Connection Map and the exchanges -/

/-- The rows of R122 at node `k` of a ring of `n`: the record, by kind, role and committed outcome, names entry `i` with value
`v`. Entries are numbered as in R120. -/
def NamesEntry (n k : Nat) (r : Record) (i : Nat) (v : ConnValue) : Prop :=
  let p := r.plan
  let work : Side → Nat := fun d => match d with | .east => p.workSlot | .west => 256 + p.workSlot
  let prot : Nat → Side → Nat := fun slot d => match d with | .east => 192 + slot | .west => 448 + slot
  let slot := p.protSlot.getD 0
  let add := ConnValue.localPort (r.port.getD 0)
  let channel := p.kind = .prot ∨ p.kind = .unprot
  (∃ e, (e = Role.endA ∨ e = .endB) ∧ p.role n k = some e ∧
    ((channel ∧ r.outcome = .working ∧ i = work (p.workingSide e) ∧ v = add) ∨
      (p.kind = .prot ∧ r.outcome = .detour ∧
        (i = work (p.workingSide e) ∧ v = .void ∨ i = prot slot (p.detourSide e) ∧ v = add)) ∨
      (channel ∧ r.outcome = .suppressed ∧ i = work (p.workingSide e) ∧ v = .void) ∨
      (p.kind = .extra ∧ r.outcome = .riding ∧ i = prot p.workSlot (p.workingSide e) ∧ v = add) ∨
      (p.kind = .extra ∧ r.outcome = .preempted ∧ i = prot p.workSlot (p.workingSide e) ∧ v = .void))) ∨
  (∃ d, p.role n k = some .workingTransit ∧
    ((channel ∧ (r.outcome = .working ∨ r.outcome = .detour ∨ r.outcome = .suppressed) ∧ i = work d ∧ v = .through) ∨
      (p.kind = .extra ∧ r.outcome = .riding ∧ i = prot p.workSlot d ∧ v = .through) ∨
      (p.kind = .extra ∧ r.outcome = .preempted ∧ i = prot p.workSlot d ∧ v = .void))) ∨
  ∃ d, p.role n k = some .detourTransit ∧ p.kind = .prot ∧ r.outcome = .detour ∧ i = prot slot d ∧ v = .through

/-- The value `v` of entry `i` by R123: what is named and is not Void, where the records that name the entry agree on one such
value; Void where all of them name Void; Idle where none names it. -/
def DesiredFollows (s : State) (i : Nat) (v : ConnValue) : Prop :=
  let names := fun h w => NamesEntry s.node.ringSize s.node.own (s.record h) i w
  (∀ h w, names h w → w ≠ .void → (∀ h' w', names h' w' → w' = .void ∨ w' = w) → v = w) ∧
    (∀ h w, names h w → (∀ h' w', names h' w' → w' = .void) → v = .void) ∧
    ((∀ h w, ¬ names h w) → v = .idle)

/-- The connection status of every record is what the statuses of the entries that it names give by the table of R132, and one
that has become Fault or Settled has put its record in the changed set. -/
def ConnFollows (s t : State) : Prop :=
  ∀ h, let names := fun i => ∃ v, NamesEntry t.node.ringSize t.node.own (t.record h) i v
    let status := fun i => (t.entry i).status
    let c := (t.record h).conn
    ((∀ i, ¬ names i) → c = .none) ∧ (∀ i, names i → status i = .failed → c = .fault) ∧
      (∀ i, names i → (∀ j, names j → status j ≠ .failed) → status i = .dirty ∨ status i = .inFlight → c = .applying) ∧
      (∀ i, names i → (∀ j, names j → status j = .applied) → c = .settled) ∧
      (c ≠ (s.record h).conn → c = .fault ∨ c = .settled → h ∈ t.store.changed)

/-- The Path Confirm that this end, with role `r`, sends for a record (R141). -/
def State.attemptOf (s : State) (h : Nat) (r : Role) (heard : Bool) : PathConfirm :=
  { handle := h, check := recordCheck (s.record h).code, sender := s.node.own, target := (s.record h).plan.otherEnd r,
    heard := heard, hops := BitVec.ofNat 8 s.node.ringSize }

/-- Each record of which `enters` holds, with this end's role, leaves Pending for Awaiting with attempt 1 and its confirm timer,
and for Restored where the other end was heard already; it joins the changed set (R139, R141, R146). -/
def EnterAwaiting (enters : Nat → Role → Prop) (s t : State) : Prop :=
  ∀ h r, enters h r →
    (t.record h).exchange = { (s.record h).exchange with
      state := if (s.record h).exchange.heardTheirs then .restored else .awaiting,
      attempts := 1, sending := true, timer := some (s.node.confirmInterval * 1000) } ∧
    h ∈ t.store.changed

/-- Each record of which `enters` holds sends one Path Confirm on its detour side: they join the queue of a lane that is Up
until it holds 16, and the others are dropped (R69, R142). They join in ascending handle order, which R151 gives on entry to
Joining and which elsewhere is the model's reading (entry 24). -/
def QueueAttempts (enters : Nat → Role → Prop) (heard : Nat → Bool) (s t : State) : Prop :=
  ∀ e, ∃ hs : List Nat, rising hs = true ∧
    (∀ h, h ∈ hs ↔ ∃ r, enters h r ∧ (s.record h).plan.detourSide r = e) ∧
    (t.lane e).queue = if (s.lane e).adjacency = .up then
        (s.lane e).queue ++ (hs.map fun h => s.attemptOf h ((s.endRole h).getD .endA) (heard h)).take
          (16 - (s.lane e).queue.length)
      else (s.lane e).queue

/-- The local connection of a record is applied: its detour entry is Applied and confirmed Local of its local port (R138). -/
def State.LocalApplied (s : State) (h : Nat) (r : Role) : Prop :=
  ∃ q, (s.record h).port = some q ∧ (s.entry ((s.record h).plan.detourEntry r)).last = some (.localPort q) ∧
    (s.entry ((s.record h).plan.detourEntry r)).status = .applied

/-- The Done of command `c` applies the local connection of a record in Pending, outside Configuring: it confirms the record's
detour entry at Local of its port, which is the desired value, and the entry was not so before (R128, R140, R150). -/
def AppliesLocal (c : Command) (s : State) (h : Nat) (r : Role) : Prop :=
  s.node.state ≠ .configuring ∧ s.endRole h = some r ∧ (s.record h).exchange.state = .pending ∧
    (s.record h).plan.detourEntry r = c.entry ∧ (s.entry c.entry).desired = c.value ∧
    (∃ q, (s.record h).port = some q ∧ c.value = .localPort q) ∧ ¬ s.LocalApplied h r

/-- Entry to Joining finds the local connection of a record in Pending applied (R140, R151). -/
def ResumesPending (s : State) (h : Nat) (r : Role) : Prop :=
  s.endRole h = some r ∧ (s.record h).exchange.sending = false ∧ (s.record h).exchange.state = .pending ∧
    s.LocalApplied h r

end Sys2Proof.Machine
end

