-- ==== Sys2Proof/Certificates/Slice0/Obligations.lean ====
section
/-!
DEFINITION. The statements about the ER24. `Accepts s` says that a request that arrives now is taken at once;
`s.withRequest i tag status data` is `s` with the request in hand and its response built. A statement that gives the next
state as an update of `s` says by that alone that everything else is unchanged.
-/

open Sys2Proof Sys2Proof.Machine

/-! ### The step and the resets -/

/-- The step takes the command at the front of the queue and carries it out on the rest (95). -/
def Obligations.StepRunsFrontCommand : Prop :=
  ∀ (s : State) (c : Instr) (rest : List Instr), s.pending = c :: rest → step s = exec c { s with pending := rest }

/-- A full reset from any state gives the full-reset values of every block, with the Line Fail inputs evaluated at the levels
they have (R25, R36, R37, R55, R77, R91, R119, R137, R154, R168, R176). That the input levels and the commands that wait are
kept, and that nothing stands on the output pins, is the model's choice (entries 1, 7, 14, 26). -/
def Obligations.FullResetGivesResetState : Prop :=
  ∀ s : State, exec .fullReset s = .next { State.reset with
    monEast := monitorAfterReset s.monEast.lineFail, monWest := monitorAfterReset s.monWest.lineFail,
    pending := s.pending }

/-- When the response to a Soft Reset is read whole, the soft reset takes effect: the settings and the table that the host
loaded are kept, the runtime state of every block is cleared, and the node is in Configuring (R25, R36, R37, R55, R77, R91,
R119, R137, R154, R168, R176). That the pins keep the frame last sent is the model's choice (entries 14, 26). -/
def Obligations.SoftResetKeepsTableClearsRuntime : Prop :=
  ∀ (s : State) (r : Response) (bits : Nat), TablesCanonical s → s.port.state = .answered → s.port.holder = some r →
    s.port.softResetArmed = true → 8 * (r.data.length + 7) ≤ bits →
    ∃ t, exec (.readTransaction bits) s = .next t ∧
      t.node = { s.node with state := .configuring, joinTimer := none } ∧
      (∀ h, t.record h = { s.record h with
        outcome := .unplanned, reason := .none, conn := .none, exchange := Exchange.idle }) ∧
      t.store = { s.store with records := t.store.records, changed := [], stream := Stream.closed } ∧
      (∀ d, (t.mon d).lineFail = (s.mon d).lineFail ∧ (t.mon d).leak = (s.mon d).leak ∧
        (t.mon d).declareLevel = (s.mon d).declareLevel ∧ (t.mon d).clearLevel = (s.mon d).clearLevel ∧
        (t.mon d).force = false ∧ (t.mon d).integrator = 0 ∧ MonitorSound t d) ∧
      (∀ d, t.lane d = { Lane.reset with
        greetTimer := if s.node.ringId = 0 then none else some 10000, tx := (s.lane d).tx }) ∧
      t.map = { SpanMap.reset with delays := s.map.delays, spans := t.workedOutSpans } ∧
      t.planner = Planner.reset ∧
      (∀ i, t.entry i = { desired := (s.entry i).desired, last := none, status := .applied }) ∧
      t.fabric = { Fabric.reset with
        entries := t.fabric.entries, tagCounter := s.fabric.tagCounter, cadence := s.fabric.cadence, tx := s.fabric.tx } ∧
      t.port = { Port.reset with output := { frame := r.frame s.attn.calls, bits := bits } } ∧
      t.attn = { Attention.reset with mask := s.attn.mask } ∧ t.pending = s.pending

/-- The state after power-on meets every invariant that is stated of a step. -/
def Obligations.ResetMeetsInvariants : Prop :=
  AttentionSound State.reset ∧ TablesCanonical State.reset ∧ State.reset.planner.abandonCount ≤ 4 ∧
    (∀ d, (State.reset.mon d).degradeInRange ∧ MonitorSound State.reset d ∧ (State.reset.lane d).sound) ∧
    NodeSound State.reset ∧ OwnComposed State.reset ∧ SpansWorkedOut State.reset ∧ LabelsSound State.reset ∧
    ActiveSound State.reset ∧ CodesSound State.reset ∧ DigestSound State.reset ∧ ComparisonsSound State.reset ∧
    GrantsSound State.reset ∧ DetoursSound State.reset ∧ FabricSound State.reset ∧ PortsConfirmedOnce State.reset ∧
    ExchangesSound State.reset ∧ HandlesSound State.reset ∧ PlanSound State.reset

/-! ### Invariants that every step keeps -/

/-- ATTN_N is asserted while at least one cause is both pending and enabled, and released otherwise; a latched cause is
pending (R171, R172). -/
def Obligations.StepKeepsAttentionPin : Prop :=
  ∀ s t : State, AttentionSound s → step s = .next t → AttentionSound t

/-- Every table keeps its canonical form (entry 22): equal tables stay equal data. -/
def Obligations.StepKeepsCanonicalTables : Prop :=
  ∀ s t : State, TablesCanonical s → step s = .next t → TablesCanonical t

/-- The abandon count never exceeds 4 (R114); the integrators and degrade settings stay in their ranges, with the clear level
below the declare level (R48, R49, R51); an Open Stream has images to come within the handles (R21, R22); only handles from
0 to 4095 have a record in use (R1); and a sweep has entries, in ascending order, for handles below its gather position only,
none of them excluded (R93, R96). -/
def Obligations.StepKeepsCountsInRange : Prop :=
  (∀ s t : State, s.planner.abandonCount ≤ 4 → step s = .next t → t.planner.abandonCount ≤ 4) ∧
    (∀ s t : State, (∀ d, (s.mon d).degradeInRange) → step s = .next t → ∀ d, (t.mon d).degradeInRange) ∧
    (∀ s t : State, StreamSound s → step s = .next t → StreamSound t) ∧
    (∀ s t : State, TablesCanonical s → HandlesSound s → step s = .next t → HandlesSound t) ∧
    ∀ s t : State, PlanSound s → step s = .next t → PlanSound t

/-- With the ring parameters unset or in range, each lane keeps its runs and its queue in range, its pending set a set of
keys from 0 to 47 with each key once, is Down while Hunting, has its lock window timer running exactly in Locked and its
adjacency timer exactly outside Down, and has nothing to send and no exchange unless it is Up (R58, R59, R64, R65, R66,
R68). -/
def Obligations.StepKeepsLanes : Prop :=
  ∀ s t : State, NodeSound s → (∀ d, (s.lane d).sound) → step s = .next t → ∀ d, (t.lane d).sound

/-- Each Line Monitor's defects, machine state, integrator and timers agree with its inputs after every step (R39, R41, R42,
R44 to R48, R50). -/
def Obligations.StepKeepsMonitors : Prop :=
  ∀ s t : State, (∀ d, MonitorSound s d) → step s = .next t → ∀ d, MonitorSound t d

/-- The ring parameters stay all unset, in Configuring, or all in range, and the join, Reassertion and Greeting timers run
exactly in Joining, in Running, and while the ring ID is set (R26, R28, R32, R60, R133). -/
def Obligations.StepKeepsNodeAndTimers : Prop :=
  ∀ s t : State, NodeSound s → step s = .next t → NodeSound t

/-- The Span Map's own reports are always what the Line Monitors compose, so they are ForcedOut with cause Halted while the
node is not Running (R34, R53). -/
def Obligations.StepKeepsOwnReports : Prop :=
  ∀ s t : State, OwnComposed s → step s = .next t → OwnComposed t

/-- A span's effective state is always the more severe of its two end reports, with an unknown report counting as Clear, and
its planning condition follows from it (R80, R81). -/
def Obligations.StepKeepsEffectiveStates : Prop :=
  ∀ s t : State, TablesCanonical s → SpansWorkedOut s → step s = .next t → SpansWorkedOut t

/-- The Label Index holds the records in use, each in the bucket of its circuit number, and no two of them share a circuit
number (R9, R17). -/
def Obligations.StepKeepsLabels : Prop :=
  ∀ s t : State, TablesCanonical s → LabelsSound s → step s = .next t → LabelsSound t

/-- No two Active records share a slot on a span that both their arcs cross, and no two share a local port (R8, R12, R14,
R23, R123). -/
def Obligations.StepKeepsActiveApart : Prop :=
  ∀ s t : State, TablesCanonical s → ActiveSound s → step s = .next t → ActiveSound t

/-- The code of a record in use is the CRC-32 of its planning image, a Free record is cleared, and the digest is the sum of
the codes of the Active and Retiring records plus the check of the span delay image (R4, R18, R19). A lane's digest comparison
reads Differs exactly while it is Up with another digest at the neighbour (R66). -/
def Obligations.StepKeepsCodesAndDigest : Prop :=
  (∀ s t : State, TablesCanonical s → CodesSound s → step s = .next t → CodesSound t) ∧
    (∀ s t : State, DigestSound s → step s = .next t → DigestSound t) ∧
    ∀ s t : State, ComparisonsSound s → step s = .next t → ComparisonsSound t

/-- In the next grant table, which a commit installs, each span and slot holds at most one handle, and a handle stands on
exactly the spans of the detour that the plan buffer gives it, all with its own slot. A record that is given a detour, or stands
for one, has every span of its detour arc Good in the snapshot and its detour delay within its ceiling (R100, R101, R104,
R107). -/
def Obligations.StepKeepsGrantsWhole : Prop :=
  (∀ s t : State, TablesCanonical s → GrantsSound s → step s = .next t → GrantsSound t) ∧
    ∀ s t : State, DetoursSound s → step s = .next t → DetoursSound t

/-- An entry is InFlight exactly while a dirty command for it is outstanding, the response timer runs exactly while a command
is outstanding, the cadence scale is 1, 2, 4 or 8, and each local port is the last confirmed value of at most one entry (R121,
R123, R126, R128, R133). -/
def Obligations.StepKeepsFabric : Prop :=
  (∀ s t : State, TablesCanonical s → FabricSound s → step s = .next t → FabricSound t) ∧
    ∀ s t : State, TablesCanonical s → PortsConfirmedOnce s → step s = .next t → PortsConfirmedOnce t

/-- The confirm state is None for every record whose committed outcome is not Detour and for every record of which this node
is no end, and no run of sending passes eight attempts (R4, R138, R147). -/
def Obligations.StepKeepsExchanges : Prop :=
  ∀ s t : State, TablesCanonical s → ExchangesSound s → step s = .next t → ExchangesSound t

/-! ### Frames on the wire -/

/-- Every request, with every operand that fits its field, is read from its own frame (R155, R157, R178, R179). -/
def Obligations.RequestsDecodeAsEncoded : Prop :=
  ∀ i : Instr, isRequest i = true → wellFormed i = true → decodeRequest (encodeRequest i) = i

/-- What one ER24 sends on a lane is read as the same frame at the other end, and the frames of the fabric and of the framer
are read as the commands they stand for (R56, R127, R177, R180). That the receiver then stands between frames also before an
idle byte, so that a nonzero byte would start the next frame, is the model's choice (entry 28). -/
def Obligations.LaneAndLinkFramesDecodeAsSent : Prop :=
  ∀ d : Side, decodeLaneFrame d fillFrame = .fill d ∧
    (∀ g, greetingInRange g = true → decodeLaneFrame d (greetingFrame g) = .greeting d g) ∧
    (∀ r, spanReportInRange r = true → decodeLaneFrame d (spanReportFrame r) = .spanReport d r) ∧
    (∀ p, confirmInRange p = true → decodeLaneFrame d (pathConfirmFrame p) = .pathConfirm d p) ∧
    (∀ tag b, decodeLink .between (doneFrame tag b) = (.between, [.fabricDone tag b])) ∧
    (∀ tag, decodeLink .between (refusedFrame tag) = (.between, [.fabricRefused tag])) ∧
    ∀ e, decodeStatusLane d .between (countFrame e) = (.between, [.blockCountReport d (some e)])

/-! ### The Management Port -/

/-- A request transaction that ends while the port is Working, whatever it holds, is discarded: the collision latch is set and
nothing else changes but MP_DO, which carries 0x00 throughout every request transaction (R155). The response in hand is placed
with the collision latch as it then stands, and the port is Answered (R156, R158). A request that is taken clears the latch,
and one that ends in Ready or Answered never sets it. -/
def Obligations.WorkingPortDiscardsAndPlaces : Prop :=
  (∀ (i : Instr) (s : State), s.port.state = .working →
    (isRequest i = true ∨ (∃ b, i = .badFrame b) ∨ (∃ b, i = .unknownCommand b) ∨ i = .requestDiscarded) →
    exec i s = .next { s with port := { s.port with collision := true, output := { frame := [], bits := 0 } } }) ∧
  (∀ (i : Instr) (s t : State), s.port.state ≠ .working →
    (isRequest i = true ∨ (∃ b, i = .badFrame b) ∨ (∃ b, i = .unknownCommand b)) → exec i s = .next t →
    t.port.state = .working ∧ t.port.collision = false ∧ ∀ k, t.port.output.bit k = false) ∧
  ∀ (s : State) (x : InHand), s.port.state = .working → s.port.inHand = some x →
    exec .responsePlaced s = .next { s with port := { s.port with
      state := .answered, inHand := none, holder := some { x.response with collision := s.port.collision } } }

/-- A read returns NOT_READY in Ready and Working; in Answered it returns the held response, which leaves the holder exactly
when its last bit has been clocked out; the Attention flag is that of the read. MP_DO carries the bits of the frame, the most
significant bit of each byte first, and 0 after its end (R155, R159, R175). -/
def Obligations.ReadsEmptyHolderOnlyWhenWhole : Prop :=
  ∀ (s : State) (bits : Nat),
    (s.port.state ≠ .answered →
      exec (.readTransaction bits) s = .next { s with port := { s.port with
        output := { frame := notReadyFrame s.attn.calls, bits := bits } } }) ∧
    ∀ r : Response, s.port.state = .answered → s.port.holder = some r →
      (bits < 8 * (r.data.length + 7) →
        exec (.readTransaction bits) s = .next { s with port := { s.port with
          output := { frame := r.frame s.attn.calls, bits := bits } } }) ∧
      (8 * (r.data.length + 7) ≤ bits → s.port.softResetArmed = false →
        exec (.readTransaction bits) s = .next { s with port := { s.port with
          state := .ready, holder := none, output := { frame := r.frame s.attn.calls, bits := bits } } }) ∧
      ∀ t, exec (.readTransaction bits) s = .next t →
        (∀ j b k, (r.frame s.attn.calls)[j]? = some b → k < 8 → t.port.output.bit (8 * j + k) = b.getMsbD k) ∧
        ∀ k, 8 * (r.data.length + 7) ≤ k → t.port.output.bit k = false

/-- A request that arrives before the response to a Soft Reset has been read finds the soft reset taken first (R36, R168). -/
def Obligations.ArmedSoftResetComesFirst : Prop :=
  ∀ (i : Instr) (s : State), s.port.state = .answered → s.port.softResetArmed = true →
    (isRequest i = true ∨ (∃ b, i = .badFrame b) ∨ (∃ b, i = .unknownCommand b)) →
    exec i s = exec i (softReset s)

/-- A frame that fails a frame check is answered with its status, with the byte at the tag's place or 0 where the frame is too
short, and changes nothing outside the port (R157). -/
def Obligations.MalformedFramesAreAnswered : Prop :=
  ∀ (b : List Byte) (s : State), Accepts s →
    let tag : Byte := if 2 < min (b.getD 0 0).toNat b.length then b.getD 2 0 else 0
    exec (.badFrame b) s = .next (s.withRequest (.badFrame b) tag .badFrame []) ∧
      exec (.unknownCommand b) s = .next (s.withRequest (.unknownCommand b) tag .unknownCommand [])

/-- The reading requests are answered OK with the values they list, and change nothing but the port (R16, R38, R54, R76, R90,
R118, R136, R153, R165). The layout of the values where the manual leaves it open is the model's choice (entry 10), and so is
the one byte of the current cause with no defect present, a free value (entry 12). -/
def Obligations.ReadRequestsChangeOnlyThePort : Prop :=
  ∀ (s : State) (tag : Byte), Accepts s →
    exec (.readNode tag) s = .next (s.withRequest (.readNode tag) tag .ok s.nodeBytes) ∧
    (∀ h, h < 4096 → exec (.readRecord tag h) s = .next (s.withRequest (.readRecord tag h) tag .ok (s.recordBytes h))) ∧
    exec (.streamStatus tag) s = .next (s.withRequest (.streamStatus tag) tag .ok s.store.stream.bytes) ∧
    exec (.readSpanMap tag) s = .next (s.withRequest (.readSpanMap tag) tag .ok s.spanMapBytes) ∧
    (∀ d, exec (.readLane tag (sideCode d)) s =
      .next (s.withRequest (.readLane tag (sideCode d)) tag .ok (s.laneBytes d ++ s.monitorBytes d))) ∧
    (∀ span, span ≤ 23 →
      exec (.readSlotGrants tag span) s = .next (s.withRequest (.readSlotGrants tag span) tag .ok (s.grantsBytes span))) ∧
    ∀ first count, first ≤ 511 → 1 ≤ count → count ≤ 16 → first + count ≤ 512 →
      exec (.readConnections tag first count) s =
        .next (s.withRequest (.readConnections tag first count) tag .ok (s.connectionsBytes first count))

/-- A refused request changes nothing but the port; a Stream Chunk, which may have a partial effect, is left out (R161). The
refusals follow, each with its condition, its status and its data, the first failing check answering: those that look at the
node state, at the operands and at one record, and those that compare records (R8, R9, R11, R12, R14, R15, R16, R21, R26, R31,
R32, R35, R51, R52, R76, R118, R136, R162, R163). That a Set Ring refused for a record does not carry the ring parameters, and
which record it names for a slot clash, is the model's reading (entries 11, 13). -/
def Obligations.RefusedRequestsChangeNothing : Prop :=
  (∀ (i : Instr) (s t : State) (x : InHand), isRequest i = true → (∀ tag images, i ≠ .streamChunk tag images) →
    Accepts s → exec i s = .next t → t.port.inHand = some x → x.response.status ≠ .ok → x.response.status ≠ .clamped →
    t = s.withRequest i x.response.tag x.response.status x.response.data) ∧
  (∀ i, (∃ p, imagePlanning i = some p) ↔ ImageFits i) ∧
  (∀ (s : State) (tag : Byte), Accepts s →
    let refused := fun (i : Instr) (status : Status) (data : List Byte) =>
      exec i s = .next (s.withRequest i tag status data)
    (s.node.state ≠ .configuring ∨ s.node.ringId = 0 →
      refused (.start tag) .wrongState (be1 (nodeStateCode s.node.state))) ∧
    (s.node.state = .configuring → refused (.stop tag) .wrongState [0]) ∧
    (∀ ringId n own, (s.node.state ≠ .configuring → refused (.setRing tag ringId n own) .wrongState []) ∧
      (s.node.state = .configuring → ringId = 0 ∨ 65535 < ringId ∨ n < 3 ∨ 24 < n ∨ n ≤ own →
        refused (.setRing tag ringId n own) .invalidField [])) ∧
    (∀ side, 2 ≤ side →
      (∀ leak declare clear, refused (.setDegrade tag side leak declare clear) .invalidField []) ∧
      refused (.forceSpan tag side) .invalidField [] ∧ refused (.releaseSpan tag side) .invalidField [] ∧
      refused (.readLane tag side) .invalidField []) ∧
    (∀ span, 23 < span → (∀ delay, refused (.setSpanDelay tag span delay) .invalidField []) ∧
      refused (.readSlotGrants tag span) .invalidField []) ∧
    (∀ first count, 511 < first ∨ count = 0 ∨ 16 < count ∨ 512 < first + count →
      refused (.readConnections tag first count) .invalidField []) ∧
    refused (.findCircuit tag 0) .invalidField [] ∧
    (∀ first count activate, s.store.stream.state ≠ .opened →
      count = 0 ∨ 4096 < count ∨ 4095 < first ∨ 4096 < first + count →
      refused (.streamBegin tag first count activate) .invalidField s.store.stream.bytes) ∧
    (∀ h, 4095 < h → refused (.readRecord tag h) .badHandle [] ∧ refused (.activateRecord tag h) .badHandle [] ∧
      refused (.retireRecord tag h) .badHandle [] ∧ refused (.discardRecord tag h) .badHandle [] ∧
      ∀ i, refused (.stageRecord tag h i) .badHandle [] ∧ refused (.amendRecord tag h i) .badHandle []) ∧
    ∀ h, h < 4096 →
      let r := s.record h
      (r.lifecycle ≠ .staged → refused (.discardRecord tag h) .wrongState (s.blockBytes h) ∧
        refused (.activateRecord tag h) .wrongState (s.blockBytes h)) ∧
      (r.lifecycle ≠ .active → refused (.retireRecord tag h) .wrongState (s.blockBytes h) ∧
        ∀ i, refused (.amendRecord tag h i) .wrongState (s.blockBytes h)) ∧
      (r.lifecycle = .active ∨ r.lifecycle = .retiring →
        ∀ i, refused (.stageRecord tag h i) .wrongState (s.blockBytes h)) ∧
      (r.lifecycle = .free ∨ r.lifecycle = .staged → ∀ i, i.handle ≠ h ∨ ¬ ImageFits i →
        refused (.stageRecord tag h i) .invalidField (s.blockBytes h)) ∧
      (r.lifecycle = .staged →
        ¬ (r.plan.endA < s.node.ringSize ∧ r.plan.endB < s.node.ringSize ∧
          (r.port.isSome = true ↔ s.node.own = r.plan.endA ∨ s.node.own = r.plan.endB)) →
        refused (.activateRecord tag h) .invalidField (s.blockBytes h))) ∧
  ∀ (s : State) (tag : Byte), Accepts s → TablesCanonical s →
    let refused := fun (i : Instr) (status : Status) (data : List Byte) =>
      exec i s = .next (s.withRequest i tag status data)
    let active := fun k => (s.record k).lifecycle = .active
    let retiring := fun k => (s.record k).lifecycle = .retiring
    (∀ ringId n own, s.node.state = .configuring → 1 ≤ ringId → ringId ≤ 65535 → 3 ≤ n → n ≤ 24 → own < n →
      let unfit := fun k => (active k ∨ retiring k) ∧
        ¬ ((s.record k).plan.endA < n ∧ (s.record k).plan.endB < n ∧
          ((s.record k).port.isSome = true ↔ own = (s.record k).plan.endA ∨ own = (s.record k).plan.endB))
      let clashes := fun k => active k ∧
        ∃ j, j ≠ k ∧ active j ∧ slotClash n (s.record j).plan (s.record k).plan = true
      (∀ k, IsLowest unfit k → refused (.setRing tag ringId n own) .invalidField (be2 k)) ∧
      ((∀ k, ¬ unfit k) → ∀ k, IsLowest clashes k → refused (.setRing tag ringId n own) .slotClash (be2 k))) ∧
    ∀ h, h < 4096 →
      let r := s.record h
      (LabelsSound s → r.lifecycle = .free ∨ r.lifecycle = .staged → ∀ i k, i.handle = h → ImageFits i → k ≠ h →
        s.inUse k → (s.record k).plan.circuit = i.circuit →
        refused (.stageRecord tag h i) .labelClash (s.blockBytes h ++ be2 k)) ∧
      (r.lifecycle = .staged → r.plan.endA < s.node.ringSize → r.plan.endB < s.node.ringSize →
        (r.port.isSome = true ↔ s.node.own = r.plan.endA ∨ s.node.own = r.plan.endB) →
        let slot := fun k => k ≠ h ∧ active k ∧ slotClash s.node.ringSize (s.record k).plan r.plan = true
        let port := fun k => k ≠ h ∧ active k ∧ r.port ≠ none ∧ (s.record k).port = r.port
        (∀ k, IsLowest slot k → refused (.activateRecord tag h) .slotClash (s.blockBytes h ++ be2 k)) ∧
        ((∀ k, ¬ slot k) → ∀ k, IsLowest port k →
          refused (.activateRecord tag h) .portClash (s.blockBytes h ++ be2 k))) ∧
      (active h → ∀ i,
        let fits := i.handle = h ∧ (∃ p, imagePlanning i = some p ∧ p.circuit = r.plan.circuit ∧ p.kind = r.plan.kind ∧
            p.endA = r.plan.endA ∧ p.endB = r.plan.endB ∧ p.dir = r.plan.dir ∧ p.workSlot = r.plan.workSlot ∧
            p.protSlot = r.plan.protSlot) ∧
          ((imagePort i).isSome = true ↔ s.node.own = r.plan.endA ∨ s.node.own = r.plan.endB)
        (¬ fits → refused (.amendRecord tag h i) .invalidField (s.blockBytes h)) ∧
        (fits → ∀ k, k ≠ h → active k ∨ retiring k → imagePort i ≠ none → (s.record k).port = imagePort i →
          refused (.amendRecord tag h i) .portClash (s.blockBytes h)))

/-! ### Node requests -/

/-- Set Timers and Set Degrade take each value by itself, replace one that is out of range as the tables say, answer CLAMPED
exactly when one was replaced, and change nothing else (R29, R51). The widths of the leak and the cadence scale in the responses
are the model's choice (entry 10). -/
def Obligations.SettingsAreTakenClamped : Prop :=
  (∀ (s : State) (tag : Byte) (a b c d e : Nat), Accepts s →
    let a' := if 2550 < a then 2550 else a - a % 10
    let b' := min b 3600
    let c' := max 5 (min c 1000)
    let d' := max 1 (min d 1000)
    let e' := if e = 0 then 1 else if e = 3 then 2 else if 5 ≤ e ∧ e ≤ 7 then 4 else if 8 < e then 8 else e
    exec (.setTimers tag a b c d e) s = .next (State.withRequest
      { s with
        node := { s.node with holdOff := a', wtr := b', confirmInterval := c', reassertInterval := d' },
        fabric := { s.fabric with cadence := e' } }
      (.setTimers tag a b c d e) tag (if a' = a ∧ b' = b ∧ c' = c ∧ d' = d ∧ e' = e then .ok else .clamped)
      (be2 a' ++ be2 b' ++ be2 c' ++ be2 d' ++ be2 e'))) ∧
    ∀ (s : State) (tag : Byte) (d : Side) (leak : BitVec 16) (declare clear : BitVec 24), Accepts s →
      let declare' := max 1 declare.toNat
      let clear' := min clear.toNat (declare' - 1)
      exec (.setDegrade tag (sideCode d) leak declare clear) s = .next (State.withRequest
        (s.setMon d { s.mon d with leak := leak.toNat, declareLevel := declare', clearLevel := clear' })
        (.setDegrade tag (sideCode d) leak declare clear) tag
        (if declare' = declare.toNat ∧ clear' = clear.toNat then .ok else .clamped)
        (be2 leak.toNat ++ be3 declare' ++ be3 clear'))

/-- A span delay equal to the one held changes nothing; another is written, the digest takes the new delay image, and re-plan
pending is set outside Configuring; the new digest is compared on the lanes that are Up (R19, R31, R66, R112). The width of the
span number in the response is the model's choice (entry 10). -/
def Obligations.SpanDelayEntersDigestAndPlan : Prop :=
  ∀ (s : State) (tag : Byte) (span : Nat) (delay : BitVec 16), Accepts s → span ≤ 23 →
    (delay = Table.get 0 s.map.delays span →
      exec (.setSpanDelay tag span delay) s =
        .next (s.withRequest (.setSpanDelay tag span delay) tag .ok (be1 span ++ be2 delay.toNat))) ∧
    (delay ≠ Table.get 0 s.map.delays span →
      ∃ t, exec (.setSpanDelay tag span delay) s = .next t ∧
        (∀ k, Table.get 0 t.map.delays k = if k = span then delay else Table.get 0 s.map.delays k) ∧
        t.map = { s.map with delays := t.map.delays } ∧
        t.store = { s.store with
          digest := s.store.digest - crc32 (delayImage s.map.delays) + crc32 (delayImage t.map.delays) } ∧
        HostTriggered s.planner s t ∧ LanesButDigest false s t ∧
        PortHolds (.setSpanDelay tag span delay) tag .ok (be1 span ++ be2 delay.toNat) s t ∧
        t.node = s.node ∧ t.monEast = s.monEast ∧ t.monWest = s.monWest ∧ t.fabric = s.fabric ∧ t.pending = s.pending)

/-- An accepted Set Ring that changes a value breaks both adjacencies, makes every key but the own keys unknown, places the
own reports at the new own keys, and empties the committed plan; it puts each record whose outcome or reason changed into
the changed set, clears the exchanges of the detours that ended here, and sets off the effects of the spans that changed as
one event (R26, R27, R82, R88, R117, R139). That it leaves the neighbour record, and the snapshot, late set and gather
position of the Planner, is the model's reading (entry 18); the widths of the three parameters in the response are its
choice (entry 10). -/
def Obligations.SetRingEmptiesPlanAndMap : Prop :=
  ∀ (s : State) (tag : Byte) (ringId n own : Nat), Accepts s → TablesCanonical s → OwnComposed s →
    s.node.state = .configuring → 1 ≤ ringId → ringId ≤ 65535 → 3 ≤ n → n ≤ 24 → own < n →
    (∀ h, (s.record h).lifecycle = .active ∨ (s.record h).lifecycle = .retiring →
      (s.record h).plan.endsFit n = true ∧ portPresenceOk (s.record h).plan (s.record h).port own = true) →
    (∀ h k, h ≠ k → (s.record h).lifecycle = .active → (s.record k).lifecycle = .active →
      slotClash n (s.record h).plan (s.record k).plan = false) →
    ¬ (ringId = s.node.ringId ∧ n = s.node.ringSize ∧ own = s.node.own) →
    ∃ t, exec (.setRing tag ringId n own) s = .next t ∧
      t.node = { s.node with ringId := ringId, ringSize := n, own := own } ∧
      (∀ d, t.lane d = { s.lane d with
        adjacency := .down, adjTimer := none, pendingKeys := [], queue := [], mapSent := false, exchanged := false,
        differs := false,
        greetTimer := if s.node.ringId = 0 then some 10000 else (s.lane d).greetTimer }) ∧
      (∀ d, t.report (ownKey n own d) = some (s.map.own d)) ∧
      (∀ key, key ≠ ownKey n own .east → key ≠ ownKey n own .west → t.report key = none) ∧
      t.map.delays = s.map.delays ∧
      (∀ h, (t.record h).lifecycle = (s.record h).lifecycle ∧ (t.record h).plan = (s.record h).plan ∧
        (t.record h).port = (s.record h).port ∧ (t.record h).code = (s.record h).code) ∧
      (∀ h, (t.record h).exchange =
        if (s.endRole h).isSome = true ∧ (s.record h).outcome = .detour then Exchange.idle else (s.record h).exchange) ∧
      (∀ h, (s.record h).lifecycle = .active ∨ (s.record h).lifecycle = .retiring →
        (s.record h).outcome ≠ .unplanned ∨ (s.record h).reason ≠ .none → h ∈ t.store.changed) ∧
      (ExchangesSound s → ∀ h, h ∈ t.store.changed ↔ h ∈ s.store.changed ∨
        ((s.record h).lifecycle = .active ∨ (s.record h).lifecycle = .retiring) ∧
          ((s.record h).outcome ≠ .unplanned ∨ (s.record h).reason ≠ .none)) ∧
      (∃ a, SpanEffects a t.planner s t ∧
        causeIn a.pending .spanMapChange = causeIn s.attn.pending .spanMapChange ∧
        (causeIn a.pending .recordsChanged = true ↔ causeIn s.attn.pending .recordsChanged = true ∨
          s.store.changed = [] ∧ t.store.changed ≠ [])) ∧
      (∀ d, MonitorWorked d s t) ∧
      (∀ h, (s.record h).lifecycle = .active ∨ (s.record h).lifecycle = .retiring →
        (t.record h).outcome = .unplanned ∧ (t.record h).reason = .none ∧ (t.record h).conn = .none) ∧
      t.store.digest = s.store.digest ∧ t.store.labelIndex = s.store.labelIndex ∧ t.store.stream = s.store.stream ∧
      t.planner = { s.planner with
        committed := [], buffer := [], excluded := [], nextGrants := [], abandonCount := 0 } ∧
      t.fabric = { s.fabric with cadence := t.fabric.cadence } ∧
      PortHolds (.setRing tag ringId n own) tag .ok (be2 ringId ++ be1 n ++ be1 own) s t ∧ t.pending = s.pending

/-- Start enters Joining with the join timer at 2 s, or passes into Syncing at once where the join condition holds; the join
timer's expiry enters Syncing, where a sweep starts; a Soft Reset request is answered OK and waits for its response to be
read. On entry to Joining the confirm timer of each record that is sending starts, each record in Pending is tested, their first
attempts join the queues in ascending handle order, and the driver sends the next Dirty entry (R32, R33, R36, R94, R125, R135,
R140, R141, R151). -/
def Obligations.StartJoinsAndSyncs : Prop :=
  (∀ (s : State) (tag : Byte), Accepts s → s.node.state = .configuring → s.node.ringId ≠ 0 →
    ∃ t, exec (.start tag) s = .next t ∧ t.fabric.resyncDone = false ∧
      (s.joinCondition = false →
        t.node = { s.node with state := .joining, joinTimer := some 2000000 } ∧ t.planner = s.planner ∧
        PortHolds (.start tag) tag .ok [1] s t) ∧
      (s.joinCondition = true →
        t.node = { s.node with state := .syncing, joinTimer := none } ∧
        t.planner = { s.planner with
          phase := .gathering, gatherPos := 0, snapshot := s.takeSnapshot, buffer := [], excluded := [], late := [],
          nextGrants := [], replan := false, abandonCount := 0 } ∧
        PortHolds (.start tag) tag .ok [2] s t) ∧
      (∀ h, t.record h = { s.record h with conn := (t.record h).conn, exchange := (t.record h).exchange }) ∧
      (∀ h, (s.record h).exchange.sending = true →
        (t.record h).exchange = { (s.record h).exchange with timer := some (s.node.confirmInterval * 1000) }) ∧
      EnterAwaiting (ResumesPending s) s t ∧
      (∀ h, (s.record h).exchange.sending = false → (∀ r, ¬ ResumesPending s h r) →
        (t.record h).exchange = (s.record h).exchange) ∧
      (TablesCanonical s → QueueAttempts (ResumesPending s) (fun h => (s.record h).exchange.heardTheirs) s t ∧
        ConnFollows s t ∧
        (FabricSound s → s.fabric.outstanding = none → SendsNext .joining s.fabric s.entry t) ∧
        (s.fabric.outstanding ≠ none → (∀ i, t.entry i = s.entry i) ∧
          t.fabric = { s.fabric with resyncDone := false })) ∧
      t.store = { s.store with records := t.store.records, changed := t.store.changed } ∧
      t.monEast = s.monEast ∧ t.monWest = s.monWest ∧ t.map = s.map ∧
      (∀ d, t.lane d = { s.lane d with queue := (t.lane d).queue }) ∧
      t.fabric.pointer = s.fabric.pointer ∧ t.fabric.cadence = s.fabric.cadence ∧
      t.fabric.reassertTimer = s.fabric.reassertTimer ∧ t.pending = s.pending) ∧
    (∀ s : State, s.node.state = .joining → s.node.joinTimer ≠ none →
      exec .joinTimerExpiry s = .next { s with
        node := { s.node with state := .syncing, joinTimer := none },
        planner := { s.planner with
          phase := .gathering, gatherPos := 0, snapshot := s.takeSnapshot, buffer := [], excluded := [], late := [],
          nextGrants := [], replan := false, abandonCount := 0 } }) ∧
    ∀ (s : State) (tag : Byte), Accepts s →
      exec (.softReset tag) s = .next (State.withRequest { s with port := { s.port with softResetArmed := true } }
        (.softReset tag) tag .ok [])

/-- Stop moves the node to Configuring: the Halted override returns, the next plan of a running sweep is discarded, while an
Idle Planner keeps what it holds, the committed plan and the Connection Map are kept, the Reassertion Timer and every
confirm timer stop; no span trigger reaches the Planner, and an own report that changed is marked on the lanes that are Up
(R34, R35, R68, R74, R84 to R87, R111, R116, R135, R150). That the late set and the gather position stay is the model's
reading (entry 18). -/
def Obligations.StopHoldsPlanAndMap : Prop :=
  ∀ (s : State) (tag : Byte), Accepts s → TablesCanonical s → OwnComposed s → s.node.state ≠ .configuring →
    ∃ t, exec (.stop tag) s = .next t ∧ t.node = { s.node with state := .configuring, joinTimer := none } ∧
      (∀ d, (t.map.own d).content = Content.halted ∧
        (t.map.own d).epoch =
          (s.map.own d).epoch + if (s.map.own d).content = Content.halted then 0 else 1) ∧
      t.map.others = s.map.others ∧ t.map.delays = s.map.delays ∧
      t.planner = (if s.planner.phase = .idle then { s.planner with replan := false, abandonCount := 0 }
        else { s.planner with
          phase := .idle, snapshot := [], buffer := [], excluded := [], nextGrants := [], replan := false,
          abandonCount := 0 }) ∧
      SpanEffects s.attn t.planner s t ∧
      t.fabric = { s.fabric with
        reassertTimer := none, cadence := t.fabric.cadence,
        reassertPending := s.fabric.reassertPending && decide (∃ c ∈ s.fabric.outstanding, c.reassert = true) } ∧
      (∀ h, t.record h = { s.record h with exchange := { (s.record h).exchange with timer := none } }) ∧
      t.store = { s.store with records := t.store.records } ∧ t.monEast = s.monEast ∧ t.monWest = s.monWest ∧
      (∀ d, t.lane d = { s.lane d with pendingKeys := (t.lane d).pendingKeys }) ∧
      MarksOwnKeys (fun d => (s.map.own d).content ≠ Content.halted) s t ∧
      PortHolds (.stop tag) tag .ok [0] s t ∧ t.pending = s.pending

/-! ### Records and the Stream -/

/-- Stage Record on a Free or Staged record whose image passes the checks writes the planning fields, the local port, the
lifecycle and the code, and moves the handle to the bucket of its circuit number; no other record, no digest, no changed set
and no plan is touched (R9, R10, R17, R18, R163). -/
def Obligations.StageWritesOneRecord : Prop :=
  ∀ (s : State) (tag : Byte) (h : Nat) (i : StageImage) (p : Planning), Accepts s → LabelsSound s → h < 4096 →
    i.handle = h → imagePlanning i = some p →
    ((s.record h).lifecycle = .free ∨ (s.record h).lifecycle = .staged) →
    (∀ k, k ≠ h → s.inUse k → (s.record k).plan.circuit ≠ p.circuit) →
    ∃ t, exec (.stageRecord tag h i) s = .next t ∧
      t.record h = { s.record h with lifecycle := .staged, plan := p, port := imagePort i, code := recordCode h p } ∧
      OtherRecords h s t ∧
      (∀ b, h ∈ t.bucket b ↔ b = bucketOf p.circuit) ∧ (∀ b k, k ≠ h → (k ∈ t.bucket b ↔ k ∈ s.bucket b)) ∧
      t = { s with
        store := { s.store with records := t.store.records, labelIndex := t.store.labelIndex }, port := t.port } ∧
      PortHolds (.stageRecord tag h i) tag .ok (t.blockBytes h) s t

/-- Discard Record makes a Staged record Free. Retire Record makes an Active record Free at once in Configuring, its code
leaving the digest; outside Configuring it makes it Retiring, changes nothing else in it, and sets re-plan pending. A
changed digest is compared on the lanes that are Up (R4, R11, R15, R19, R66, R112, R163). -/
def Obligations.DiscardAndRetireRecord : Prop :=
  ∀ (s : State) (tag : Byte) (h : Nat), Accepts s → LabelsSound s → h < 4096 →
    ((s.record h).lifecycle = .staged →
      ∃ t, exec (.discardRecord tag h) s = .next t ∧ t.record h = Record.free ∧ OtherRecords h s t ∧
        (∀ b, h ∉ t.bucket b) ∧ (∀ b k, k ≠ h → (k ∈ t.bucket b ↔ k ∈ s.bucket b)) ∧
        (∀ k, k ∈ t.store.changed ↔ k ≠ h ∧ k ∈ s.store.changed) ∧
        t = { s with
          store := { s.store with
            records := t.store.records, labelIndex := t.store.labelIndex, changed := t.store.changed },
          port := t.port } ∧
        PortHolds (.discardRecord tag h) tag .ok (t.blockBytes h) s t) ∧
    ((s.record h).lifecycle = .active →
      ∃ t, exec (.retireRecord tag h) s = .next t ∧ OtherRecords h s t ∧ LanesButDigest false s t ∧ RecordFrame s t ∧
        PortHolds (.retireRecord tag h) tag .ok (t.blockBytes h) s t ∧
        (s.node.state = .configuring →
          t.record h = Record.free ∧ t.store.digest = s.store.digest - (s.record h).code ∧ (∀ b, h ∉ t.bucket b) ∧
            (∀ b k, k ≠ h → (k ∈ t.bucket b ↔ k ∈ s.bucket b)) ∧
            (∀ k, k ∈ t.store.changed ↔ k ≠ h ∧ k ∈ s.store.changed) ∧ t.planner = s.planner) ∧
        (s.node.state ≠ .configuring →
          t.record h = { s.record h with lifecycle := .retiring } ∧ t.store = { s.store with records := t.store.records } ∧
            t.attn = s.attn ∧ HostTriggered s.planner s t))

/-- Activate Record on a Staged record that passes the checks makes it Active, adds its code to the digest, and sets re-plan
pending outside Configuring; while a sweep runs its handle joins the late set. The new digest is compared on the
lanes that are Up (R12, R13, R19, R66, R93, R112, R163). -/
def Obligations.ActivateAddsRecordToTable : Prop :=
  ∀ (s : State) (tag : Byte) (h : Nat), Accepts s → h < 4096 → (s.record h).lifecycle = .staged →
    (s.record h).plan.endsFit s.node.ringSize = true →
    portPresenceOk (s.record h).plan (s.record h).port s.node.own = true →
    (∀ k, k ≠ h → (s.record k).lifecycle = .active →
      slotClash s.node.ringSize (s.record k).plan (s.record h).plan = false ∧
        ((s.record h).port = none ∨ (s.record k).port ≠ (s.record h).port)) →
    ∃ t, exec (.activateRecord tag h) s = .next t ∧ t.record h = { s.record h with lifecycle := .active } ∧
      OtherRecords h s t ∧
      t.store = { s.store with records := t.store.records, digest := s.store.digest + (s.record h).code } ∧
      HostTriggered (if s.planner.phase = .idle then s.planner
        else { s.planner with late := setInsert s.planner.late h }) s t ∧
      LanesButDigest false s t ∧ RecordFrame s t ∧ PortHolds (.activateRecord tag h) tag .ok (t.blockBytes h) s t

/-- An accepted Amend that changes nothing leaves all but the port; one that changes a field writes the planning fields and
the local port, with a new code and the digest's old code replaced when a planning field changed, puts the record in the
changed set, sets re-plan pending, and restarts the sending of an exchange that is Awaiting or Unconfirmed (R14, R18, R19,
R20, R112, R152). Outside Configuring the restart sends one Path Confirm, with the new record check, on the detour side. A
changed digest is compared on the lanes that are Up (R66). -/
def Obligations.AmendReplacesFieldsAndCode : Prop :=
  ∀ (s : State) (tag : Byte) (h : Nat) (i : StageImage) (p : Planning), Accepts s → h < 4096 →
    (s.record h).lifecycle = .active → (s.record h).code = recordCode h (s.record h).plan → i.handle = h →
    imagePlanning i = some p → s.amendFits h p (imagePort i) = true →
    (∀ k, k ≠ h → ((s.record k).lifecycle = .active ∨ (s.record k).lifecycle = .retiring) →
      imagePort i = none ∨ (s.record k).port ≠ imagePort i) →
    let x := (s.record h).exchange
    let restarts := p ≠ (s.record h).plan ∧ (s.endRole h).isSome = true ∧ (x.state = .awaiting ∨ x.state = .unconfirmed)
    (p = (s.record h).plan → imagePort i = (s.record h).port →
      exec (.amendRecord tag h i) s = .next (s.withRequest (.amendRecord tag h i) tag .ok (s.blockBytes h))) ∧
    (¬ (p = (s.record h).plan ∧ imagePort i = (s.record h).port) →
      ∃ t, exec (.amendRecord tag h i) s = .next t ∧
        t.record h = { s.record h with
          plan := p, port := imagePort i, code := recordCode h p, exchange := (t.record h).exchange } ∧
        (¬ restarts → (t.record h).exchange = x) ∧
        (restarts → s.node.state = .configuring →
          (t.record h).exchange = { x with state := .awaiting, attempts := 0, sending := true }) ∧
        (restarts → s.node.state ≠ .configuring →
          (t.record h).exchange = { x with
            state := .awaiting, attempts := 1, sending := true, timer := some (s.node.confirmInterval * 1000) }) ∧
        OtherRecords h s t ∧ t.store.digest = s.store.digest - (s.record h).code + recordCode h p ∧
        (∀ k, k ∈ t.store.changed ↔ k = h ∨ k ∈ s.store.changed) ∧ t.store.labelIndex = s.store.labelIndex ∧
        HostTriggered s.planner s t ∧ LanesButDigest true s t ∧ RecordFrame s t ∧
        (¬ restarts ∨ s.node.state = .configuring → ∀ d, (t.lane d).queue = (s.lane d).queue) ∧
        (∀ r, restarts → s.node.state ≠ .configuring → s.endRole h = some r →
          let e := (s.record h).plan.detourSide r
          let confirm : PathConfirm :=
            { handle := h, check := recordCheck (recordCode h p), sender := s.node.own,
              target := (s.record h).plan.otherEnd r, heard := x.heardTheirs, hops := BitVec.ofNat 8 s.node.ringSize }
          (t.lane e).queue = (if (s.lane e).adjacency = .up ∧ (s.lane e).queue.length < 16 then
            (s.lane e).queue ++ [confirm] else (s.lane e).queue) ∧
          (t.lane e.other).queue = (s.lane e.other).queue) ∧
        PortHolds (.amendRecord tag h i) tag .ok (t.blockBytes h) s t)

/-- Find Circuit returns the handle and the lifecycle of the record in use that holds the circuit number, and NOT_FOUND where
there is none. Next Changed returns the block of the lowest handle in the changed set, which leaves the set; on an empty set it
answers NOT_FOUND. Nothing else changes (R16, R17, R20, R164). -/
def Obligations.FindCircuitAndNextChanged : Prop :=
  (∀ (s : State) (tag : Byte) (c : Nat), Accepts s → LabelsSound s → c ≠ 0 →
    (∀ h, s.inUse h → (s.record h).plan.circuit = c →
      exec (.findCircuit tag c) s =
        .next (s.withRequest (.findCircuit tag c) tag .ok (be2 h ++ be1 (lifecycleCode (s.record h).lifecycle)))) ∧
    ((∀ h, s.inUse h → (s.record h).plan.circuit ≠ c) →
      exec (.findCircuit tag c) s = .next (s.withRequest (.findCircuit tag c) tag .notFound []))) ∧
  ∀ (s : State) (tag : Byte), Accepts s →
    (s.store.changed = [] →
      exec (.nextChanged tag) s = .next (s.withRequest (.nextChanged tag) tag .notFound [])) ∧
    ∀ h rest, s.store.changed = h :: rest → rising (h :: rest) = true →
      let t : State := { s with store := { s.store with changed := rest } }
      exec (.nextChanged tag) s = .next (t.withRequest (.nextChanged tag) tag .ok (t.blockBytes h))

/-- Stream Begin opens a Stream that is not Open for a run within the handles, is refused STREAM_STATE while it is Open, and
Stream Abort closes it from any state; no record is touched (R21, R24, R165). That an Abort leaves first handle, count,
remaining and the activate flag is the model's choice (entry 27). -/
def Obligations.StreamBeginsAndAborts : Prop :=
  ∀ (s : State) (tag : Byte) (first count : Nat) (activate : Bool), Accepts s →
    let opened : Stream :=
      { state := .opened, first := first, count := count, remaining := count, activate := activate, halt := none }
    let closed : Stream := { s.store.stream with state := .closed, halt := none }
    (s.store.stream.state ≠ .opened → 1 ≤ count → count ≤ 4096 → first + count ≤ 4096 →
      exec (.streamBegin tag first count activate) s = .next (State.withRequest
        { s with store := { s.store with stream := opened } } (.streamBegin tag first count activate) tag .ok
        opened.bytes)) ∧
    (s.store.stream.state = .opened →
      exec (.streamBegin tag first count activate) s = .next (s.withRequest (.streamBegin tag first count activate) tag
        .streamState s.store.stream.bytes)) ∧
    exec (.streamAbort tag) s = .next (State.withRequest { s with store := { s.store with stream := closed } }
      (.streamAbort tag) tag .ok closed.bytes)

/-- A Stream Chunk takes its images one by one while the Stream is Open. An image that passes is staged at the next handle,
in the bucket of its circuit number, and remaining goes down by 1; at remaining 0 without the activate flag the Stream
becomes Complete, and further images are ignored. An image that fails a Stage check, whether for the lifecycle, a field or a
circuit number that another record holds, halts the Stream at that handle, which is left as it was, and the images after it
are not looked at. Complete and Halted raise Stream Finished. A Chunk of more images is its first image and then the rest,
with the numbers accepted added. A Chunk while the Stream is not Open, or of a count outside 1 to 8, is refused and changes
nothing (R9, R10, R17, R22, R23, R165). -/
def Obligations.StreamChunkStagesOrHalts : Prop :=
  (∀ (s : State) (tag : Byte) (i : StageImage) (h m : Nat), Accepts s → LabelsSound s →
    s.store.stream.state = .opened → s.store.stream.remaining = m + 1 →
    s.store.stream.first + s.store.stream.count - s.store.stream.remaining = h →
    let busy := (s.record h).lifecycle = .active ∨ (s.record h).lifecycle = .retiring
    let passes := ¬ busy ∧ ∃ p, imagePlanning i = some p ∧ ∀ k, k ≠ h → s.inUse k → (s.record k).plan.circuit ≠ p.circuit
    let halted := fun reason : HaltReason =>
      ({ s.store.stream with state := .halted, halt := some { handle := h, reason := reason, status := none } } : Stream)
    let halts := fun (status : Status) (reason : HaltReason) =>
      exec (.streamChunk tag [i]) s = .next (State.withRequest
        { s with store := { s.store with stream := halted reason }, attn := s.attn.raise .streamFinished }
        (.streamChunk tag [i]) tag status ((halted reason).bytes ++ be2 0))
    (∀ p, imagePlanning i = some p → passes → (1 ≤ m ∨ s.store.stream.activate = false) →
      ∃ t, exec (.streamChunk tag [i]) s = .next t ∧
        t.record h = { s.record h with
          lifecycle := .staged, plan := p, port := imagePort i, code := recordCode h p } ∧
        OtherRecords h s t ∧
        (∀ b, h ∈ t.bucket b ↔ b = bucketOf p.circuit) ∧ (∀ b k, k ≠ h → (k ∈ t.bucket b ↔ k ∈ s.bucket b)) ∧
        t.store.stream = { s.store.stream with
          remaining := m, state := if m = 0 then .complete else .opened } ∧
        t.attn = (if m = 0 then s.attn.raise .streamFinished else s.attn) ∧
        PortHolds (.streamChunk tag [i]) tag .ok (t.store.stream.bytes ++ be2 1) s t ∧
        t = { s with
          store := { s.store with
            records := t.store.records, labelIndex := t.store.labelIndex, stream := t.store.stream },
          attn := t.attn, port := t.port }) ∧
    (busy → halts .wrongState .wrongState) ∧
    (¬ busy → imagePlanning i = none → halts .invalidField .invalidField) ∧
    (¬ busy → (∃ p k, imagePlanning i = some p ∧ k ≠ h ∧ s.inUse k ∧ (s.record k).plan.circuit = p.circuit) →
      halts .labelClash .labelClash) ∧
    (∀ rest : List StageImage, rest.length + 1 ≤ 8 → m = 0 ∨ ¬ passes →
      ∃ u x, exec (.streamChunk tag [i]) s = .next u ∧ u.port.inHand = some x ∧
        exec (.streamChunk tag (i :: rest)) s = .next { u with port := { u.port with
          inHand := some { x with request := .streamChunk tag (i :: rest) } } }) ∧
    ∀ rest : List StageImage, rest ≠ [] → rest.length + 1 ≤ 8 → 1 ≤ m → passes →
      ∃ u v x n, exec (.streamChunk tag [i]) s = .next u ∧
        exec (.streamChunk tag rest) { u with port := s.port } = .next v ∧ v.port.inHand = some x ∧ n < 8 ∧
        x.response.data = v.store.stream.bytes ++ be2 n ∧
        exec (.streamChunk tag (i :: rest)) s = .next (v.withRequest (.streamChunk tag (i :: rest)) tag x.response.status
          (v.store.stream.bytes ++ be2 (n + 1)))) ∧
  ∀ (s : State) (tag : Byte) (images : List StageImage), Accepts s →
    (s.store.stream.state ≠ .opened →
      exec (.streamChunk tag images) s = .next (s.withRequest (.streamChunk tag images) tag .streamState
        (s.store.stream.bytes ++ be2 0))) ∧
    (s.store.stream.state = .opened → images = [] ∨ 8 < images.length →
      exec (.streamChunk tag images) s = .next (s.withRequest (.streamChunk tag images) tag .invalidField
        (s.store.stream.bytes ++ be2 0)))

/-- When the last image of an activating Stream arrives, all records of the run become Active in one event, with their codes
added to the digest and the Planner triggered, or none does and the Stream is Halted with reason ActivateRefused. They become
Active where every handle of the run, with the last image staged, passes the checks 2 to 5 of R12 against the Active records
and the handles of the set below it, and else the lowest handle that fails is the one named, with the status of its check;
Complete and Halted raise Stream Finished. While a sweep runs the new Active handles join the late set. The new digest is
compared on the lanes that are Up, and nothing else of a lane changes (R12, R19, R23, R66, R93, R112, R165). -/
def Obligations.StreamActivatesAllOrNone : Prop :=
  (∀ (s : State) (tag : Byte) (images : List StageImage) (t : State), Accepts s → TablesCanonical s → StreamSound s →
    s.store.stream.state = .opened → s.store.stream.activate = true → exec (.streamChunk tag images) s = .next t →
    t.store.stream.remaining = 0 →
    let run := List.range' s.store.stream.first s.store.stream.count
    LanesButDigest false s t ∧
    ((t.store.stream.state = .complete ∧ (∀ h ∈ run, (t.record h).lifecycle = .active) ∧
      t.store.digest = s.store.digest + (run.map fun h => (t.record h).code).sum ∧
      (s.node.state ≠ .configuring → s.planner.phase = .idle → t.planner.phase = .gathering) ∧
      (s.node.state ≠ .configuring → s.planner.phase ≠ .idle → t.planner.replan = true)) ∨
    (t.store.stream.state = .halted ∧ t.store.digest = s.store.digest ∧ t.planner = s.planner ∧
      (∀ h, (t.record h).lifecycle = .active → (s.record h).lifecycle = .active) ∧
      ∃ h st, t.store.stream.halt = some { handle := h, reason := .activateRefused, status := some st } ∧ h ∈ run))) ∧
  ∀ (s : State) (tag : Byte) (i : StageImage) (p : Planning) (h : Nat), Accepts s → TablesCanonical s → LabelsSound s →
    StreamSound s → s.store.stream.state = .opened → s.store.stream.activate = true → s.store.stream.remaining = 1 →
    s.store.stream.first + s.store.stream.count = h + 1 → imagePlanning i = some p →
    ((s.record h).lifecycle = .free ∨ (s.record h).lifecycle = .staged) →
    (∀ k, k ≠ h → s.inUse k → (s.record k).plan.circuit ≠ p.circuit) →
    let run := fun k => s.store.stream.first ≤ k ∧ k ≤ h
    let staged : Nat → Record := fun k =>
      if k = h then
        { s.record h with lifecycle := .staged, plan := p, port := imagePort i, code := recordCode h p }
      else s.record k
    let fails := SetFails s.node.ringSize s.node.own staged run
    let indexed := fun t : State =>
      (∀ b, h ∈ t.bucket b ↔ b = bucketOf p.circuit) ∧ ∀ b k, k ≠ h → (k ∈ t.bucket b ↔ k ∈ s.bucket b)
    ((∀ k st, run k → ¬ fails k st) →
      ∃ (t : State) (late : List Nat), exec (.streamChunk tag [i]) s = .next t ∧
        (∀ k, run k → t.record k = { staged k with lifecycle := .active }) ∧
        (∀ k, ¬ run k → t.record k = s.record k) ∧ indexed t ∧
        t.store = { s.store with
          records := t.store.records, labelIndex := t.store.labelIndex,
          digest := s.store.digest +
            ((List.range' s.store.stream.first s.store.stream.count).map fun k => (staged k).code).sum,
          stream := { s.store.stream with state := .complete, remaining := 0 } } ∧
        (s.planner.phase = .idle → late = s.planner.late) ∧
        (s.planner.phase ≠ .idle → ∀ k, k ∈ late ↔ run k ∨ k ∈ s.planner.late) ∧
        HostTriggered { s.planner with late := late } s t ∧ LanesButDigest false s t ∧
        causeIn t.attn.pending .streamFinished = true ∧
        t.node = s.node ∧ t.monEast = s.monEast ∧ t.monWest = s.monWest ∧ t.map = s.map ∧ t.fabric = s.fabric ∧
        PortHolds (.streamChunk tag [i]) tag .ok (t.store.stream.bytes ++ be2 1) s t ∧ t.pending = s.pending) ∧
    ∀ k st, IsLowest (fun j => run j ∧ ∃ x, fails j x) k → fails k st →
      ∃ t, exec (.streamChunk tag [i]) s = .next t ∧ (∀ j, t.record j = staged j) ∧ indexed t ∧
        t.store.stream = { s.store.stream with
          state := .halted, remaining := 0,
          halt := some { handle := k, reason := .activateRefused, status := some st } } ∧
        t.attn = s.attn.raise .streamFinished ∧
        PortHolds (.streamChunk tag [i]) tag st (t.store.stream.bytes ++ be2 1) s t ∧
        t = { s with
          store := { s.store with
            records := t.store.records, labelIndex := t.store.labelIndex, stream := t.store.stream },
          attn := t.attn, port := t.port }

/-! ### Line Monitors -/

/-- A Line Fail that comes up with no defect present zeroes the integrator and holds off, or fails at once with a hold-off of
0; one that goes away as the last defect ends Holding in the return state, and Failed in Waiting, or in Clear with a WTR
of 0 (R39, R41, R44, R45, R46, R50, R53). That the held report is the machine's own, also under force or Halted, is the model's
reading (entry 8). A Line Fail beside another defect that stays changes the set of defects alone. -/
def Obligations.LineFailHoldsFailsAndRecovers : Prop :=
  ∀ (s : State) (d : Side), MonitorSound s d → OwnComposed s →
    (∀ ret : ReturnState, (s.mon d).lineFail = false → (s.mon d).defects = Defects.empty → (s.mon d).cond = ret.cond →
      ∃ t, exec (.lineFail d true) s = .next t ∧ LineFrame d s t ∧
        t.mon d = { s.mon d with
          lineFail := true, defects := { Defects.empty with lineFail := true }, integrator := 0,
          cond := if s.node.holdOff = 0 then .failed else .holding ret (s.mon d).output,
          wtrTimer := if s.node.holdOff = 0 then none else (s.mon d).wtrTimer,
          holdOffTimer := if s.node.holdOff = 0 then (s.mon d).holdOffTimer else some (s.node.holdOff * 1000) }) ∧
    ((s.mon d).lineFail = true → (s.mon d).defects = { Defects.empty with lineFail := true } →
      ((s.lane d).lock = .locked ∨ s.node.ringId = 0) →
      ∃ t, exec (.lineFail d false) s = .next t ∧ LineFrame d s t ∧ (t.mon d).defects = Defects.empty ∧
        (t.mon d).integrator = 0 ∧ (t.mon d).holdOffTimer = none ∧ (t.mon d).lineFail = false ∧
        (∀ ret held, (s.mon d).cond = .holding ret held →
          (t.mon d).cond = ret.cond ∧ (t.mon d).wtrTimer = (s.mon d).wtrTimer) ∧
        ((s.mon d).cond = .failed → s.node.wtr ≠ 0 →
          (t.mon d).cond = .waiting ∧ (t.mon d).wtrTimer = some (s.node.wtr * 1000000)) ∧
        ((s.mon d).cond = .failed → s.node.wtr = 0 → (t.mon d).cond = .clear)) ∧
    ((s.mon d).lineFail = true → (s.mon d).defects = { Defects.empty with lineFail := true } →
      (s.lane d).lock = .hunting → s.node.ringId ≠ 0 → (s.lane d).adjacency = .down →
      ∃ t, exec (.lineFail d false) s = .next t ∧ LineFrame d s t ∧ (t.mon d).cond = (s.mon d).cond ∧
        (t.mon d).defects = { Defects.empty with signallingLoss := true }) ∧
    ∀ b, (s.mon d).defects.misconnection = true ∨ (s.mon d).defects.neighbourSilent = true ∨
        (s.mon d).defects.signallingLoss = true ∧ b = true →
      ∃ t, exec (.lineFail d b) s = .next t ∧ LineFrame d s t ∧
        t.mon d = { s.mon d with
          lineFail := b,
          defects := { (s.mon d).defects with
            lineFail := b, signallingLoss := decide ((s.lane d).lock = .hunting ∧ b = false ∧ s.node.ringId ≠ 0) } }

/-- A block-count report with count E, while no defect is present, gives the integrator I + E − L, held within 0 and
16,777,215, with the L held at that moment; the result is then compared with D in Clear and with C in Degraded. While a
defect is present, or malformed, the report is ignored (R40, R48, R49, R50). -/
def Obligations.BlockCountIntegratesAndCompares : Prop :=
  ∀ (s : State) (d : Side), OwnComposed s → SpansWorkedOut s →
    exec (.blockCountReport d none) s = .next s ∧
    ∀ e : BitVec 16,
      ((s.mon d).defects.any = true → exec (.blockCountReport d (some e)) s = .next s) ∧
      ((s.mon d).defects.any = false →
        ∃ (t : State) (i : Nat), exec (.blockCountReport d (some e)) s = .next t ∧ LineFrame d s t ∧
          (i : Int) = max 0 (min 16777215 ((s.mon d).integrator + e.toNat - (s.mon d).leak : Int)) ∧
          t.mon d = { s.mon d with
            integrator := i,
            cond :=
              if (s.mon d).cond = .clear ∧ (s.mon d).declareLevel ≤ i then .degraded
              else if (s.mon d).cond = .degraded ∧ i ≤ (s.mon d).clearLevel then .clear
              else (s.mon d).cond })

/-- The hold-off timer takes Holding to Failed and stops the WTR timer; the WTR timer takes Waiting to Degraded or Clear by the
integrator, and turns the return state of Holding to Clear; the silence timer makes NeighbourSilent present. An expiry of a
timer that is stopped has no effect; that such a command can arrive is the model's choice (R42, R44, R45, R47, entry 3). That
the held report is the machine's own, also under force or Halted, is the model's reading (entry 8). A silence expiry beside
another defect changes the set of defects alone. -/
def Obligations.LineTimersExpire : Prop :=
  ∀ (s : State) (d : Side), OwnComposed s →
    ((s.mon d).holdOffTimer = none → exec (.holdOffTimerExpiry d) s = .next s) ∧
    ((s.mon d).wtrTimer = none → exec (.wtrTimerExpiry d) s = .next s) ∧
    ((s.mon d).silenceTimer = none → exec (.silenceTimerExpiry d) s = .next s) ∧
    (∀ ret held, (s.mon d).cond = .holding ret held → (s.mon d).holdOffTimer ≠ none →
      ∃ t, exec (.holdOffTimerExpiry d) s = .next t ∧ LineFrame d s t ∧
        t.mon d = { s.mon d with cond := .failed, holdOffTimer := none, wtrTimer := none }) ∧
    ((s.mon d).cond = .waiting → (s.mon d).wtrTimer ≠ none →
      ∃ t, exec (.wtrTimerExpiry d) s = .next t ∧ LineFrame d s t ∧
        t.mon d = { s.mon d with
          wtrTimer := none, cond := if (s.mon d).declareLevel ≤ (s.mon d).integrator then .degraded else .clear }) ∧
    (∀ held, (s.mon d).cond = .holding .waiting held → (s.mon d).wtrTimer ≠ none →
      ∃ t, exec (.wtrTimerExpiry d) s = .next t ∧ LineFrame d s t ∧
        t.mon d = { s.mon d with wtrTimer := none, cond := .holding .clear held }) ∧
    (∀ ret : ReturnState, (s.mon d).silenceTimer ≠ none → (s.mon d).defects = Defects.empty → (s.mon d).cond = ret.cond →
      ∃ t, exec (.silenceTimerExpiry d) s = .next t ∧ LineFrame d s t ∧
        t.mon d = { s.mon d with
          silenceTimer := none, defects := { Defects.empty with neighbourSilent := true }, integrator := 0,
          cond := if s.node.holdOff = 0 then .failed else .holding ret (s.mon d).output,
          wtrTimer := if s.node.holdOff = 0 then none else (s.mon d).wtrTimer,
          holdOffTimer := if s.node.holdOff = 0 then (s.mon d).holdOffTimer else some (s.node.holdOff * 1000) }) ∧
    ((s.mon d).silenceTimer ≠ none → (s.mon d).defects.any = true →
      ∃ t, exec (.silenceTimerExpiry d) s = .next t ∧ LineFrame d s t ∧
        t.mon d = { s.mon d with
          silenceTimer := none, defects := { (s.mon d).defects with neighbourSilent := true } })

/-- Force Span and Release Span write the force flag of the side and compose its report again; the response carries the report
as composed (R52, R53, R166). -/
def Obligations.ForceWritesFlagAndReport : Prop :=
  ∀ (s : State) (tag : Byte) (d : Side), Accepts s → OwnComposed s →
    (∃ t, LineFrame d s t ∧ t.mon d = { s.mon d with force := true } ∧
      exec (.forceSpan tag (sideCode d)) s = .next (t.withRequest (.forceSpan tag (sideCode d)) tag .ok
        (contentBytes (t.map.own d).content))) ∧
    ∃ t, LineFrame d s t ∧ t.mon d = { s.mon d with force := false } ∧
      exec (.releaseSpan tag (sideCode d)) s = .next (t.withRequest (.releaseSpan tag (sideCode d)) tag .ok
        (contentBytes (t.map.own d).content))

/-! ### Lanes -/

/-- In Hunting each good frame adds 1 to the run and each bad frame sets it to 0; at 8 the lane is Locked, with the bad-frame
run at 0 and the window at 4 ms, and the frame that completes the run is not acted on. In Locked every good frame restarts the
window and clears the bad-frame run; the fourth bad frame in a row, or the window's end, returns the lane to Hunting (R58).
Outside the lane and its Line Monitor nothing changes but the own report of that side, its marks, and what a change of a span
sets off. -/
def Obligations.LockFollowsFrameRuns : Prop :=
  ∀ (s : State) (d : Side), OwnComposed s → SpansWorkedOut s →
    let l := s.lane d
    let follows := fun (m : Lane) (t : State) =>
      LineFrame d (s.setLane d m) t ∧ MonitorWorked d s t ∧ SpanEffects s.attn s.planner s t
    (∀ i, i = .fill d ∨ i = .discardedGoodFrame d →
      ∃ t, exec i s = .next t ∧
        (l.lock = .hunting → l.goodRun + 1 < 8 → follows { l with goodRun := l.goodRun + 1 } t) ∧
        (l.lock = .hunting → 8 ≤ l.goodRun + 1 →
          follows { l with goodRun := (t.lane d).goodRun, lock := .locked, badRun := 0, lockWindow := some 4000 } t) ∧
        (l.lock = .locked → follows { l with badRun := 0, lockWindow := some 4000 } t)) ∧
    (∃ t, exec (.laneBadFrame d) s = .next t ∧
      (l.lock = .hunting → follows { l with goodRun := 0 } t) ∧
      (l.lock = .locked → l.badRun + 1 < 4 → follows { l with badRun := l.badRun + 1 } t) ∧
      (l.lock = .locked → 4 ≤ l.badRun + 1 → follows (l.lostLock (t.lane d).badRun) t)) ∧
    (l.lockWindow ≠ none →
      ∃ t, exec (.lockWindowTimerExpiry d) s = .next t ∧ follows (l.lostLock (t.lane d).badRun) t) ∧
    ∀ i, (∃ g, i = .greeting d g) ∨ (∃ r, i = .spanReport d r) ∨ (∃ p, i = .pathConfirm d p) →
      (l.lock = .hunting ∨ s.node.ringId = 0 → exec i s = exec (.fill d) s) ∧
      (l.lock = .locked →
        ∃ t, exec i s = .next t ∧ (t.lane d).lock = .locked ∧ (t.lane d).badRun = 0 ∧
          (t.lane d).lockWindow = some 4000)

/-- A Greeting that is acted on restarts the adjacency timer and is stored; a correct one moves the adjacency as the table
of 4.4 says, and completes the exchange with its map-sent flag while Up; an incorrect one moves it to Mismatched, and raises
Misconnection on entry, not again in Mismatched. The adjacency timer takes it to Down. On entry to Up, and on each correct
Greeting that finds the lane Up and leaves it Up, the digest is compared with the neighbour's, and Table Disagreement is
raised where the result goes from Same to Differs; leaving Up empties the pending report set and the queue and clears map
sent, exchange complete and the comparison. In Joining, a Greeting after which both lanes are Up with their exchanges
complete enters Syncing, where a sweep starts (R32, R33, R57, R61 to R67). That a Greeting which takes the lane out of Up is
not compared is the model's choice (entry 29). -/
def Obligations.GreetingsMoveTheAdjacency : Prop :=
  (∀ (s : State) (d : Side) (g : Greeting), (s.lane d).sound → (s.lane d).lock = .locked → s.node.ringId ≠ 0 →
    greetingInRange g = true →
    ∃ t, exec (.greeting d g) s = .next t ∧ (t.lane d).adjTimer = some 50000 ∧ (t.lane d).neighbour = some g ∧
      (t.lane d).lock = .locked ∧ (t.lane d).badRun = 0 ∧ (t.lane d).lockWindow = some 4000 ∧
      (s.correct d g = true →
        (t.lane d).adjacency =
          (if g.heard = true ∧ ((s.lane d).adjacency = .heard ∨ (s.lane d).adjacency = .up) then .up else .heard) ∧
        (t.lane d).exchanged =
          decide ((s.lane d).adjacency = .up ∧ g.heard = true ∧ ((s.lane d).exchanged = true ∨ g.mapSent = true)) ∧
        ((s.lane d).adjacency = .heard → g.heard = true →
          ∀ k, k < 2 * s.node.ringSize → k ∈ (t.lane d).pendingKeys) ∧
        (let stays := g.heard = true ∧ (s.lane d).adjacency = .up
         let up := g.heard = true ∧ ((s.lane d).adjacency = .heard ∨ (s.lane d).adjacency = .up)
         (¬ stays → (t.lane d).mapSent = false) ∧ (stays → (t.lane d).mapSent = (s.lane d).mapSent) ∧
         (stays → (t.lane d).queue = (s.lane d).queue) ∧ (¬ stays → (t.lane d).queue = []) ∧
         (¬ up → (t.lane d).pendingKeys = []) ∧
         (t.lane d).differs = decide (up ∧ g.digest ≠ s.store.digest) ∧
         causeIn t.attn.pending .tableDisagreement = (causeIn s.attn.pending .tableDisagreement ||
           decide (up ∧ g.digest ≠ s.store.digest ∧ (s.lane d).differs = false)))) ∧
      (s.correct d g = false →
        (t.lane d).adjacency = .mismatched ∧ (t.lane d).exchanged = false ∧ (t.lane d).queue = [] ∧
          (t.lane d).pendingKeys = [] ∧ (t.lane d).mapSent = false ∧ (t.lane d).differs = false ∧
          causeIn t.attn.pending .tableDisagreement = causeIn s.attn.pending .tableDisagreement) ∧
      causeIn t.attn.pending .misconnection = (causeIn s.attn.pending .misconnection ||
        decide (s.correct d g = false ∧ (s.lane d).adjacency ≠ .mismatched)) ∧
      t.lane d.other = { s.lane d.other with pendingKeys := (t.lane d.other).pendingKeys } ∧
      (let joins := s.node.state = .joining ∧ ∀ e, (t.lane e).adjacency = .up ∧ (t.lane e).exchanged = true
       (¬ joins → t.node = s.node) ∧
       (joins → t.node = { s.node with state := .syncing, joinTimer := none } ∧
         t.planner = { s.planner with
           phase := .gathering, gatherPos := 0, snapshot := t.takeSnapshot, buffer := [], excluded := [], late := [],
           nextGrants := [], replan := false, abandonCount := 0 })) ∧ t.store = s.store ∧ t.map.others = s.map.others ∧
      t.map.delays = s.map.delays ∧ t.fabric = { s.fabric with cadence := t.fabric.cadence } ∧ t.port = s.port ∧
      t.pending = s.pending) ∧
  ∀ (s : State) (d : Side), (s.lane d).sound → (s.lane d).adjTimer ≠ none →
    ∃ t, exec (.adjacencyTimerExpiry d) s = .next t ∧
      t.lane d = { s.lane d with
        adjacency := .down, adjTimer := none, pendingKeys := [], queue := [], mapSent := false, exchanged := false,
        differs := false } ∧
      t.lane d.other = { s.lane d.other with pendingKeys := (t.lane d.other).pendingKeys } ∧
      t.node = s.node ∧ t.store = s.store ∧ t.map.others = s.map.others ∧ t.port = s.port ∧ t.pending = s.pending

/-- A Span Report on a lane that is Heard or Up, for a key that is not an own key, is stored and marked on the other lane alone
when the key is unknown or the report is newer, and discarded otherwise; for an own key, one that is newer, or equal with
other content, makes the own epoch one more than it and marks the key on both lanes; on a lane that is Down or Mismatched, or
for a span at or above N, it counts towards lock only (R57, R68, R71, R72, R73). -/
def Obligations.SpanReportsFloodByEpoch : Prop :=
  ∀ (s : State) (d : Side) (r : SpanReport), MonitorSound s d → OwnComposed s → SpansWorkedOut s →
    (s.lane d).lock = .locked → s.node.ringId ≠ 0 → spanReportInRange r = true →
    let key := 2 * r.span + (match r.spanEnd with | .lower => 0 | .upper => 1)
    let base := s.setLane d (s.lane d).keptLock
    let ownEast := ownKey s.node.ringSize s.node.own .east
    let ownWest := ownKey s.node.ringSize s.node.own .west
    let heard := (s.lane d).adjacency = .heard ∨ (s.lane d).adjacency = .up
    (¬ heard ∨ s.node.ringSize ≤ r.span → exec (.spanReport d r) s = .next base) ∧
    (heard → r.span < s.node.ringSize → key ≠ ownEast → key ≠ ownWest →
      let fresh := ∀ e, s.report key = some e →
        1 ≤ (r.epoch - e.epoch).toNat ∧ (r.epoch - e.epoch).toNat ≤ 32767
      (¬ fresh → exec (.spanReport d r) s = .next base) ∧
      (fresh →
        ∃ t, exec (.spanReport d r) s = .next t ∧
          t.report key = some { content := { state := r.state, cause := r.cause }, epoch := r.epoch } ∧
          (∀ k, k ≠ key → t.report k = s.report k) ∧ SpansWorkedOut t ∧ t.lane d = base.lane d ∧
          t.lane d.other = { s.lane d.other with
            pendingKeys := if (s.lane d.other).adjacency = .up then setInsert (s.lane d.other).pendingKeys key
              else (s.lane d.other).pendingKeys } ∧
          t.node = s.node ∧ t.store = s.store ∧ t.monEast = s.monEast ∧ t.monWest = s.monWest ∧
          t.fabric = { s.fabric with cadence := t.fabric.cadence } ∧ t.port = s.port ∧ t.pending = s.pending)) ∧
    (heard → r.span < s.node.ringSize → ∀ o, key = ownKey s.node.ringSize s.node.own o →
      let own := s.map.own o
      let adopts := (1 ≤ (r.epoch - own.epoch).toNat ∧ (r.epoch - own.epoch).toNat ≤ 32767) ∨
        (r.epoch = own.epoch ∧ (r.state ≠ own.content.state ∨ r.cause ≠ own.content.cause))
      (¬ adopts → exec (.spanReport d r) s = .next base) ∧
      (adopts →
        ∃ t, exec (.spanReport d r) s = .next t ∧ t.map = s.map.setOwn o { own with epoch := r.epoch + 1 } ∧
          (∀ e, t.lane e = { base.lane e with
            pendingKeys := if (s.lane e).adjacency = .up then setInsert (s.lane e).pendingKeys key
              else (s.lane e).pendingKeys }) ∧
          t = { s with laneEast := t.laneEast, laneWest := t.laneWest, map := t.map }))

/-- What a change in the Span Map sets off, as one event: Span Map Change on any change of an effective state; outside
Configuring a span trigger on a change of a planning condition, which starts a sweep when the Planner is Idle, abandons the
running sweep while fewer than four were abandoned in a row, and otherwise sets re-plan pending; and a cadence scale of 1
when a span becomes Unusable (R84 to R87, R94, R113, R114). Said of a Span Report that is stored, at an unknown key or as the
newer, of every event at a Line Monitor or its lane that can change an own report, of a Greeting, of Force Span and Release
Span, and of an answer of the fabric, with which the node may enter Running. -/
def Obligations.SpanChangesTriggerPlanner : Prop :=
  (∀ (s : State) (d : Side) (r : SpanReport), MonitorSound s d → OwnComposed s → SpansWorkedOut s →
    (s.lane d).lock = .locked → s.node.ringId ≠ 0 → spanReportInRange r = true →
    ((s.lane d).adjacency = .heard ∨ (s.lane d).adjacency = .up) → r.span < s.node.ringSize →
    (∀ e, s.report (reportKey r) = some e → 1 ≤ (r.epoch - e.epoch).toNat ∧ (r.epoch - e.epoch).toNat ≤ 32767) →
    reportKey r ≠ ownKey s.node.ringSize s.node.own .east → reportKey r ≠ ownKey s.node.ringSize s.node.own .west →
    ∃ t, exec (.spanReport d r) s = .next t ∧ SpanEffects s.attn s.planner s t ∧
      ∀ k, k ≠ r.span → t.effectiveState k = s.effectiveState k) ∧
  (∀ (s : State) (d : Side) (i : Instr), OwnComposed s → SpansWorkedOut s →
    ((∃ b, i = .lineFail d b) ∨ (∃ e, i = .blockCountReport d e) ∨ i = .holdOffTimerExpiry d ∨ i = .wtrTimerExpiry d ∨
      i = .silenceTimerExpiry d ∨ i = .laneBadFrame d ∨ i = .fill d ∨ i = .discardedGoodFrame d ∨
      i = .lockWindowTimerExpiry d ∨ i = .adjacencyTimerExpiry d) →
    ∃ t, exec i s = .next t ∧ SpanEffects s.attn s.planner s t) ∧
  (∀ (s : State) (d : Side) (g : Greeting), MonitorSound s d → OwnComposed s → SpansWorkedOut s →
    (s.lane d).lock = .locked → s.node.ringId ≠ 0 → greetingInRange g = true →
    ∃ u a, SpanEffects a s.planner s u ∧
      causeIn a.pending .spanMapChange = causeIn s.attn.pending .spanMapChange ∧
      exec (.greeting d g) s = .next (if s.node.state = .joining ∧ u.joinCondition = true then
        { u with
          node := { u.node with state := .syncing, joinTimer := none },
          planner := { u.planner with
            phase := .gathering, gatherPos := 0, snapshot := u.takeSnapshot, buffer := [], excluded := [], late := [],
            nextGrants := [], replan := false, abandonCount := 0 } }
      else u)) ∧
  (∀ (s : State) (tag : Byte) (d : Side), Accepts s → OwnComposed s → SpansWorkedOut s →
    ∃ t u, exec (.forceSpan tag (sideCode d)) s = .next t ∧ exec (.releaseSpan tag (sideCode d)) s = .next u ∧
      SpanEffects s.attn s.planner s t ∧ SpanEffects s.attn s.planner s u) ∧
  ∀ (s : State) (c : Command) (i : Instr), TablesCanonical s → OwnComposed s → SpansWorkedOut s →
    s.fabric.outstanding = some c → ((∃ b, i = .fabricDone c.tag b) ∨ i = .fabricRefused c.tag) →
    ∃ t a, exec i s = .next t ∧ SpanEffects a s.planner s t ∧
      causeIn a.pending .spanMapChange = causeIn s.attn.pending .spanMapChange

/-- A Path Confirm on a lane that is Up is dropped at its sender, handed to the Confirmation Unit at its target, and otherwise
given to the other lane with one hop less, or dropped where the hops run out, the lane is not Up, or its queue is full. One
that the unit takes sets heard-theirs and, if its heard flag is set and an attempt was made, they-heard-mine; Awaiting and
Unconfirmed go to Restored; a reply goes out when its heard flag is clear, but not from Pending; one that the unit does not
take has no effect (R57, R69, R75, R142 to R146). -/
def Obligations.PathConfirmsAreForwardedOrTaken : Prop :=
  ∀ (s : State) (d : Side) (p : PathConfirm), MonitorSound s d → OwnComposed s → SpansWorkedOut s →
    (s.lane d).lock = .locked → s.node.ringId ≠ 0 → confirmInRange p = true →
    let base := s.setLane d (s.lane d).keptLock
    let give : State → Side → PathConfirm → State := fun u e q =>
      if (u.lane e).adjacency = Adjacency.up ∧ (u.lane e).queue.length < 16 then
        u.setLane e { u.lane e with queue := (u.lane e).queue ++ [q] }
      else u
    ((s.lane d).adjacency ≠ .up ∨ p.sender = s.node.own → exec (.pathConfirm d p) s = .next base) ∧
    ((s.lane d).adjacency = .up → p.sender ≠ s.node.own → p.target ≠ s.node.own →
      exec (.pathConfirm d p) s =
        .next (if p.hops.toNat ≤ 1 then base else give base d.other { p with hops := p.hops - 1 })) ∧
    ((s.lane d).adjacency = .up → p.sender ≠ s.node.own → p.target = s.node.own →
      let x := (s.record p.handle).exchange
      let taken := fun r : Role => s.endRole p.handle = some r ∧ s.node.state ≠ .configuring ∧
        (s.record p.handle).outcome = .detour ∧ p.sender = (s.record p.handle).plan.otherEnd r ∧
        d = (s.record p.handle).plan.detourSide r ∧ p.check = recordCheck (s.record p.handle).code
      ((∀ r, ¬ taken r) → exec (.pathConfirm d p) s = .next base) ∧
      ∀ r, taken r →
        ∃ t, exec (.pathConfirm d p) s = .next t ∧
          t.record p.handle = { s.record p.handle with exchange := { x with
            heardTheirs := true,
            theyHeardMine := x.theyHeardMine || (p.heard && decide (1 ≤ x.attempts)),
            state := if x.state = .awaiting ∨ x.state = .unconfirmed then .restored else x.state } } ∧
          OtherRecords p.handle s t ∧
          (∀ k, k ∈ t.store.changed ↔
            (k = p.handle ∧ (x.state = .awaiting ∨ x.state = .unconfirmed)) ∨ k ∈ s.store.changed) ∧
          (∀ e, t.lane e =
            (if p.heard = false ∧ (x.state = .awaiting ∨ x.state = .restored ∨ x.state = .unconfirmed) then
              (give base d { handle := p.handle, check := p.check, sender := s.node.own, target := p.sender, heard := true,
                             hops := BitVec.ofNat 8 s.node.ringSize }).lane e
            else base.lane e)) ∧
          t = { s with
            store := { s.store with records := t.store.records, changed := t.store.changed },
            laneEast := t.laneEast, laneWest := t.laneWest, attn := t.attn })

/-- In each frame slot each lane sends one frame, chosen in the order: a due Greeting behind which 48 reports were sent, the
lowest known pending key, a due Greeting, the head of the Path Confirm queue, Fill; only Fill while the ring ID is 0. Nothing
but the lanes changes. A Greeting timer's expiry makes a Greeting due and starts the timer again (R28, R56, R60, R67, R68,
R69, R70). -/
def Obligations.SlotsSendInOrder : Prop :=
  (∀ s : State, ∃ t, exec .frameSlot s = .next t ∧
    t = { s with laneEast := t.laneEast, laneWest := t.laneWest } ∧
    ∀ d, let l : Lane := s.lane d
      let greeting := greetingFrame
        { ringId := s.node.ringId, sender := s.node.own, senderSide := d, ringSize := s.node.ringSize,
          digest := s.store.digest, nodeState := s.node.state,
          heard := decide (l.adjacency = .heard ∨ l.adjacency = .up), mapSent := l.mapSent }
      let overdue := l.greetDue = true ∧ 48 ≤ l.dueReports
      let unknown := ∀ k ∈ l.pendingKeys, s.report k = none
      let emptied : Lane := { l with
        pendingKeys := [],
        mapSent := l.mapSent || (decide (l.adjacency = Adjacency.up) && decide (l.pendingKeys ≠ [])) }
      (s.node.ringId = 0 → t.lane d = { l with tx := fillFrame }) ∧
      (s.node.ringId ≠ 0 → overdue → t.lane d = { l with greetDue := false, dueReports := 0, tx := greeting }) ∧
      (s.node.ringId ≠ 0 → ¬ overdue → ∀ pre k rest e, l.pendingKeys = pre ++ k :: rest →
        (∀ j ∈ pre, s.report j = none) → s.report k = some e →
        t.lane d = { l with
          pendingKeys := rest,
          mapSent := l.mapSent || (decide (l.adjacency = .up) && decide (rest = [])),
          dueReports := if l.greetDue then l.dueReports + 1 else l.dueReports,
          tx := spanReportFrame
            { span := k / 2, spanEnd := if k % 2 = 0 then .lower else .upper, state := e.content.state,
              cause := e.content.cause, epoch := e.epoch } }) ∧
      (s.node.ringId ≠ 0 → ¬ overdue → unknown → l.greetDue = true →
        t.lane d = { emptied with greetDue := false, dueReports := 0, tx := greeting }) ∧
      (s.node.ringId ≠ 0 → unknown → l.greetDue = false → ∀ p rest, l.queue = p :: rest →
        t.lane d = { emptied with queue := rest, tx := pathConfirmFrame p }) ∧
      (s.node.ringId ≠ 0 → unknown → l.greetDue = false → l.queue = [] →
        t.lane d = { emptied with tx := fillFrame })) ∧
  ∀ (s : State) (d : Side), (s.lane d).greetTimer ≠ none →
    exec (.greetingTimerExpiry d) s =
      .next (s.setLane d { s.lane d with greetDue := true, greetTimer := some 10000 })

/-! ### Planner -/

/-- Gathering looks at the handle at its position: an Active record that is not in the late set is copied with the verdict of
R98 to R102, a Retiring handle joins the excluded set, any other makes no entry; past handle 4095 the class passes begin.
Nothing but the Planner's sweep state changes (R96, R98 to R102). -/
def Obligations.GatheringEvaluatesEachRecord : Prop :=
  ∀ s : State, s.planner.phase = .gathering → s.planner.gatherPos < 4096 →
    let h := s.planner.gatherPos
    let r := s.record h
    let moved : Planner := { s.planner with
      gatherPos := h + 1, phase := if h = 4095 then .classPass 7 .a else .gathering }
    (r.lifecycle = .active → h ∉ s.planner.late →
      ∃ v, verdictOf s.planner.snapshot s.node.ringSize r.plan v ∧
        exec .gatherHandle s = .next { s with planner := { moved with
          buffer := s.planner.buffer ++ [{ handle := h, plan := r.plan, verdict := v }] } }) ∧
    (r.lifecycle = .retiring →
      exec .gatherHandle s = .next { s with planner := { moved with
        excluded := setInsert s.planner.excluded h } }) ∧
    (r.lifecycle = .free ∨ r.lifecycle = .staged ∨ (r.lifecycle = .active ∧ h ∈ s.planner.late) →
      exec .gatherHandle s = .next { s with planner := moved })

/-- The class passes are made from class 7 pass a down to class 0 pass b, one with no entries ending without effect, and the
Extra pass follows the last. The pass then reached treats the first entry marked for it: where every entry of its slot on its
detour arc is empty, its handle is written into all of them and it takes Detour; where one is held, nothing is written and it
takes Outbid, Suppressed with an Unusable working arc and Working otherwise (R102 to R105). That the passes without entries end
within the next command is the model's reading (entry 6). -/
def Obligations.GrantsAreAllOrNone : Prop :=
  (∀ (s : State) (cls at0 : Nat) (pass from0 : Pass) (pre post : List PlanEntry) (e : PlanEntry) (slot : Nat),
    s.planner.phase = .classPass at0 from0 → at0 ≤ 7 → passRank cls pass ≤ passRank at0 from0 →
    (∀ x ∈ s.planner.buffer, ∀ c p, x.verdict = .forClass c p → passRank c p ≤ passRank at0 from0 →
      passRank c p ≤ passRank cls pass) →
    s.planner.buffer = pre ++ e :: post → e.verdict = .forClass cls pass →
    (∀ x ∈ pre, x.verdict ≠ .forClass cls pass) → e.plan.protSlot = some slot → slot < 64 →
    let arc := e.plan.detourArc s.node.ringSize
    let lost := ∃ k ∈ e.plan.workingArc s.node.ringSize, snapCond s.planner.snapshot k = .unusable
    ((∀ k ∈ arc, grantAt s.planner.nextGrants k slot = none) →
      ∃ t, exec .classPassEntry s = .next t ∧
        t = { s with planner := { s.planner with
          phase := .classPass cls pass,
          buffer := pre ++ { e with verdict := .settled .detour .none } :: post, nextGrants := t.planner.nextGrants } } ∧
        ∀ k q, q < 64 → grantAt t.planner.nextGrants k q =
          if q = slot ∧ k ∈ arc then some e.handle else grantAt s.planner.nextGrants k q) ∧
    ((∃ k ∈ arc, grantAt s.planner.nextGrants k slot ≠ none) →
      ∃ o, (lost → o = .suppressed) ∧ (¬ lost → o = .working) ∧
        exec .classPassEntry s = .next { s with planner := { s.planner with
          phase := .classPass cls pass, buffer := pre ++ { e with verdict := .settled o .outbid } :: post } })) ∧
  ∀ (s : State) (at0 : Nat) (from0 : Pass), s.planner.phase = .classPass at0 from0 → at0 ≤ 7 →
    (∀ x ∈ s.planner.buffer, ∀ c p, x.verdict = .forClass c p → passRank at0 from0 < passRank c p) →
    exec .classPassEntry s = .next { s with planner := { s.planner with phase := .extraPass } }

/-- The Extra pass gives its first entry Preempted, ArcLost where a span of its arc is Unusable in the snapshot; Preempted,
Outranked where its slot is granted on a span of its arc; and Riding otherwise (R103, R106). That the Extra pass is reached
with this command where the phase still names a class pass with no entries left is the model's reading (entry 6). -/
def Obligations.ExtrasGiveWay : Prop :=
  ∀ (s : State) (pre post : List PlanEntry) (e : PlanEntry), PassesEnded s.planner →
    s.planner.buffer = pre ++ e :: post → e.verdict = .forExtra → (∀ x ∈ pre, x.verdict ≠ .forExtra) →
    let arc := e.plan.workingArc s.node.ringSize
    let lost := ∃ k ∈ arc, snapCond s.planner.snapshot k = .unusable
    let taken := ∃ k ∈ arc, grantAt s.planner.nextGrants k e.plan.workSlot ≠ none
    ∃ o w, exec .extraPassEntry s = .next { s with planner := { s.planner with
        phase := .extraPass, buffer := pre ++ { e with verdict := .settled o w } :: post } } ∧
      (lost → o = .preempted ∧ w = .arcLost) ∧ (¬ lost → taken → o = .preempted ∧ w = .outranked) ∧
      (¬ lost → ¬ taken → o = .riding ∧ w = .none)

/-- The commit, one event: the next grant table becomes the committed one and the commit number counts; each gathered record
takes its outcome and reason, an Active record without an entry is Unplanned, and the excluded records that are Retiring
become Free; every desired value is derived from the outcomes by the rows of R122, connection statuses follow by the table
of R132, and the abandon count is 0. At an end of a record that comes onto its detour the exchange starts, in Awaiting with
attempt 1 where the local connection is applied and in Pending otherwise; it is cleared where the record leaves its detour,
and stands otherwise. A sweep starts if re-plan pending was set, with a new snapshot and an empty next plan, and the Planner
is Idle otherwise, with the plan buffer, excluded set and next grant table kept (R94, R107 to R111, R122, R123, R132, R139
to R141). An entry that is Applied or Failed becomes Dirty where its desired value changes, and in the resync commit in any
case; an InFlight entry stays InFlight; the driver, with no command outstanding, then sends the next Dirty entry (R33, R124
to R126). The first attempts join the queues (R141, R142), and a digest that the freed records change is compared on the
lanes that are Up (R66). That the attempts of one commit join in ascending handle order is the model's reading (entry 24).
That a sweep commits where the phase still names a class pass with no entries left is the model's reading too (entry 6). In
Syncing the statement leaves out a state in which the node is due to be Running (R33). -/
def Obligations.CommitPutsThePlanIntoEffect : Prop :=
  ∀ s : State, TablesCanonical s → FabricSound s → s.node.state ≠ .configuring →
    (s.node.state = .syncing → s.fabric.resyncDone = false ∨ s.fabric.outstanding ≠ none ∨ s.dirtySet ≠ []) →
    PassesEnded s.planner → (∀ e ∈ s.planner.buffer, e.verdict ≠ .forExtra) →
    (∀ h ∈ s.planner.excluded, ∀ e ∈ s.planner.buffer, e.handle ≠ h) →
    s.planner.buffer.Pairwise (fun a b => a.handle ≠ b.handle) →
    let resync : Bool := decide (s.node.state = .syncing) && !s.fabric.resyncDone
    ∃ t, exec .sweepCommit s = .next t ∧ t.planner.committed = s.planner.nextGrants ∧
      t.planner.commitNumber = s.planner.commitNumber + 1 ∧ t.planner.abandonCount = 0 ∧ t.planner.replan = false ∧
      t.planner.phase = (if s.planner.replan then .gathering else .idle) ∧
      (s.planner.replan = false → t.planner.buffer = s.planner.buffer ∧ t.planner.excluded = s.planner.excluded ∧
        t.planner.nextGrants = s.planner.nextGrants) ∧
      (s.planner.replan = true → t.planner.gatherPos = 0 ∧ t.planner.snapshot = t.takeSnapshot ∧ t.planner.buffer = [] ∧
        t.planner.excluded = [] ∧ t.planner.late = [] ∧ t.planner.nextGrants = []) ∧
      (∀ e ∈ s.planner.buffer, ∀ o w, e.verdict = .settled o w →
        ((s.record e.handle).lifecycle = .active ∨ (s.record e.handle).lifecycle = .retiring) →
        (t.record e.handle).outcome = o ∧ (t.record e.handle).reason = w ∧
          ((s.record e.handle).outcome ≠ o ∨ (s.record e.handle).reason ≠ w → e.handle ∈ t.store.changed)) ∧
      (∀ h, (s.record h).lifecycle = .active → (∀ e ∈ s.planner.buffer, e.handle ≠ h) →
        (t.record h).outcome = .unplanned ∧ (t.record h).reason = .none) ∧
      (∀ h ∈ s.planner.excluded, (s.record h).lifecycle = .retiring →
        t.record h = Record.free ∧ h ∉ t.store.changed) ∧
      (∀ h, ¬ (h ∈ s.planner.excluded ∧ (s.record h).lifecycle = .retiring) →
        (t.record h).lifecycle = (s.record h).lifecycle ∧ (t.record h).plan = (s.record h).plan ∧
          (t.record h).port = (s.record h).port ∧ (t.record h).code = (s.record h).code) ∧
      (∀ i, i < 512 → (t.entry i).desired = resolveEntry t.allWrites i ∧ DesiredFollows t i (t.entry i).desired ∧
        (t.entry i).last = (s.entry i).last) ∧
      (let marked : Nat → Entry := fun i =>
        if i < 512 then
          { desired := resolveEntry t.allWrites i, last := (s.entry i).last,
            status := if (s.entry i).status = .inFlight then .inFlight
              else if (s.entry i).status = .dirty ∨ resync = true ∨ resolveEntry t.allWrites i ≠ (s.entry i).desired then .dirty
              else (s.entry i).status }
        else Entry.untouched
       (s.fabric.outstanding = none → SendsNext s.node.state s.fabric marked t) ∧
       (s.fabric.outstanding ≠ none → (∀ i, t.entry i = marked i) ∧
         t.fabric.outstanding = s.fabric.outstanding ∧ t.fabric.tagCounter = s.fabric.tagCounter ∧
         t.fabric.responseTimer = s.fabric.responseTimer ∧ t.fabric.tx = s.fabric.tx)) ∧
      t.fabric.resyncDone = (s.fabric.resyncDone || resync) ∧ t.fabric.pointer = s.fabric.pointer ∧
      t.fabric.cadence = s.fabric.cadence ∧ t.fabric.reassertTimer = s.fabric.reassertTimer ∧
      t.fabric.reassertPending = s.fabric.reassertPending ∧
      (∀ h r, ¬ (h ∈ s.planner.excluded ∧ (s.record h).lifecycle = .retiring) → s.endRole h = some r →
        (s.record h).plan.detourEntry r < 512 →
        let i := (s.record h).plan.detourEntry r
        let applied := (∃ q, (s.record h).port = some q ∧ (s.entry i).last = some (.localPort q)) ∧ resync = false ∧
          (s.entry i).status = .applied ∧ (t.entry i).desired = (s.entry i).desired
        ((s.record h).outcome ≠ .detour → (t.record h).outcome = .detour →
          (applied → (t.record h).exchange = { Exchange.idle with
            state := .awaiting, attempts := 1, sending := true, timer := some (s.node.confirmInterval * 1000) }) ∧
          (¬ applied → (t.record h).exchange = { Exchange.idle with state := .pending })) ∧
        ((s.record h).outcome = .detour → (t.record h).outcome ≠ .detour → (t.record h).exchange = Exchange.idle) ∧
        (((s.record h).outcome = .detour ↔ (t.record h).outcome = .detour) →
          (t.record h).exchange = (s.record h).exchange)) ∧
      (let enters : Nat → Role → Prop := fun h r =>
        ¬ (h ∈ s.planner.excluded ∧ (s.record h).lifecycle = .retiring) ∧ s.endRole h = some r ∧
          (s.record h).outcome ≠ .detour ∧ (t.record h).outcome = .detour ∧ s.LocalApplied h r ∧ resync = false ∧
          (t.entry ((s.record h).plan.detourEntry r)).desired = (s.entry ((s.record h).plan.detourEntry r)).desired
       QueueAttempts enters (fun _ => false) s t) ∧
      (∀ h, (t.record h).conn = t.connNow h) ∧ ConnFollows s t ∧ t.node = s.node ∧ t.map = s.map ∧ t.monEast = s.monEast ∧
      t.monWest = s.monWest ∧ LanesButDigest true s t ∧ t.port = s.port ∧ t.store.stream = s.store.stream ∧
      t.pending = s.pending

/-! ### Fabric -/

/-- A Done with the outstanding tag confirms the value sent: the entry is Applied where that is still the desired value,
every other entry that was confirmed at the same port becomes Unknown, prior-differed raises Fabric Drift, and a reassert
command advances the pointer; the driver then sends the next Dirty entry, or serves the reassert request (R125, R126). A
record in Pending whose local connection the answer applies enters Awaiting, or Restored where the other end was heard
already, and sends attempt 1 on its detour side (R140, R141, R146); no other exchange changes, and connection statuses
follow (R132). An answer with another tag, and a frame that is discarded, change nothing (R127, R128, R129, R134). That the
answer sets `answered`, by which an expiry of the timer it stopped is told, is the model's choice (entry 30), and that the
attempts of several records join a queue in ascending handle order is its reading (entry 24). -/
def Obligations.DoneConfirmsTheEntry : Prop :=
  (∀ s : State, exec .fabricLinkDiscard s = .next s) ∧
  (∀ (s : State) (tag : Byte) (b : Bool), (∀ c, s.fabric.outstanding = some c → c.tag ≠ tag) →
    exec (.fabricDone tag b) s = .next s ∧ exec (.fabricRefused tag) s = .next s) ∧
  ∀ (s : State) (c : Command) (b : Bool), TablesCanonical s → s.fabric.outstanding = some c →
    ∃ t, exec (.fabricDone c.tag b) s = .next t ∧
      (t.entry c.entry).last = some c.value ∧
      ((s.entry c.entry).desired = c.value → (t.entry c.entry).status = .applied) ∧
      ((s.entry c.entry).desired ≠ c.value →
        (t.entry c.entry).status = .dirty ∨ (t.entry c.entry).status = .inFlight) ∧
      (∀ i, (t.entry i).desired = (s.entry i).desired) ∧
      (∀ i, i ≠ c.entry → (t.entry i).last =
        if ∃ q, c.value = .localPort q ∧ (s.entry i).last = some (.localPort q) then none else (s.entry i).last) ∧
      t.fabric.pointer = (if c.reassert then (s.fabric.pointer + 1) % 512 else s.fabric.pointer) ∧
      SendsNext s.node.state
        { s.fabric with
          pointer := if c.reassert then (s.fabric.pointer + 1) % 512 else s.fabric.pointer,
          reassertPending := if c.reassert then false else s.fabric.reassertPending }
        (fun i =>
          if i = c.entry then
            { desired := (s.entry i).desired, last := some c.value,
              status := if (s.entry i).desired = c.value then .applied else .dirty }
          else if ∃ q, c.value = .localPort q ∧ (s.entry i).last = some (.localPort q) then
            { s.entry i with last := none }
          else s.entry i) t ∧
      (b = true → causeIn t.attn.pending .fabricDrift = true) ∧
      (∀ h, t.record h = { s.record h with conn := (t.record h).conn, exchange := (t.record h).exchange }) ∧
      EnterAwaiting (AppliesLocal c s) s t ∧
      (∀ h, (∀ r, ¬ AppliesLocal c s h r) → (t.record h).exchange = (s.record h).exchange) ∧
      QueueAttempts (AppliesLocal c s) (fun h => (s.record h).exchange.heardTheirs) s t ∧ ConnFollows s t ∧
      t.fabric.answered = true ∧
      (∀ d, t.lane d = { s.lane d with
        queue := (t.lane d).queue, pendingKeys := (t.lane d).pendingKeys }) ∧
      (s.node.state ≠ .syncing → t.node = s.node ∧ t.map = s.map ∧ t.planner = s.planner ∧
        ∀ d, (t.lane d).pendingKeys = (s.lane d).pendingKeys) ∧
      t.monEast = s.monEast ∧ t.monWest = s.monWest ∧ t.port = s.port ∧ t.pending = s.pending

/-- A Refused with the outstanding tag, and the second expiry of the response timer, make the entry Failed with its last
confirmed value Unknown and raise Fabric Fault, and the driver then sends the next Dirty entry, or serves the reassert
request (R125); the first expiry sends the command once more with a new tag (R126, R130, R131, R134). An expiry that falls
together with an answer taken first has no effect on the next command (R131); that it is told by no microsecond having
passed since is the model's choice (entry 30). -/
def Obligations.RefusedAndTimeoutsFailTheEntry : Prop :=
  (∀ (s : State) (c : Command), TablesCanonical s → s.fabric.outstanding = some c →
    ∃ t, exec (.fabricRefused c.tag) s = .next t ∧
      t.entry c.entry = { desired := (s.entry c.entry).desired, last := none, status := .failed } ∧
      (∀ i, i ≠ c.entry → (t.entry i).last = (s.entry i).last ∧ (t.entry i).desired = (s.entry i).desired) ∧
      t.fabric.pointer = (if c.reassert then (s.fabric.pointer + 1) % 512 else s.fabric.pointer) ∧
      SendsNext s.node.state
        { s.fabric with
          pointer := if c.reassert then (s.fabric.pointer + 1) % 512 else s.fabric.pointer,
          reassertPending := if c.reassert then false else s.fabric.reassertPending }
        (fun i => if i = c.entry then { desired := (s.entry i).desired, last := none, status := .failed }
          else s.entry i) t ∧
      causeIn t.attn.pending .fabricFault = true ∧
      (∀ h, t.record h = { s.record h with conn := (t.record h).conn }) ∧ ConnFollows s t ∧
      t.fabric.answered = true ∧
      (∀ d, t.lane d = { s.lane d with pendingKeys := (t.lane d).pendingKeys }) ∧
      (s.node.state ≠ .syncing → t.node = s.node ∧ t.map = s.map ∧ t.planner = s.planner ∧
        ∀ d, (t.lane d).pendingKeys = (s.lane d).pendingKeys) ∧
      t.monEast = s.monEast ∧ t.monWest = s.monWest ∧ t.port = s.port ∧ t.pending = s.pending) ∧
  (∀ s : State, s.fabric.answered = true →
    exec .responseTimerExpiry s = .next { s with fabric := { s.fabric with answered := false } }) ∧
  ∀ (s : State) (c : Command), s.fabric.outstanding = some c → s.fabric.responseTimer ≠ none → s.fabric.answered = false →
    (c.attempt = 1 →
      let retry : Command := { c with attempt := 2, tag := s.fabric.tagCounter + 1 }
      exec .responseTimerExpiry s = .next { s with fabric := { s.fabric with
        outstanding := some retry, tagCounter := s.fabric.tagCounter + 1, responseTimer := some 2000,
        tx := connectFrame retry } }) ∧
    (c.attempt ≠ 1 →
      ∃ t, exec (.fabricRefused c.tag) s = .next t ∧
        exec .responseTimerExpiry s = .next { t with fabric := { t.fabric with answered := false } })

/-- After the resync commit, the answer that leaves no Dirty entry and no command outstanding takes the node from Syncing to
Running, be it a Done that confirms the desired value, with prior-differed set or clear, a Refused, or the second expiry of the
response timer: the Halted override is lifted, the own reports that change are marked on the lanes that are Up, and the
Reassertion Timer is loaded (R33, R34, R68, R74, R130, R131, R133). That an expiry is told from that of a timer which an answer
stopped by `answered` is the model's choice (entry 30). -/
def Obligations.LastAnswerEntersRunning : Prop :=
  ∀ (s : State) (c : Command), TablesCanonical s → s.node.state = .syncing → s.fabric.resyncDone = true →
    s.fabric.outstanding = some c → s.dirtySet = [] → (∀ d, (s.map.own d).content = Content.halted) →
    ∀ i, ((∃ b, i = .fabricDone c.tag b) ∧ (s.entry c.entry).desired = c.value) ∨ i = .fabricRefused c.tag ∨
      (i = .responseTimerExpiry ∧ s.fabric.responseTimer ≠ none ∧ s.fabric.answered = false ∧ c.attempt ≠ 1) →
    ∃ t, exec i s = .next t ∧ t.node = { s.node with state := .running } ∧
      t.fabric.outstanding = none ∧ t.dirtySet = [] ∧ t.fabric.reassertPending = false ∧
      t.fabric.reassertTimer = some (s.node.reassertInterval * s.fabric.cadence * 1000) ∧
      (∀ d, (t.map.own d).content =
        if (s.mon d).force then { state := .forcedOut, cause := .forced } else (s.mon d).output) ∧
      (∀ d, (t.map.own d).content ≠ Content.halted → (t.map.own d).epoch = (s.map.own d).epoch + 1) ∧
      MarksOwnKeys (fun d => (t.map.own d).content ≠ Content.halted) s t ∧
      SpansWorkedOut t ∧ t.map.others = s.map.others ∧ t.map.delays = s.map.delays ∧ t.port = s.port

/-- The Reassertion Timer's expiry makes the request pending and loads the timer again; the request is served at once, with the
entry at the pointer, when the node is Running with no command outstanding and no Dirty entry (R133, R134). -/
def Obligations.ReassertionSendsEntryAtPointer : Prop :=
  ∀ s : State, s.fabric.reassertTimer ≠ none →
    let loaded := some (s.node.reassertInterval * s.fabric.cadence * 1000)
    (s.fabric.outstanding ≠ none →
      exec .reassertionTimerExpiry s = .next { s with fabric := { s.fabric with
        reassertPending := true, reassertTimer := loaded } }) ∧
    (s.fabric.outstanding = none → s.dirtySet = [] → s.node.state = .running →
      let c : Command :=
        { entry := s.fabric.pointer, value := (s.entry s.fabric.pointer).desired,
          prior := (s.entry s.fabric.pointer).last, tag := s.fabric.tagCounter + 1, attempt := 1, reassert := true }
      exec .reassertionTimerExpiry s = .next { s with fabric := { s.fabric with
        reassertPending := true, reassertTimer := loaded, outstanding := some c,
        tagCounter := s.fabric.tagCounter + 1, responseTimer := some 2000, tx := connectFrame c } })

/-- A confirm timer's expiry stops the sending once the other end has said that it heard this one; else it sends a further
attempt, up to the eighth; after the eighth it stops, and a record that has heard nothing becomes Unconfirmed, which raises
Restoration Unconfirmed (R141, R142, R147, R148). -/
def Obligations.ConfirmTimerSendsUpToEight : Prop :=
  ∀ (s : State) (h : Nat) (r : Role), s.endRole h = some r → (s.record h).exchange.timer ≠ none →
    let x := (s.record h).exchange
    let e := (s.record h).plan.detourSide r
    let confirm : PathConfirm :=
      { handle := h, check := recordCheck (s.record h).code, sender := s.node.own,
        target := (s.record h).plan.otherEnd r, heard := x.heardTheirs, hops := BitVec.ofNat 8 s.node.ringSize }
    let stopped := s.setRec h { s.record h with exchange := { x with sending := false, timer := none } }
    (x.theyHeardMine = true → exec (.confirmTimerExpiry h) s = .next stopped) ∧
    (x.theyHeardMine = false → x.attempts < 8 →
      ∃ t, exec (.confirmTimerExpiry h) s = .next t ∧
        t.record h = { s.record h with exchange := { x with
          attempts := x.attempts + 1, timer := some (s.node.confirmInterval * 1000) } } ∧
        OtherRecords h s t ∧
        t.lane e = { s.lane e with
          queue := if (s.lane e).adjacency = .up ∧ (s.lane e).queue.length < 16 then (s.lane e).queue ++ [confirm]
            else (s.lane e).queue } ∧
        t.lane e.other = s.lane e.other ∧
        t = { s with
          store := { s.store with records := t.store.records }, laneEast := t.laneEast, laneWest := t.laneWest }) ∧
    (x.theyHeardMine = false → 8 ≤ x.attempts → x.heardTheirs = true →
      exec (.confirmTimerExpiry h) s = .next stopped) ∧
    (x.theyHeardMine = false → 8 ≤ x.attempts → x.heardTheirs = false → x.state = .awaiting →
      ∃ t, exec (.confirmTimerExpiry h) s = .next t ∧
        t.record h = { s.record h with exchange := { x with
          state := .unconfirmed, sending := false, timer := none } } ∧
        OtherRecords h s t ∧ h ∈ t.store.changed ∧ causeIn t.attn.pending .restorationUnconfirmed = true ∧
        t = { s with
          store := { s.store with records := t.store.records, changed := t.store.changed }, attn := t.attn })

/-! ### Attention -/

/-- Read Summary latches the pending and enabled cause of lowest number if the latch is empty, and leaves a full latch as it
is; the response carries the latch, the pending set, the mask and the pin. No other command fills the latch, and only
Acknowledge Cause of the latched cause and the resets empty it (R172). -/
def Obligations.SummaryLatchesTheTopCause : Prop :=
  (∀ (s : State) (tag : Byte), Accepts s →
    ∃ l, (s.attn.latch ≠ none → l = s.attn.latch) ∧
      (s.attn.latch = none →
        (∀ c, l = some c ↔ (causeIn s.attn.pending c = true ∧ causeIn s.attn.mask c = true ∧
          ∀ b, causeNumber b < causeNumber c → ¬ (causeIn s.attn.pending b = true ∧ causeIn s.attn.mask b = true)))) ∧
      exec (.readSummary tag) s = .next (State.withRequest { s with attn := { s.attn with latch := l } }
        (.readSummary tag) tag .ok
        ((match l with | none => [0xFF] | some c => be1 (causeNumber c)) ++ [s.attn.pending] ++ [s.attn.mask] ++
          flagByte s.attn.asserted))) ∧
  (∀ (s t : State) (c : Cause), step s = .next t → t.attn.latch = some c → s.attn.latch ≠ some c →
    ∃ tag, s.pending.head? = some (.readSummary tag)) ∧
  ∀ (s t : State) (c : Cause), step s = .next t → s.attn.latch = some c → t.attn.latch ≠ some c →
    (∃ tag, s.pending.head? = some (.acknowledgeCause tag (causeNumber c))) ∨ s.pending.head? = some .fullReset ∨
      (s.port.state = .answered ∧ s.port.softResetArmed = true)

/-- Acknowledge Cause clears the named cause if it is pending, empties the latch if that was the latched one, has no effect on a
cause that is not pending, and refuses a number outside 1 to 8; the pin follows. Set Attention Mask writes all eight enables,
leaves pending causes and the latch, and the pin follows (R170, R171, R173). -/
def Obligations.AcknowledgeAndMaskDriveThePin : Prop :=
  (∀ (s : State) (tag : Byte) (c : Cause), Accepts s →
    (causeIn s.attn.pending c = true →
      ∃ a : Attention, (∀ b, causeIn a.pending b = (causeIn s.attn.pending b && decide (b ≠ c))) ∧
        a.mask = s.attn.mask ∧ a.latch = (if s.attn.latch = some c then none else s.attn.latch) ∧
        (a.asserted = true ↔ ∃ b, causeIn a.pending b = true ∧ causeIn a.mask b = true) ∧
        exec (.acknowledgeCause tag (causeNumber c)) s = .next (State.withRequest { s with attn := a }
          (.acknowledgeCause tag (causeNumber c)) tag .ok ([a.pending] ++ latchBytes a.latch))) ∧
    (causeIn s.attn.pending c = false →
      exec (.acknowledgeCause tag (causeNumber c)) s = .next (s.withRequest (.acknowledgeCause tag (causeNumber c)) tag .ok
        ([s.attn.pending] ++ latchBytes s.attn.latch)))) ∧
  (∀ (s : State) (tag : Byte) (n : Nat), Accepts s → n = 0 ∨ 8 < n →
    exec (.acknowledgeCause tag n) s = .next (s.withRequest (.acknowledgeCause tag n) tag .invalidField [])) ∧
  ∀ (s : State) (tag enables : Byte), Accepts s →
    ∃ b : Bool, (b = true ↔ ∃ c, causeIn s.attn.pending c = true ∧ causeIn enables c = true) ∧
      exec (.setAttentionMask tag enables) s = .next (State.withRequest
        { s with attn := { s.attn with mask := enables, asserted := b } } (.setAttentionMask tag enables) tag .ok [enables])
end

