-- ==== Sys2Proof/Laws/State.lean ====
section
/-!
SUPPORT. Reading a field after an update: one lemma for each field that an update leaves alone, and the read-back of what it
writes, so that no later proof unfolds a record update.
-/

namespace Sys2Proof.Machine

/-! ### Sides -/

@[simp] theorem Side.other_other (d : Side) : d.other.other = d := by cases d <;> rfl

theorem Side.other_ne (d : Side) : d.other ≠ d := by cases d <;> decide

@[simp] theorem State.mon_setMon (s : State) (d : Side) (m : Monitor) : (s.setMon d m).mon d = m := by cases d <;> rfl

@[simp] theorem State.mon_setMon_other (s : State) (d : Side) (m : Monitor) : (s.setMon d m).mon d.other = s.mon d.other := by
  cases d <;> rfl

@[simp] theorem State.lane_setMon (s : State) (d e : Side) (m : Monitor) : (s.setMon d m).lane e = s.lane e := by
  cases d <;> cases e <;> rfl

@[simp] theorem State.lane_setLane (s : State) (d : Side) (l : Lane) : (s.setLane d l).lane d = l := by cases d <;> rfl

@[simp] theorem State.lane_setLane_other (s : State) (d : Side) (l : Lane) :
    (s.setLane d l).lane d.other = s.lane d.other := by cases d <;> rfl

@[simp] theorem State.mon_setLane (s : State) (d e : Side) (l : Lane) : (s.setLane d l).mon e = s.mon e := by
  cases d <;> cases e <;> rfl

@[simp] theorem State.setMon_mon (s : State) (d : Side) : s.setMon d (s.mon d) = s := by cases d <;> rfl

@[simp] theorem State.setLane_lane (s : State) (d : Side) : s.setLane d (s.lane d) = s := by cases d <;> rfl

@[simp] theorem SpanMap.own_setOwn (m : SpanMap) (d : Side) (r : EndReport) : (m.setOwn d r).own d = r := by
  cases d <;> rfl

@[simp] theorem SpanMap.own_setOwn_other (m : SpanMap) (d : Side) (r : EndReport) :
    (m.setOwn d r).own d.other = m.own d.other := by cases d <;> rfl

@[simp] theorem SpanMap.setOwn_others (m : SpanMap) (d : Side) (r : EndReport) : (m.setOwn d r).others = m.others := by
  cases d <;> rfl

@[simp] theorem SpanMap.setOwn_spans (m : SpanMap) (d : Side) (r : EndReport) : (m.setOwn d r).spans = m.spans := by
  cases d <;> rfl

@[simp] theorem SpanMap.setOwn_delays (m : SpanMap) (d : Side) (r : EndReport) : (m.setOwn d r).delays = m.delays := by
  cases d <;> rfl

/-! ### Fields that an update leaves alone -/

@[simp] theorem State.setMon_node (s : State) (d : Side) (m : Monitor) : (s.setMon d m).node = s.node := by cases d <;> rfl

@[simp] theorem State.setMon_store (s : State) (d : Side) (m : Monitor) : (s.setMon d m).store = s.store := by cases d <;> rfl

@[simp] theorem State.setMon_laneEast (s : State) (d : Side) (m : Monitor) : (s.setMon d m).laneEast = s.laneEast := by cases d <;> rfl

@[simp] theorem State.setMon_laneWest (s : State) (d : Side) (m : Monitor) : (s.setMon d m).laneWest = s.laneWest := by cases d <;> rfl

@[simp] theorem State.setMon_map (s : State) (d : Side) (m : Monitor) : (s.setMon d m).map = s.map := by cases d <;> rfl

@[simp] theorem State.setMon_planner (s : State) (d : Side) (m : Monitor) : (s.setMon d m).planner = s.planner := by cases d <;> rfl

@[simp] theorem State.setMon_fabric (s : State) (d : Side) (m : Monitor) : (s.setMon d m).fabric = s.fabric := by cases d <;> rfl

@[simp] theorem State.setMon_port (s : State) (d : Side) (m : Monitor) : (s.setMon d m).port = s.port := by cases d <;> rfl

@[simp] theorem State.setMon_attn (s : State) (d : Side) (m : Monitor) : (s.setMon d m).attn = s.attn := by cases d <;> rfl

@[simp] theorem State.setMon_pending (s : State) (d : Side) (m : Monitor) : (s.setMon d m).pending = s.pending := by cases d <;> rfl

@[simp] theorem State.setLane_node (s : State) (d : Side) (l : Lane) : (s.setLane d l).node = s.node := by cases d <;> rfl

@[simp] theorem State.setLane_store (s : State) (d : Side) (l : Lane) : (s.setLane d l).store = s.store := by cases d <;> rfl

@[simp] theorem State.setLane_monEast (s : State) (d : Side) (l : Lane) : (s.setLane d l).monEast = s.monEast := by cases d <;> rfl

@[simp] theorem State.setLane_monWest (s : State) (d : Side) (l : Lane) : (s.setLane d l).monWest = s.monWest := by cases d <;> rfl

@[simp] theorem State.setLane_map (s : State) (d : Side) (l : Lane) : (s.setLane d l).map = s.map := by cases d <;> rfl

@[simp] theorem State.setLane_planner (s : State) (d : Side) (l : Lane) : (s.setLane d l).planner = s.planner := by cases d <;> rfl

@[simp] theorem State.setLane_fabric (s : State) (d : Side) (l : Lane) : (s.setLane d l).fabric = s.fabric := by cases d <;> rfl

@[simp] theorem State.setLane_port (s : State) (d : Side) (l : Lane) : (s.setLane d l).port = s.port := by cases d <;> rfl

@[simp] theorem State.setLane_attn (s : State) (d : Side) (l : Lane) : (s.setLane d l).attn = s.attn := by cases d <;> rfl

@[simp] theorem State.setLane_pending (s : State) (d : Side) (l : Lane) : (s.setLane d l).pending = s.pending := by cases d <;> rfl

@[simp] theorem State.setRec_node (s : State) (h : Nat) (r : Record) : (s.setRec h r).node = s.node := rfl

@[simp] theorem State.setRec_monEast (s : State) (h : Nat) (r : Record) : (s.setRec h r).monEast = s.monEast := rfl

@[simp] theorem State.setRec_monWest (s : State) (h : Nat) (r : Record) : (s.setRec h r).monWest = s.monWest := rfl

@[simp] theorem State.setRec_laneEast (s : State) (h : Nat) (r : Record) : (s.setRec h r).laneEast = s.laneEast := rfl

@[simp] theorem State.setRec_laneWest (s : State) (h : Nat) (r : Record) : (s.setRec h r).laneWest = s.laneWest := rfl

@[simp] theorem State.setRec_map (s : State) (h : Nat) (r : Record) : (s.setRec h r).map = s.map := rfl

@[simp] theorem State.setRec_planner (s : State) (h : Nat) (r : Record) : (s.setRec h r).planner = s.planner := rfl

@[simp] theorem State.setRec_fabric (s : State) (h : Nat) (r : Record) : (s.setRec h r).fabric = s.fabric := rfl

@[simp] theorem State.setRec_port (s : State) (h : Nat) (r : Record) : (s.setRec h r).port = s.port := rfl

@[simp] theorem State.setRec_attn (s : State) (h : Nat) (r : Record) : (s.setRec h r).attn = s.attn := rfl

@[simp] theorem State.setRec_pending (s : State) (h : Nat) (r : Record) : (s.setRec h r).pending = s.pending := rfl

@[simp] theorem State.setBucket_node (s : State) (b : Nat) (l : List Nat) : (s.setBucket b l).node = s.node := rfl

@[simp] theorem State.setBucket_monEast (s : State) (b : Nat) (l : List Nat) : (s.setBucket b l).monEast = s.monEast := rfl

@[simp] theorem State.setBucket_monWest (s : State) (b : Nat) (l : List Nat) : (s.setBucket b l).monWest = s.monWest := rfl

@[simp] theorem State.setBucket_laneEast (s : State) (b : Nat) (l : List Nat) : (s.setBucket b l).laneEast = s.laneEast := rfl

@[simp] theorem State.setBucket_laneWest (s : State) (b : Nat) (l : List Nat) : (s.setBucket b l).laneWest = s.laneWest := rfl

@[simp] theorem State.setBucket_map (s : State) (b : Nat) (l : List Nat) : (s.setBucket b l).map = s.map := rfl

@[simp] theorem State.setBucket_planner (s : State) (b : Nat) (l : List Nat) : (s.setBucket b l).planner = s.planner := rfl

@[simp] theorem State.setBucket_fabric (s : State) (b : Nat) (l : List Nat) : (s.setBucket b l).fabric = s.fabric := rfl

@[simp] theorem State.setBucket_port (s : State) (b : Nat) (l : List Nat) : (s.setBucket b l).port = s.port := rfl

@[simp] theorem State.setBucket_attn (s : State) (b : Nat) (l : List Nat) : (s.setBucket b l).attn = s.attn := rfl

@[simp] theorem State.setBucket_pending (s : State) (b : Nat) (l : List Nat) : (s.setBucket b l).pending = s.pending := rfl

@[simp] theorem State.setStream_node (s : State) (x : Stream) : (s.setStream x).node = s.node := rfl

@[simp] theorem State.setStream_monEast (s : State) (x : Stream) : (s.setStream x).monEast = s.monEast := rfl

@[simp] theorem State.setStream_monWest (s : State) (x : Stream) : (s.setStream x).monWest = s.monWest := rfl

@[simp] theorem State.setStream_laneEast (s : State) (x : Stream) : (s.setStream x).laneEast = s.laneEast := rfl

@[simp] theorem State.setStream_laneWest (s : State) (x : Stream) : (s.setStream x).laneWest = s.laneWest := rfl

@[simp] theorem State.setStream_map (s : State) (x : Stream) : (s.setStream x).map = s.map := rfl

@[simp] theorem State.setStream_planner (s : State) (x : Stream) : (s.setStream x).planner = s.planner := rfl

@[simp] theorem State.setStream_fabric (s : State) (x : Stream) : (s.setStream x).fabric = s.fabric := rfl

@[simp] theorem State.setStream_port (s : State) (x : Stream) : (s.setStream x).port = s.port := rfl

@[simp] theorem State.setStream_attn (s : State) (x : Stream) : (s.setStream x).attn = s.attn := rfl

@[simp] theorem State.setStream_pending (s : State) (x : Stream) : (s.setStream x).pending = s.pending := rfl

@[simp] theorem State.setEntry_node (s : State) (i : Nat) (e : Entry) : (s.setEntry i e).node = s.node := rfl

@[simp] theorem State.setEntry_store (s : State) (i : Nat) (e : Entry) : (s.setEntry i e).store = s.store := rfl

@[simp] theorem State.setEntry_monEast (s : State) (i : Nat) (e : Entry) : (s.setEntry i e).monEast = s.monEast := rfl

@[simp] theorem State.setEntry_monWest (s : State) (i : Nat) (e : Entry) : (s.setEntry i e).monWest = s.monWest := rfl

@[simp] theorem State.setEntry_laneEast (s : State) (i : Nat) (e : Entry) : (s.setEntry i e).laneEast = s.laneEast := rfl

@[simp] theorem State.setEntry_laneWest (s : State) (i : Nat) (e : Entry) : (s.setEntry i e).laneWest = s.laneWest := rfl

@[simp] theorem State.setEntry_map (s : State) (i : Nat) (e : Entry) : (s.setEntry i e).map = s.map := rfl

@[simp] theorem State.setEntry_planner (s : State) (i : Nat) (e : Entry) : (s.setEntry i e).planner = s.planner := rfl

@[simp] theorem State.setEntry_port (s : State) (i : Nat) (e : Entry) : (s.setEntry i e).port = s.port := rfl

@[simp] theorem State.setEntry_attn (s : State) (i : Nat) (e : Entry) : (s.setEntry i e).attn = s.attn := rfl

@[simp] theorem State.setEntry_pending (s : State) (i : Nat) (e : Entry) : (s.setEntry i e).pending = s.pending := rfl

@[simp] theorem State.setAnswered_node (s : State) (b : Bool) : (s.setAnswered b).node = s.node := rfl

@[simp] theorem State.setAnswered_store (s : State) (b : Bool) : (s.setAnswered b).store = s.store := rfl

@[simp] theorem State.setAnswered_monEast (s : State) (b : Bool) : (s.setAnswered b).monEast = s.monEast := rfl

@[simp] theorem State.setAnswered_monWest (s : State) (b : Bool) : (s.setAnswered b).monWest = s.monWest := rfl

@[simp] theorem State.setAnswered_laneEast (s : State) (b : Bool) : (s.setAnswered b).laneEast = s.laneEast := rfl

@[simp] theorem State.setAnswered_laneWest (s : State) (b : Bool) : (s.setAnswered b).laneWest = s.laneWest := rfl

@[simp] theorem State.setAnswered_map (s : State) (b : Bool) : (s.setAnswered b).map = s.map := rfl

@[simp] theorem State.setAnswered_planner (s : State) (b : Bool) : (s.setAnswered b).planner = s.planner := rfl

@[simp] theorem State.setAnswered_port (s : State) (b : Bool) : (s.setAnswered b).port = s.port := rfl

@[simp] theorem State.setAnswered_attn (s : State) (b : Bool) : (s.setAnswered b).attn = s.attn := rfl

@[simp] theorem State.setAnswered_pending (s : State) (b : Bool) : (s.setAnswered b).pending = s.pending := rfl

@[simp] theorem State.setAnswered_fabric_entries (s : State) (b : Bool) : (s.setAnswered b).fabric.entries = s.fabric.entries := rfl

@[simp] theorem State.setAnswered_fabric_outstanding (s : State) (b : Bool) : (s.setAnswered b).fabric.outstanding = s.fabric.outstanding := rfl

@[simp] theorem State.setAnswered_fabric_responseTimer (s : State) (b : Bool) : (s.setAnswered b).fabric.responseTimer = s.fabric.responseTimer := rfl

@[simp] theorem State.setAnswered_fabric_tagCounter (s : State) (b : Bool) : (s.setAnswered b).fabric.tagCounter = s.fabric.tagCounter := rfl

@[simp] theorem State.setAnswered_fabric_reassertTimer (s : State) (b : Bool) : (s.setAnswered b).fabric.reassertTimer = s.fabric.reassertTimer := rfl

@[simp] theorem State.setAnswered_fabric_reassertPending (s : State) (b : Bool) : (s.setAnswered b).fabric.reassertPending = s.fabric.reassertPending := rfl

@[simp] theorem State.setAnswered_fabric_pointer (s : State) (b : Bool) : (s.setAnswered b).fabric.pointer = s.fabric.pointer := rfl

@[simp] theorem State.setAnswered_fabric_cadence (s : State) (b : Bool) : (s.setAnswered b).fabric.cadence = s.fabric.cadence := rfl

@[simp] theorem State.setAnswered_fabric_resyncDone (s : State) (b : Bool) : (s.setAnswered b).fabric.resyncDone = s.fabric.resyncDone := rfl

@[simp] theorem State.setAnswered_fabric_tx (s : State) (b : Bool) : (s.setAnswered b).fabric.tx = s.fabric.tx := rfl

@[simp] theorem State.setAnswered_answered (s : State) (b : Bool) : (s.setAnswered b).fabric.answered = b := rfl

@[simp] theorem unmarkChanged_node (h : Nat) (s : State) : (unmarkChanged h s).node = s.node := rfl

@[simp] theorem unmarkChanged_monEast (h : Nat) (s : State) : (unmarkChanged h s).monEast = s.monEast := rfl

@[simp] theorem unmarkChanged_monWest (h : Nat) (s : State) : (unmarkChanged h s).monWest = s.monWest := rfl

@[simp] theorem unmarkChanged_laneEast (h : Nat) (s : State) : (unmarkChanged h s).laneEast = s.laneEast := rfl

@[simp] theorem unmarkChanged_laneWest (h : Nat) (s : State) : (unmarkChanged h s).laneWest = s.laneWest := rfl

@[simp] theorem unmarkChanged_map (h : Nat) (s : State) : (unmarkChanged h s).map = s.map := rfl

@[simp] theorem unmarkChanged_planner (h : Nat) (s : State) : (unmarkChanged h s).planner = s.planner := rfl

@[simp] theorem unmarkChanged_fabric (h : Nat) (s : State) : (unmarkChanged h s).fabric = s.fabric := rfl

@[simp] theorem unmarkChanged_port (h : Nat) (s : State) : (unmarkChanged h s).port = s.port := rfl

@[simp] theorem unmarkChanged_attn (h : Nat) (s : State) : (unmarkChanged h s).attn = s.attn := rfl

@[simp] theorem unmarkChanged_pending (h : Nat) (s : State) : (unmarkChanged h s).pending = s.pending := rfl

@[simp] theorem raiseCause_node (c : Cause) (s : State) : (raiseCause c s).node = s.node := rfl

@[simp] theorem raiseCause_store (c : Cause) (s : State) : (raiseCause c s).store = s.store := rfl

@[simp] theorem raiseCause_monEast (c : Cause) (s : State) : (raiseCause c s).monEast = s.monEast := rfl

@[simp] theorem raiseCause_monWest (c : Cause) (s : State) : (raiseCause c s).monWest = s.monWest := rfl

@[simp] theorem raiseCause_laneEast (c : Cause) (s : State) : (raiseCause c s).laneEast = s.laneEast := rfl

@[simp] theorem raiseCause_laneWest (c : Cause) (s : State) : (raiseCause c s).laneWest = s.laneWest := rfl

@[simp] theorem raiseCause_map (c : Cause) (s : State) : (raiseCause c s).map = s.map := rfl

@[simp] theorem raiseCause_planner (c : Cause) (s : State) : (raiseCause c s).planner = s.planner := rfl

@[simp] theorem raiseCause_fabric (c : Cause) (s : State) : (raiseCause c s).fabric = s.fabric := rfl

@[simp] theorem raiseCause_port (c : Cause) (s : State) : (raiseCause c s).port = s.port := rfl

@[simp] theorem raiseCause_pending (c : Cause) (s : State) : (raiseCause c s).pending = s.pending := rfl

@[simp] theorem startSweep_node (s : State) : (startSweep s).node = s.node := rfl

@[simp] theorem startSweep_store (s : State) : (startSweep s).store = s.store := rfl

@[simp] theorem startSweep_monEast (s : State) : (startSweep s).monEast = s.monEast := rfl

@[simp] theorem startSweep_monWest (s : State) : (startSweep s).monWest = s.monWest := rfl

@[simp] theorem startSweep_laneEast (s : State) : (startSweep s).laneEast = s.laneEast := rfl

@[simp] theorem startSweep_laneWest (s : State) : (startSweep s).laneWest = s.laneWest := rfl

@[simp] theorem startSweep_map (s : State) : (startSweep s).map = s.map := rfl

@[simp] theorem startSweep_fabric (s : State) : (startSweep s).fabric = s.fabric := rfl

@[simp] theorem startSweep_port (s : State) : (startSweep s).port = s.port := rfl

@[simp] theorem startSweep_attn (s : State) : (startSweep s).attn = s.attn := rfl

@[simp] theorem startSweep_pending (s : State) : (startSweep s).pending = s.pending := rfl

@[simp] theorem sendCommand_node (c : Command) (s : State) : (sendCommand c s).node = s.node := rfl

@[simp] theorem sendCommand_store (c : Command) (s : State) : (sendCommand c s).store = s.store := rfl

@[simp] theorem sendCommand_monEast (c : Command) (s : State) : (sendCommand c s).monEast = s.monEast := rfl

@[simp] theorem sendCommand_monWest (c : Command) (s : State) : (sendCommand c s).monWest = s.monWest := rfl

@[simp] theorem sendCommand_laneEast (c : Command) (s : State) : (sendCommand c s).laneEast = s.laneEast := rfl

@[simp] theorem sendCommand_laneWest (c : Command) (s : State) : (sendCommand c s).laneWest = s.laneWest := rfl

@[simp] theorem sendCommand_map (c : Command) (s : State) : (sendCommand c s).map = s.map := rfl

@[simp] theorem sendCommand_planner (c : Command) (s : State) : (sendCommand c s).planner = s.planner := rfl

@[simp] theorem sendCommand_port (c : Command) (s : State) : (sendCommand c s).port = s.port := rfl

@[simp] theorem sendCommand_attn (c : Command) (s : State) : (sendCommand c s).attn = s.attn := rfl

@[simp] theorem sendCommand_pending (c : Command) (s : State) : (sendCommand c s).pending = s.pending := rfl

@[simp] theorem retireCommand_node (c : Command) (s : State) : (retireCommand c s).node = s.node := rfl

@[simp] theorem retireCommand_store (c : Command) (s : State) : (retireCommand c s).store = s.store := rfl

@[simp] theorem retireCommand_monEast (c : Command) (s : State) : (retireCommand c s).monEast = s.monEast := rfl

@[simp] theorem retireCommand_monWest (c : Command) (s : State) : (retireCommand c s).monWest = s.monWest := rfl

@[simp] theorem retireCommand_laneEast (c : Command) (s : State) : (retireCommand c s).laneEast = s.laneEast := rfl

@[simp] theorem retireCommand_laneWest (c : Command) (s : State) : (retireCommand c s).laneWest = s.laneWest := rfl

@[simp] theorem retireCommand_map (c : Command) (s : State) : (retireCommand c s).map = s.map := rfl

@[simp] theorem retireCommand_planner (c : Command) (s : State) : (retireCommand c s).planner = s.planner := rfl

@[simp] theorem retireCommand_port (c : Command) (s : State) : (retireCommand c s).port = s.port := rfl

@[simp] theorem retireCommand_attn (c : Command) (s : State) : (retireCommand c s).attn = s.attn := rfl

@[simp] theorem retireCommand_pending (c : Command) (s : State) : (retireCommand c s).pending = s.pending := rfl

@[simp] theorem clearHolder_node (s : State) : (clearHolder s).node = s.node := rfl

@[simp] theorem clearHolder_store (s : State) : (clearHolder s).store = s.store := rfl

@[simp] theorem clearHolder_monEast (s : State) : (clearHolder s).monEast = s.monEast := rfl

@[simp] theorem clearHolder_monWest (s : State) : (clearHolder s).monWest = s.monWest := rfl

@[simp] theorem clearHolder_laneEast (s : State) : (clearHolder s).laneEast = s.laneEast := rfl

@[simp] theorem clearHolder_laneWest (s : State) : (clearHolder s).laneWest = s.laneWest := rfl

@[simp] theorem clearHolder_map (s : State) : (clearHolder s).map = s.map := rfl

@[simp] theorem clearHolder_planner (s : State) : (clearHolder s).planner = s.planner := rfl

@[simp] theorem clearHolder_fabric (s : State) : (clearHolder s).fabric = s.fabric := rfl

@[simp] theorem clearHolder_attn (s : State) : (clearHolder s).attn = s.attn := rfl

@[simp] theorem clearHolder_pending (s : State) : (clearHolder s).pending = s.pending := rfl

@[simp] theorem State.withRequest_node (s : State) (i : Instr) (tag : Byte) (st : Status) (data : List Byte) : (s.withRequest i tag st data).node = s.node := rfl

@[simp] theorem State.withRequest_store (s : State) (i : Instr) (tag : Byte) (st : Status) (data : List Byte) : (s.withRequest i tag st data).store = s.store := rfl

@[simp] theorem State.withRequest_monEast (s : State) (i : Instr) (tag : Byte) (st : Status) (data : List Byte) : (s.withRequest i tag st data).monEast = s.monEast := rfl

@[simp] theorem State.withRequest_monWest (s : State) (i : Instr) (tag : Byte) (st : Status) (data : List Byte) : (s.withRequest i tag st data).monWest = s.monWest := rfl

@[simp] theorem State.withRequest_laneEast (s : State) (i : Instr) (tag : Byte) (st : Status) (data : List Byte) : (s.withRequest i tag st data).laneEast = s.laneEast := rfl

@[simp] theorem State.withRequest_laneWest (s : State) (i : Instr) (tag : Byte) (st : Status) (data : List Byte) : (s.withRequest i tag st data).laneWest = s.laneWest := rfl

@[simp] theorem State.withRequest_map (s : State) (i : Instr) (tag : Byte) (st : Status) (data : List Byte) : (s.withRequest i tag st data).map = s.map := rfl

@[simp] theorem State.withRequest_planner (s : State) (i : Instr) (tag : Byte) (st : Status) (data : List Byte) : (s.withRequest i tag st data).planner = s.planner := rfl

@[simp] theorem State.withRequest_fabric (s : State) (i : Instr) (tag : Byte) (st : Status) (data : List Byte) : (s.withRequest i tag st data).fabric = s.fabric := rfl

@[simp] theorem State.withRequest_attn (s : State) (i : Instr) (tag : Byte) (st : Status) (data : List Byte) : (s.withRequest i tag st data).attn = s.attn := rfl

@[simp] theorem State.withRequest_pending (s : State) (i : Instr) (tag : Byte) (st : Status) (data : List Byte) : (s.withRequest i tag st data).pending = s.pending := rfl

end Sys2Proof.Machine
end

