-- ==== Sys2Proof/Laws/Table.lean ====
section
/-!
SUPPORT. The laws of the sparse tables and ordered sets: reading after writing, and that every operation keeps the canonical
form (entry 22).
-/

namespace Sys2Proof.Machine

variable {α : Type}

/-! ### Reading -/

theorem Table.get_erase_eq (d : α) (t : Table α) (k : Nat) : Table.get d (Table.erase t k) k = d := by
  induction t with
  | nil => rfl
  | cons e t ih =>
    obtain ⟨j, v⟩ := e
    by_cases h : j = k <;> simp [Table.erase, Table.get, h, ih]

theorem Table.get_erase_ne (d : α) (t : Table α) {k j : Nat} (h : j ≠ k) :
    Table.get d (Table.erase t k) j = Table.get d t j := by
  induction t with
  | nil => rfl
  | cons e t ih =>
    obtain ⟨i, v⟩ := e
    by_cases h1 : i = k
    · subst h1; simp [Table.erase, Table.get, Ne.symm h, ih]
    · by_cases h2 : i = j
      · subst h2; simp [Table.erase, Table.get, h1]
      · simp [Table.erase, Table.get, h1, h2, ih]

theorem Table.get_insert_eq (d : α) (t : Table α) (k : Nat) (v : α) : Table.get d (Table.insert t k v) k = v := by
  induction t with
  | nil => simp [Table.insert, Table.get]
  | cons e t ih =>
    obtain ⟨j, w⟩ := e
    by_cases h1 : k < j
    · simp [Table.insert, Table.get, h1]
    · by_cases h2 : k = j
      · simp [Table.insert, Table.get, h2]
      · simp [Table.insert, Table.get, h1, h2, Ne.symm h2, ih]

theorem Table.get_insert_ne (d : α) (t : Table α) {k j : Nat} (v : α) (h : j ≠ k) :
    Table.get d (Table.insert t k v) j = Table.get d t j := by
  induction t with
  | nil => simp [Table.insert, Table.get, Ne.symm h]
  | cons e t ih =>
    obtain ⟨i, w⟩ := e
    by_cases h1 : k < i
    · simp [Table.insert, Table.get, h1, Ne.symm h]
    · by_cases h2 : k = i
      · subst h2; simp [Table.insert, Table.get, Ne.symm h]
      · by_cases h3 : i = j
        · subst h3; simp [Table.insert, Table.get, h1, h2]
        · simp [Table.insert, Table.get, h1, h2, h3, ih]

/-- A number reads as the value last written to it. -/
@[simp] theorem Table.get_set_eq [DecidableEq α] (d : α) (t : Table α) (k : Nat) (v : α) :
    Table.get d (Table.set d t k v) k = v := by
  by_cases h : v = d
  · simp [Table.set, h, Table.get_erase_eq]
  · simp [Table.set, h, Table.get_insert_eq]

/-- A write leaves every other number alone. -/
theorem Table.get_set_ne [DecidableEq α] (d : α) (t : Table α) {k j : Nat} (v : α) (h : j ≠ k) :
    Table.get d (Table.set d t k v) j = Table.get d t j := by
  by_cases hv : v = d
  · simp [Table.set, hv, Table.get_erase_ne d t h]
  · simp [Table.set, hv, Table.get_insert_ne d t v h]

/-- Reading after a write, both cases. -/
theorem Table.get_set [DecidableEq α] (d : α) (t : Table α) (k j : Nat) (v : α) :
    Table.get d (Table.set d t k v) j = if j = k then v else Table.get d t j := by
  by_cases h : j = k
  · subst h; simp
  · simp [h, Table.get_set_ne d t v h]

/-! ### Rising lists -/

/-- A list is strictly rising exactly when its numbers are in order without repeats. -/
theorem rising_iff (l : List Nat) : rising l = true ↔ l.Pairwise (· < ·) := by
  induction l with
  | nil => simp [rising]
  | cons a l ih =>
    cases l with
    | nil => simp [rising]
    | cons b l =>
      rw [rising, Bool.and_eq_true, decide_eq_true_iff, ih, List.pairwise_cons (a := a)]
      constructor
      · rintro ⟨hab, hp⟩
        refine ⟨fun c hc => ?_, hp⟩
        rcases List.mem_cons.1 hc with rfl | hc
        · exact hab
        · exact lt_trans hab ((List.pairwise_cons.1 hp).1 c hc)
      · rintro ⟨h, hp⟩
        exact ⟨h b (by simp), hp⟩

theorem mem_setInsert (l : List Nat) (k a : Nat) : a ∈ setInsert l k ↔ a = k ∨ a ∈ l := by
  induction l with
  | nil => simp [setInsert]
  | cons b l ih =>
    by_cases h1 : k < b
    · simp [setInsert, h1]
    · by_cases h2 : k = b
      · subst h2; simp [setInsert]
      · simp only [setInsert, h1, h2, if_false, List.mem_cons, ih]; tauto

/-- Adding to a set keeps it rising. -/
theorem setInsert_rising {l : List Nat} (k : Nat) (h : rising l = true) : rising (setInsert l k) = true := by
  rw [rising_iff] at *
  induction l with
  | nil => simp [setInsert]
  | cons b l ih =>
    obtain ⟨hb, hl⟩ := List.pairwise_cons.1 h
    by_cases h1 : k < b
    · simp only [setInsert, h1, if_true, List.pairwise_cons]
      refine ⟨fun c hc => ?_, hb, hl⟩
      rcases List.mem_cons.1 hc with rfl | hc
      · exact h1
      · exact lt_trans h1 (hb c hc)
    · by_cases h2 : k = b
      · simpa [setInsert, h1, h2] using ⟨hb, hl⟩
      · simp only [setInsert, h1, h2, if_false, List.pairwise_cons]
        refine ⟨fun c hc => ?_, ih hl⟩
        rcases (mem_setInsert l k c).1 hc with rfl | hc
        · omega
        · exact hb c hc

/-- Taking out of a set keeps it rising. -/
theorem setErase_rising {l : List Nat} (k : Nat) (h : rising l = true) : rising (setErase l k) = true := by
  rw [rising_iff] at *
  exact h.filter _

/-! ### The canonical form -/

/-- The canonical form: numbers in order without repeats, and no listed value that an unlisted number has. -/
theorem Table.wf_iff [DecidableEq α] (d : α) (t : Table α) :
    Table.wf d t = true ↔ (Table.keys t).Pairwise (· < ·) ∧ ∀ e ∈ t, e.2 ≠ d := by
  simp [Table.wf, rising_iff]

theorem Table.keys_erase_sublist (t : Table α) (k : Nat) : (Table.keys (Table.erase t k)).Sublist (Table.keys t) := by
  induction t with
  | nil => simp [Table.erase, Table.keys]
  | cons e t ih =>
    obtain ⟨j, v⟩ := e
    by_cases h : j = k
    · simp only [Table.erase, h, if_true]; exact ih.trans (List.sublist_cons_self _ _)
    · simp only [Table.erase, h, if_false]; exact ih.cons_cons _

theorem Table.mem_erase {t : Table α} {k : Nat} {e : Nat × α} (h : e ∈ Table.erase t k) : e ∈ t := by
  induction t with
  | nil => simp [Table.erase] at h
  | cons f t ih =>
    obtain ⟨j, v⟩ := f
    by_cases hj : j = k
    · simp only [Table.erase, hj, if_true] at h; exact List.mem_cons_of_mem _ (ih h)
    · simp only [Table.erase, hj, if_false, List.mem_cons] at h ⊢; exact h.imp id ih

theorem Table.mem_keys_insert (t : Table α) (k : Nat) (v : α) (a : Nat) :
    a ∈ Table.keys (Table.insert t k v) ↔ a = k ∨ a ∈ Table.keys t := by
  induction t with
  | nil => simp [Table.insert, Table.keys]
  | cons e t ih =>
    obtain ⟨j, w⟩ := e
    by_cases h1 : k < j
    · simp [Table.insert, Table.keys, h1]
    · by_cases h2 : k = j
      · subst h2; simp [Table.insert, Table.keys]
      · have := ih
        simp only [Table.keys] at this ⊢
        simp only [Table.insert, h1, h2, if_false, List.map_cons, List.mem_cons, this]; tauto

theorem Table.keys_insert_pairwise {t : Table α} (k : Nat) (v : α) (h : (Table.keys t).Pairwise (· < ·)) :
    (Table.keys (Table.insert t k v)).Pairwise (· < ·) := by
  induction t with
  | nil => simp [Table.insert, Table.keys]
  | cons e t ih =>
    obtain ⟨j, w⟩ := e
    have h' : (j :: Table.keys t).Pairwise (· < ·) := h
    obtain ⟨hj, ht⟩ := List.pairwise_cons.1 h'
    by_cases h1 : k < j
    · simp only [Table.insert, h1, if_true]
      show (k :: j :: Table.keys t).Pairwise (· < ·)
      refine List.pairwise_cons.2 ⟨fun c hc => ?_, h'⟩
      rcases List.mem_cons.1 hc with rfl | hc
      · exact h1
      · exact lt_trans h1 (hj c hc)
    · by_cases h2 : k = j
      · subst h2; simp only [Table.insert, lt_irrefl, if_false, if_true]; exact h'
      · simp only [Table.insert, h1, h2, if_false]
        show (j :: Table.keys (Table.insert t k v)).Pairwise (· < ·)
        refine List.pairwise_cons.2 ⟨fun c hc => ?_, ih ht⟩
        rcases (Table.mem_keys_insert t k v c).1 hc with rfl | hc
        · omega
        · exact hj c hc

theorem Table.mem_insert {t : Table α} {k : Nat} {v : α} {e : Nat × α} (h : e ∈ Table.insert t k v) :
    e = (k, v) ∨ e ∈ t := by
  induction t with
  | nil => simpa [Table.insert] using h
  | cons f t ih =>
    obtain ⟨j, w⟩ := f
    by_cases h1 : k < j
    · simpa [Table.insert, h1] using h
    · by_cases h2 : k = j
      · subst h2
        simp only [Table.insert, lt_irrefl, if_false, if_true, List.mem_cons] at h ⊢; tauto
      · simp only [Table.insert, h1, h2, if_false, List.mem_cons] at h ⊢
        rcases h with h | h
        · exact .inr (.inl h)
        · exact (ih h).imp id .inr

/-- A write keeps the canonical form. -/
theorem Table.set_wf [DecidableEq α] {d : α} {t : Table α} (k : Nat) (v : α) (h : Table.wf d t = true) :
    Table.wf d (Table.set d t k v) = true := by
  rw [Table.wf_iff] at *
  by_cases hv : v = d
  · simp only [Table.set, hv, if_true]
    exact ⟨h.1.sublist (Table.keys_erase_sublist t k), fun e he => h.2 e (Table.mem_erase he)⟩
  · simp only [Table.set, hv, if_false]
    refine ⟨Table.keys_insert_pairwise k v h.1, fun e he => ?_⟩
    rcases Table.mem_insert he with rfl | he
    · exact hv
    · exact h.2 e he

/-- Changing every listed value keeps the canonical form. -/
theorem Table.mapValues_wf [DecidableEq α] {d : α} (f : Nat → α → α) {t : Table α} (h : Table.wf d t = true) :
    Table.wf d (Table.mapValues d f t) = true := by
  rw [Table.wf_iff] at *
  constructor
  · have hs : (Table.keys (Table.mapValues d f t)).Sublist (Table.keys t) := by
      clear h
      induction t with
      | nil => simp [Table.mapValues, Table.keys]
      | cons e t ih =>
        by_cases he : f e.1 e.2 = d
        · simpa [Table.mapValues, Table.keys, he] using (ih.trans (List.sublist_cons_self e.1 _))
        · simpa [Table.mapValues, Table.keys, he] using ih
    exact h.1.sublist hs
  · intro e he
    simp only [Table.mapValues, List.mem_filterMap] at he
    obtain ⟨a, -, ha⟩ := he
    by_cases hd : f a.1 a.2 = d
    · simp [hd] at ha
    · simp only [hd, if_false, Option.some.injEq] at ha; subst ha; exact hd

/-- A number that is not listed reads as the default. -/
theorem Table.get_of_not_mem (d : α) {t : Table α} {k : Nat} (h : k ∉ Table.keys t) : Table.get d t k = d := by
  induction t with
  | nil => rfl
  | cons e t ih =>
    obtain ⟨j, v⟩ := e
    simp only [Table.keys, List.map_cons, List.mem_cons, not_or] at h
    simp [Table.get, Ne.symm h.1, ih (by simpa [Table.keys] using h.2)]

/-- Reading after every listed value is changed by a function that keeps the default. -/
theorem Table.get_mapValues [DecidableEq α] {d : α} (f : Nat → α → α) {t : Table α} (k : Nat) (hf : f k d = d)
    (h : Table.wf d t = true) : Table.get d (Table.mapValues d f t) k = f k (Table.get d t k) := by
  rw [Table.wf_iff] at h
  induction t with
  | nil => simp [Table.mapValues, Table.get, hf]
  | cons e t ih =>
    obtain ⟨j, v⟩ := e
    have hp : (j :: Table.keys t).Pairwise (· < ·) := h.1
    have iht := ih ⟨(List.pairwise_cons.1 hp).2, fun e he => h.2 e (List.mem_cons_of_mem _ he)⟩
    simp only [Table.mapValues] at iht ⊢
    by_cases hj : j = k
    · subst hj
      have hn : j ∉ Table.keys t := fun hm => lt_irrefl j ((List.pairwise_cons.1 hp).1 j hm)
      rw [Table.get_of_not_mem d hn, hf] at iht
      by_cases hv : f j v = d
      · simp [hv, Table.get, iht]
      · simp [hv, Table.get]
    · by_cases hv : f j v = d
      · simp [hv, Table.get, hj, iht]
      · simp [hv, Table.get, hj, iht]

/-- A table made from a function is in canonical form. -/
theorem Table.ofFun_wf [DecidableEq α] (d : α) (n : Nat) (f : Nat → α) : Table.wf d (Table.ofFun d n f) = true := by
  rw [Table.wf_iff]
  have hk : Table.keys (Table.ofFun d n f) = (List.range n).filter (fun k => decide (f k ≠ d)) := by
    unfold Table.ofFun Table.keys
    generalize List.range n = l
    induction l with
    | nil => rfl
    | cons a l ih => by_cases h : f a = d <;> simp [h, ih]
  refine ⟨?_, ?_⟩
  · rw [hk]; exact (List.pairwise_lt_range).filter _
  · intro e he
    simp only [Table.ofFun, List.mem_filterMap] at he
    obtain ⟨a, -, ha⟩ := he
    by_cases h : f a = d
    · simp [h] at ha
    · simp only [h, if_false, Option.some.injEq] at ha; subst ha; exact h

/-- Reading a table made from a function. -/
theorem Table.get_ofFun [DecidableEq α] (d : α) (n : Nat) (f : Nat → α) (k : Nat) :
    Table.get d (Table.ofFun d n f) k = if k < n then f k else d := by
  have h : ∀ l : List Nat, Table.get d (l.filterMap fun k => if f k = d then none else some (k, f k)) k =
      if k ∈ l then f k else d := by
    intro l
    induction l with
    | nil => simp [Table.get]
    | cons a l ih =>
      by_cases ha : f a = d
      · by_cases hk : k = a
        · subst hk; simp [ha, ih]
        · simp [ha, ih, hk]
      · by_cases hk : k = a
        · subst hk; simp [ha, Table.get]
        · simp [ha, Table.get, Ne.symm hk, ih, hk]
  simpa [Table.ofFun] using h (List.range n)

end Sys2Proof.Machine
end

