-- ==== Sys2Proof/Laws/Ops.lean ====
section
/-!
SUPPORT. One lemma for each shared operation that says once everything it can do: which fields it may write, and what stands
in them. Later proofs cite these and do not unfold the operations.
-/

namespace Sys2Proof.Machine

/-! ### Attention -/

theorem raiseIf_eq (b : Bool) (c : Cause) (s : State) :
    raiseIf b c s = { s with attn := if b then s.attn.raise c else s.attn } := by cases b <;> rfl

/-- A cause that is raised is pending, and no cause stops being pending. -/
theorem Attention.raise_pending (a : Attention) (c : Cause) : (a.raise c).pending = a.pending ||| causeBit c := rfl

theorem Attention.raise_asserted (a : Attention) (c : Cause) : (a.raise c).asserted = (a.raise c).calls := rfl

theorem Attention.raise_rest (a : Attention) (c : Cause) : (a.raise c).mask = a.mask ∧ (a.raise c).latch = a.latch :=
  ⟨rfl, rfl⟩

/-! ### Records, the changed set, the buckets, the digest -/

/-- A record reads as it was written, and every other record as before. -/
theorem record_setRec (s : State) (h k : Nat) (r : Record) :
    (s.setRec h r).record k = if k = h then r else s.record k := Table.get_set _ _ _ _ _

theorem bucket_setBucket (s : State) (b c : Nat) (l : List Nat) :
    (s.setBucket b l).bucket c = if c = b then l else s.bucket c := Table.get_set _ _ _ _ _

theorem record_setBucket (s : State) (b k : Nat) (l : List Nat) : (s.setBucket b l).record k = s.record k := rfl

theorem entry_setEntry (s : State) (i j : Nat) (e : Entry) :
    (s.setEntry i e).entry j = if j = i then e else s.entry j := Table.get_set _ _ _ _ _

@[simp] theorem entry_setAnswered (s : State) (b : Bool) (i : Nat) : (s.setAnswered b).entry i = s.entry i := rfl

@[simp] theorem record_setAnswered (s : State) (b : Bool) (h : Nat) : (s.setAnswered b).record h = s.record h := rfl

/-- Marking a record as changed writes the changed set and may raise Records Changed. -/
theorem markChanged_eq (h : Nat) (s : State) :
    markChanged h s = { s with
      store := { s.store with changed := setInsert s.store.changed h },
      attn := if s.store.changed = [] then s.attn.raise .recordsChanged else s.attn } := by
  unfold markChanged raiseIf raiseCause
  by_cases hc : s.store.changed = [] <;> simp [hc]

theorem record_markChanged (h k : Nat) (s : State) : (markChanged h s).record k = s.record k := by
  rw [markChanged_eq]; rfl

/-- The digest comparison of a lane writes its result and may raise Table Disagreement. -/
theorem compareDigest_eq (d : Side) (s : State) :
    compareDigest d s = { s.setLane d { s.lane d with differs := ((compareDigest d s).lane d).differs } with
      attn := (compareDigest d s).attn } := by
  cases d <;> simp only [compareDigest, State.lane, State.setLane] <;> split <;> simp [raiseIf] <;> split <;> rfl

/-- A change of the digest writes the digest and the two comparisons. -/
theorem setDigest_eq (v : BitVec 32) (s : State) :
    setDigest v s = { s with
      store := { s.store with digest := v },
      laneEast := { s.laneEast with differs := (setDigest v s).laneEast.differs },
      laneWest := { s.laneWest with differs := (setDigest v s).laneWest.differs },
      attn := (setDigest v s).attn } := by
  unfold setDigest
  split
  · next h => subst h; rfl
  · rw [compareDigest_eq .west, compareDigest_eq .east]; rfl

/-! ### Marks -/

/-- Marking a key on a lane writes the lane's pending report set, if the lane is Up. -/
theorem markKey_eq (d : Side) (key : Nat) (s : State) :
    markKey d key s = s.setLane d { s.lane d with
      pendingKeys := if (s.lane d).adjacency = .up then setInsert (s.lane d).pendingKeys key
        else (s.lane d).pendingKeys } := by
  unfold markKey
  split
  · rfl
  · cases d <;> rfl

/-- Marking a key on both lanes. -/
theorem markBoth_eq (key : Nat) (s : State) :
    markBoth key s = { s with
      laneEast := { s.laneEast with
        pendingKeys := if s.laneEast.adjacency = .up then setInsert s.laneEast.pendingKeys key
          else s.laneEast.pendingKeys },
      laneWest := { s.laneWest with
        pendingKeys := if s.laneWest.adjacency = .up then setInsert s.laneWest.pendingKeys key
          else s.laneWest.pendingKeys } } := by
  unfold markBoth; rw [markKey_eq, markKey_eq]; rfl

/-! ### Sweeps -/

/-- A host trigger writes the Planner alone, and nothing in Configuring. -/
theorem hostTrigger_eq (s : State) : hostTrigger s = { s with planner := (hostTrigger s).planner } := by
  unfold hostTrigger; split
  · rfl
  · split <;> rfl

/-- A span trigger writes the Planner alone. -/
theorem spanTrigger_eq (s : State) : spanTrigger s = { s with planner := (spanTrigger s).planner } := by
  unfold spanTrigger; split
  · rfl
  · split
    · rfl
    · split <;> rfl

/-- A span trigger never takes the abandon count past 4. -/
theorem spanTrigger_abandonCount (s : State) (h : s.planner.abandonCount ≤ 4) :
    (spanTrigger s).planner.abandonCount ≤ 4 := by
  unfold spanTrigger; split
  · exact h
  · split
    · exact h
    · split
      · next hlt => simpa [startSweep, Config.abandonLimit] using hlt
      · exact h

/-! ### The Span Map and the own reports -/

/-- The comparison after an event writes the held spans and what a change sets off: the cadence scale, the Planner and the
Attention Unit. -/
theorem compareSpans_eq (s : State) :
    compareSpans s = { s with
      map := { s.map with spans := s.workedOutSpans },
      fabric := { s.fabric with cadence := (compareSpans s).fabric.cadence },
      planner := (compareSpans s).planner, attn := (compareSpans s).attn } := by
  simp only [compareSpans, raiseIf_eq]
  split <;> split <;> first | rfl | (rw [spanTrigger_eq])

/-- Taking a composed report writes the own report of the side and the pending report sets. -/
theorem takeOwn_eq (d : Side) (s : State) :
    takeOwn d s = { s with
      map := s.map.setOwn d ((takeOwn d s).map.own d),
      laneEast := { s.laneEast with pendingKeys := (takeOwn d s).laneEast.pendingKeys },
      laneWest := { s.laneWest with pendingKeys := (takeOwn d s).laneWest.pendingKeys } } := by
  unfold takeOwn
  split
  · cases d <;> rfl
  · dsimp only
    split
    · cases d <;> rfl
    · rw [markBoth_eq]; cases d <;> rfl

/-- After a report is taken, the own report of the side is the composed one. -/
theorem takeOwn_content (d : Side) (s : State) : ((takeOwn d s).map.own d).content = s.composed d := by
  unfold takeOwn
  split
  · next h => exact h.symm
  · dsimp only
    split
    · simp
    · rw [markBoth_eq]; simp

/-- Composing and comparing at the end of an event leaves every field but the own reports, the held spans, the pending report
sets and what a change of a span sets off. -/
theorem refreshReports_eq (s : State) :
    refreshReports s = { s with
      map := { s.map with
        ownEast := (refreshReports s).map.ownEast, ownWest := (refreshReports s).map.ownWest,
        spans := (refreshReports s).map.spans },
      laneEast := { s.laneEast with pendingKeys := (refreshReports s).laneEast.pendingKeys },
      laneWest := { s.laneWest with pendingKeys := (refreshReports s).laneWest.pendingKeys },
      fabric := { s.fabric with cadence := (refreshReports s).fabric.cadence },
      planner := (refreshReports s).planner, attn := (refreshReports s).attn } := by
  unfold refreshReports
  rw [compareSpans_eq, takeOwn_eq .west, takeOwn_eq .east]
  rfl

/-- A Line Monitor's evaluation writes that monitor alone. -/
theorem evalMonitor_eq (d : Side) (s : State) : evalMonitor d s = s.setMon d ((evalMonitor d s).mon d) := by
  unfold evalMonitor; simp

/-! ### Exchanges -/

/-- Giving a Path Confirm to a lane writes that lane's queue, if it is Up and not full. -/
theorem giveConfirm_eq (d : Side) (p : PathConfirm) (s : State) :
    giveConfirm d p s = s.setLane d { s.lane d with
      queue := if (s.lane d).adjacency = .up ∧ (s.lane d).queue.length < 16 then (s.lane d).queue ++ [p]
        else (s.lane d).queue } := by
  unfold giveConfirm Config.queueLimit
  split
  · rfl
  · cases d <;> rfl

theorem giveConfirm_length (d : Side) (p : PathConfirm) (s : State) (h : (s.lane d).queue.length ≤ 16) :
    ((giveConfirm d p s).lane d).queue.length ≤ 16 := by
  rw [giveConfirm_eq]; simp only [State.lane_setLane]
  split
  · next hc => simp; omega
  · exact h

/-- Writing an exchange writes that record, and marks it as changed when its confirm state changes. -/
theorem setExchange_eq (h : Nat) (x : Exchange) (s : State) :
    setExchange h x s =
      if x.state = (s.record h).exchange.state then s.setRec h { s.record h with exchange := x }
      else markChanged h (s.setRec h { s.record h with exchange := x }) := by
  unfold setExchange markChangedIf
  by_cases hx : x.state = (s.record h).exchange.state <;> simp [hx]

theorem record_setExchange (h k : Nat) (x : Exchange) (s : State) :
    (setExchange h x s).record k = if k = h then { s.record h with exchange := x } else s.record k := by
  rw [setExchange_eq]
  split
  · exact record_setRec _ _ _ _
  · rw [record_markChanged]; exact record_setRec _ _ _ _

/-! ### The Planner at a Stop -/

/-- A Planner that is Idle keeps its last plan (R111). -/
theorem discardSweep_idle (p : Planner) (h : p.phase = .idle) : p.discardSweep = p := by simp [Planner.discardSweep, h]

/-- A running sweep loses its next plan and nothing else (R116). -/
theorem discardSweep_running (p : Planner) (h : p.phase ≠ .idle) :
    p.discardSweep = { p with snapshot := [], buffer := [], excluded := [], nextGrants := [] } := by
  simp [Planner.discardSweep, h]

@[simp] theorem discardSweep_committed (p : Planner) : p.discardSweep.committed = p.committed := by
  unfold Planner.discardSweep; split <;> rfl

@[simp] theorem discardSweep_late (p : Planner) : p.discardSweep.late = p.late := by
  unfold Planner.discardSweep; split <;> rfl

@[simp] theorem discardSweep_gatherPos (p : Planner) : p.discardSweep.gatherPos = p.gatherPos := by
  unfold Planner.discardSweep; split <;> rfl

@[simp] theorem discardSweep_commitNumber (p : Planner) : p.discardSweep.commitNumber = p.commitNumber := by
  unfold Planner.discardSweep; split <;> rfl

/-! ### The Management Port -/

/-- Every bit of MP_DO in a request transaction is 0 (R155). -/
@[simp] theorem bit_silent (k : Nat) : PortOutput.silent.bit k = false := by simp [PortOutput.silent, PortOutput.bit]

/-- Past the end of the frame MP_DO is 0 (R155). -/
theorem bit_after_frame (o : PortOutput) (k : Nat) (h : 8 * o.frame.length ≤ k) : o.bit k = false := by
  have : o.frame.length ≤ k / 8 := by omega
  simp [PortOutput.bit, this]

/-- A request transaction that ends while the port is Working sets the collision latch, with MP_DO at 0, and does nothing else
(R155, R158). -/
theorem takeRequest_working (i : Instr) (tag : Byte) (carry : State → Carried) (s : State) (h : s.port.state = .working) :
    takeRequest i tag carry s =
      { s with port := { s.port with collision := true, output := PortOutput.silent } } := by
  simp [takeRequest, h, discardRequest]

/-- A request that is taken at once is carried out on the state with the holder cleared (R156, R160). -/
theorem takeRequest_accepts (i : Instr) (tag : Byte) (carry : State → Carried) (s : State) (h : Accepts s) :
    takeRequest i tag carry s = putInHand i tag (carry (clearHolder s)) := by
  obtain ⟨h1, h2⟩ := h
  simp [takeRequest, h1, beforeTaking, h2]

/-- A request that is carried out without a change of state leaves all but the port as it is. -/
theorem putInHand_unchanged (i : Instr) (tag : Byte) (status : Status) (data : List Byte) (s : State) :
    putInHand i tag { state := clearHolder s, status := status, data := data } = s.withRequest i tag status data := rfl

end Sys2Proof.Machine
end

