-- ==== Sys2Proof/Tests/Slice0.lean ====
section
/-!
SUPPORT. Tests: worked examples of the manual (each names its source), the smoke test of `wellFormed`, one step of each kind of
command on a small ring, and for each statement with hypotheses a state that meets them.

The small ring: node 1 of a ring of 8, Running, both lanes Up, with record 12 of 11.2 (Protected, class 5, nodes 1 to 4 East,
working slot 40, protection slot 9, ceiling 15000, port 22) Active.
-/

namespace Sys2Proof.Tests

set_option Elab.async false

open Sys2Proof Sys2Proof.Machine

/-! ### Worked examples -/

/-- The ASCII bytes of "123456789" (R177). -/
def digits : List Byte := [0x31, 0x32, 0x33, 0x34, 0x35, 0x36, 0x37, 0x38, 0x39]

/-- R177, the table of check sequences. -/
theorem test_crc16 : crc16 digits = 0x29B1 := by decide +kernel

theorem test_crc32 : crc32 digits = 0xFC891918 := by decide +kernel

/-- 1.4, worked example: circuit 0x3A51C7 falls in bucket 848, and so does circuit 848. -/
theorem test_bucket : bucketOf 0x3A51C7 = 848 ∧ bucketOf 848 = 848 := by decide

/-- 00, example of the conventions: N = 8, A = 6, B = 1, East. -/
def planExample : Planning := { Planning.cleared with endA := 6, endB := 1, dir := .east }

theorem test_arcs : planExample.workingArc 8 = [6, 7, 0] ∧ planExample.detourArc 8 = [5, 4, 3, 2, 1] := by decide

theorem test_roles : (List.range 8).map (planExample.role 8) =
    [some .workingTransit, some .endB, some .detourTransit, some .detourTransit, some .detourTransit, some .detourTransit,
      some .endA, some .workingTransit] := by decide

/-- 00: the upper end of span 0 has key 1 and lies at node 1 on its West side. -/
theorem test_own_key : ownKey 8 1 .west = 1 ∧ ownKey 8 0 .west = 15 ∧ ownKey 8 7 .east = 14 := by decide

/-- R7: working arcs 6 to 1 East and 2 to 0 West share span 0; 2 to 4 East shares none with them. -/
theorem test_shared_spans : arcsShare (planExample.workingArc 8) [1, 0] = true ∧
    arcsShare (planExample.workingArc 8) [2, 3] = false := by decide

/-- R71, the table of epochs. -/
theorem test_newer : newer 98 97 = true ∧ newer 4 65530 = true ∧ newer 65530 4 = false ∧ newer 0 412 = false ∧
    newer 32868 100 = false ∧ newer 100 32868 = false ∧ newer 5 5 = false := by decide

/-- R29: a hold-off of 125 ms is taken as 120 ms. R51: D = 0 is taken as 1, and then C as 0. -/
theorem test_clamps : clampHoldOff 125 = 120 ∧ clampHoldOff 2551 = 2550 ∧ clampCadence 3 = 2 ∧ clampCadence 9 = 8 ∧
    clampDeclare 0 = 1 ∧ clampClear 5 (clampDeclare 0) = 0 := by decide

/-- A Line Monitor with the settings of 3.4's worked example. -/
def errored (i : Nat) (c : LineCond) : Monitor :=
  { Monitor.reset with integrator := i, leak := 20, declareLevel := 1000, clearLevel := 200, cond := c }

/-- 3.4, worked example: reports 9 and 10 of E = 120, and reports 39 and 40 of E = 0. -/
theorem test_declare_degrade : (errored 800 .clear).takeCount 120 = errored 900 .clear ∧
    (errored 900 .clear).takeCount 120 = errored 1000 .degraded := by decide

theorem test_clear_degrade : (errored 240 .degraded).takeCount 0 = errored 220 .degraded ∧
    (errored 220 .degraded).takeCount 0 = errored 200 .clear := by decide

/-- 3.4, worked example: the clamps at the two ends of the range. -/
theorem test_integrator_clamps : (errored 15 .clear).integrate 0 = 0 ∧
    { errored 16760000 .clear with leak := 0 }.integrate 65535 = 16777215 := by decide

/-! ### Frames written out from R178 to R180 -/

/-- Record 12 of the manual's example, as node 1 stages it (11.2). -/
def img12 : StageImage :=
  { handle := 12, circuit := 0x3A51C7, kind := 0, dir := .east, lockout := false, endA := 1, endB := 4, workSlot := 40,
    protSlot := 9, prio := 5, ceiling := 15000, port := 22, portPresent := true }

def plan12 : Planning :=
  { circuit := 0x3A51C7, kind := .prot, endA := 1, endB := 4, dir := .east, workSlot := 40, protSlot := some 9,
    prio := some 5, ceiling := some 15000, lockout := false }

theorem test_image12 : imagePlanning img12 = some plan12 ∧
    plan12.image 12 = [0x00, 0x0C, 0x3A, 0x51, 0xC7, 0x00, 1, 4, 40, 9, 5, 0x00, 0x3A, 0x98, 0, 0] := by decide

/-- Stage Record, code 0x20, with the 18 bytes of 11.2. -/
theorem test_decode_stage : decodeRequest (closeFrame [25, 0x20, 7, 0x00, 0x0C, 0x00, 0x0C, 0x3A, 0x51, 0xC7, 0x00, 1, 4,
    40, 9, 5, 0x00, 0x3A, 0x98, 0, 0, 22, 0x01]) = .stageRecord 7 12 img12 := by decide +kernel

theorem test_decode_set_ring : decodeRequest (closeFrame [9, 0x13, 1, 0x01, 0x02, 8, 3]) = .setRing 1 258 8 3 := by
  decide +kernel

/-- R157: check 1, check 2, and check 3 with one parameter byte too many. -/
theorem test_frame_checks :
    decodeRequest [5, 0x10, 1, 0, 0] = .badFrame [5, 0x10, 1, 0, 0] ∧
    decodeRequest (closeFrame [5, 0x18, 1]) = .unknownCommand (closeFrame [5, 0x18, 1]) ∧
    decodeRequest (closeFrame [6, 0x10, 1, 0]) = .badFrame (closeFrame [6, 0x10, 1, 0]) := by decide +kernel

/-- 11.4, one report crossing a span: span 2, lower, Failed, LineFail, epoch 32. -/
theorem test_span_report_frame :
    spanReportFrame { span := 2, spanEnd := .lower, state := .failed, cause := .lineFail, epoch := 32 } = closeFrame [0x03, 2, 0, 4, 5, 0, 32, 0, 0, 0, 0, 0, 0, 0] := by decide +kernel

theorem test_decode_greeting : decodeLaneFrame .west (closeFrame [0x02, 0, 77, 0, 0, 8, 1, 2, 3, 4, 3, 0xC0, 0, 0]) =
    .greeting .west
      { ringId := 77, sender := 0, senderSide := .east, ringSize := 8, digest := 0x01020304, nodeState := .running,
        heard := true, mapSent := true } := by decide +kernel

/-- R57, R180: ring ID 0, an unknown type, and a wrong CRC. -/
theorem test_lane_discards :
    decodeLaneFrame .east (closeFrame [0x02, 0, 0, 0, 0, 8, 1, 2, 3, 4, 3, 0xC0, 0, 0]) = .discardedGoodFrame .east ∧
    decodeLaneFrame .east (closeFrame [0x05, 0, 0, 0, 0, 0, 0, 0, 0, 0, 0, 0, 0, 0]) = .discardedGoodFrame .east ∧
    decodeLaneFrame .east [0x01, 0, 0, 0, 0, 0, 0, 0, 0, 0, 0, 0, 0, 0, 0, 0] = .laneBadFrame .east := by decide +kernel

/-- R180: an answer, a frame of unknown type up to the next idle byte, and a block-count report of 258 blocks. -/
theorem test_decode_link : decodeLink .between (closeFrame [0x12, 9, 0x81] ++ [0, 0x44, 0x12, 0]) =
    (.between, [.fabricDone 9 true, .fabricLinkDiscard]) := by decide +kernel

theorem test_decode_count : decodeStatusLane .east .between ([0] ++ closeFrame [0x21, 1, 2]) =
    (.between, [.blockCountReport .east (some 258)]) := by decide +kernel

/-! ### Ill-formed commands -/

/-- Each check of `wellFormed` refuses a term that fails it alone. -/
theorem test_greeting_ranges : [(0, 0, 8), (65536, 0, 8), (1, 24, 8), (1, 0, 2), (1, 0, 25)].map (fun x =>
    wellFormed (.greeting .east
      { ringId := x.1, sender := x.2.1, senderSide := .east, ringSize := x.2.2, digest := 0, nodeState := .running,
        heard := false, mapSent := false })) = [false, false, false, false, false] := by decide

theorem test_report_and_confirm_ranges :
    wellFormed (.spanReport .east { span := 24, spanEnd := .lower, state := .clear, cause := .none, epoch := 0 }) = false ∧
    [(4096, 0, 0), (0, 24, 0), (0, 0, 24)].map (fun x => wellFormed (.pathConfirm .east
      { handle := x.1, check := 0, sender := x.2.1, target := x.2.2, heard := false, hops := 8 })) = [false, false, false] ∧
    wellFormed (.confirmTimerExpiry 4096) = false := by decide

theorem test_malformed_are_malformed :
    wellFormed (.badFrame (closeFrame [5, 0x10, 1])) = false ∧ wellFormed (.badFrame [0, 1]) = false ∧
    wellFormed (.unknownCommand (closeFrame [5, 0x10, 1])) = false ∧
    wellFormed (.badFrame [5, 0x10, 1, 0, 0]) = true ∧ wellFormed (.unknownCommand (closeFrame [5, 0x18, 1])) = true := by
  decide +kernel

theorem test_request_widths :
    [Instr.setRing 0 65536 8 0, .setRing 0 1 256 0, .setRing 0 1 8 256, .setTimers 0 65536 0 0 0 0, .setTimers 0 0 65536 0 0 0,
      .setTimers 0 0 0 65536 0 0, .setTimers 0 0 0 0 65536 0, .setTimers 0 0 0 0 0 256, .setDegrade 0 256 0 0 0,
      .setSpanDelay 0 256 0, .activateRecord 0 65536, .retireRecord 0 65536, .discardRecord 0 65536, .readRecord 0 65536,
      .findCircuit 0 16777216, .streamBegin 0 65536 1 true, .streamBegin 0 1 65536 true, .forceSpan 0 256,
      .releaseSpan 0 256, .readLane 0 256, .readSlotGrants 0 256, .readConnections 0 65536 1, .readConnections 0 0 256,
      .acknowledgeCause 0 256, .streamChunk 0 (List.replicate 14 img12)].all (fun i => !wellFormed i) = true := by decide

theorem test_image_widths :
    [{ img12 with handle := 65536 }, { img12 with circuit := 16777216 }, { img12 with kind := 4 }, { img12 with endA := 256 },
      { img12 with endB := 256 }, { img12 with workSlot := 256 }, { img12 with protSlot := 256 }, { img12 with prio := 256 },
      { img12 with ceiling := 16777216 }].all (fun i => !wellFormed (.stageRecord 0 12 i) && !wellFormed (.amendRecord 0 12 i) &&
        !wellFormed (.streamChunk 0 [i])) = true ∧
    wellFormed (.stageRecord 0 65536 img12) = false ∧ wellFormed (.amendRecord 0 65536 img12) = false := by decide

/-! ### The small ring -/

def rec12 : Record :=
  { Record.free with lifecycle := .active, plan := plan12, port := some 22, code := recordCode 12 plan12 }

def laneUp : Lane :=
  { Lane.reset with
    lock := .locked, lockWindow := some 4000, adjacency := .up, adjTimer := some 50000, greetTimer := some 10000,
    mapSent := true, exchanged := true }

def clearReport : EndReport := { content := { state := .clear, cause := .none }, epoch := 1 }

/-- The small ring with a record at handle 12. -/
def netWith (r : Record) : State :=
  { State.reset with
    node := { NodeControl.reset with state := .running, ringId := 77, ringSize := 8, own := 1, holdOff := 50 },
    store := { RecordStore.reset with
      records := [(12, r)], labelIndex := [(848, [12])], digest := r.code + RecordStore.reset.digest },
    laneEast := laneUp, laneWest := laneUp,
    map := { SpanMap.reset with ownEast := clearReport, ownWest := clearReport },
    fabric := { Fabric.reset with reassertTimer := some 20000, resyncDone := true } }

def net : State := netWith rec12

/-- The small ring in Configuring, with its own reports Halted. -/
def netConf : State :=
  { net with
    node := { net.node with state := .configuring }, fabric := { net.fabric with reassertTimer := none },
    map := { net.map with
      ownEast := EndReport.ownReset, ownWest := EndReport.ownReset,
      spans := [(0, { effective := .forcedOut, planning := .unusable }),
        (1, { effective := .forcedOut, planning := .unusable })] } }

theorem record_netWith (r : Record) (h : Nat) : (netWith r).record h = if 12 = h then r else Record.free := rfl

theorem net_accepts : Accepts net := by unfold Accepts; decide

theorem net_tables : TablesCanonical net := by unfold TablesCanonical; decide +kernel

theorem net_monitor (d : Side) : MonitorSound net d := by cases d <;> (unfold MonitorSound; decide +kernel)

theorem net_own : OwnComposed net := by unfold OwnComposed; decide

theorem net_spans : SpansWorkedOut net := by unfold SpansWorkedOut; decide +kernel

/-- The data and status of the response in hand after an outcome. -/
def answered (o : Host.Outcome State Fault Refusal) : Option (Status × List Byte) :=
  match o with
  | .next t => t.port.inHand.map fun x => (x.response.status, x.response.data)
  | _ => none

/-- What holds of the next state of an outcome. -/
def after (o : Host.Outcome State Fault Refusal) (p : State → Bool) : Bool :=
  match o with
  | .next t => p t
  | _ => false


/-! ### One step of each kind of command

Each expected value is worked out by hand from the rule named. -/

/-- R39, R44: LineFail with a hold-off of 50 ms enters Holding with the Clear report held. -/
theorem test_line_fail : after (exec (.lineFail .east true) net) (fun t => decide (t.monEast.cond =
    .holding .clear { state := .clear, cause := .none } ∧ t.monEast.holdOffTimer = some 50000 ∧
    t.map.ownEast = clearReport)) = true := by decide +kernel

/-- R44, R74: with a hold-off of 0 the report is Failed, LineFail at once, the epoch counts, key 2 is pending on both
lanes. -/
theorem test_line_fail_at_once : after (exec (.lineFail .east true) { net with node := { net.node with holdOff := 0 } })
    (fun t => decide (t.map.ownEast = { content := { state := .failed, cause := .lineFail }, epoch := 2 } ∧
      t.laneEast.pendingKeys = [2] ∧ t.laneWest.pendingKeys = [2])) = true := by decide +kernel

/-- The small ring with its East side Waiting and its WTR running. -/
def netWaiting : State :=
  { net with
    monEast := { net.monEast with cond := .waiting, wtrTimer := some 5 },
    map := { net.map with
      ownEast := { content := { state := .waiting, cause := .recovery }, epoch := 1 },
      spans := [(1, { effective := .waiting, planning := .unusable })] } }

/-- R47, R84, R85, R113: the end of WTR gives Clear, raises Span Map Change (cause 4) and starts a sweep. -/
theorem test_wtr_expiry : after (exec (.wtrTimerExpiry .east) netWaiting) (fun t => decide (t.monEast.cond = .clear ∧
    t.attn.pending = 0x10 ∧ t.attn.asserted = true ∧ t.planner.phase = .gathering)) = true := by decide +kernel

/-- R45: the end of the hold-off gives Failed. R42: the end of the silence timer makes NeighbourSilent present. -/
def netHolding : State :=
  { net with
    monEast := { net.monEast with
      lineFail := true, defects := { Defects.empty with lineFail := true },
      cond := .holding .clear { state := .clear, cause := .none }, holdOffTimer := some 5 } }

theorem test_hold_off_expiry : after (exec (.holdOffTimerExpiry .east) netHolding) (fun t =>
    decide (t.monEast.cond = .failed ∧ t.map.ownEast.content = { state := .failed, cause := .lineFail } ∧
      t.heldSpan 1 = { effective := .failed, planning := .unusable })) = true := by decide +kernel

def netSilent : State :=
  { net with
    laneEast := { Lane.reset with lock := .locked, lockWindow := some 4000, greetTimer := some 10000 },
    monEast := { net.monEast with silenceTimer := some 5 } }

theorem test_silence_expiry : after (exec (.silenceTimerExpiry .east) netSilent) (fun t =>
    decide (t.monEast.defects = { Defects.empty with neighbourSilent := true } ∧ t.monEast.silenceTimer = none)) = true := by
  decide +kernel

/-- R48, R49: I = 0 + 7 - 0 with D = 7 declares Degraded. -/
theorem test_block_count : after (exec (.blockCountReport .east (some 7))
    { net with monEast := { net.monEast with declareLevel := 7 } })
    (fun t => decide (t.monEast.integrator = 7 ∧ t.map.ownEast.content = { state := .degraded, cause := .degrade } ∧
      t.map.ownWest = clearReport)) = true := by decide +kernel

/-- R70: a due Greeting, then the lowest key; an unknown key is dropped and map sent becomes yes. -/
theorem test_frame_slot : after (exec .frameSlot
    { net with
      laneEast := { laneUp with pendingKeys := [2, 5], greetDue := true, mapSent := false },
      laneWest := { laneUp with pendingKeys := [5], mapSent := false } })
    (fun t => decide (t.laneEast.pendingKeys = [5] ∧ t.laneEast.dueReports = 1 ∧ t.laneEast.greetDue = true ∧
      t.laneEast.tx = closeFrame [0x03, 1, 0, 0, 0, 0, 1, 0, 0, 0, 0, 0, 0, 0] ∧ t.laneWest.mapSent = true ∧
      t.laneWest.tx = closeFrame [0x01, 0, 0, 0, 0, 0, 0, 0, 0, 0, 0, 0, 0, 0])) = true := by decide +kernel

/-- R58: the eighth good frame in a row locks the lane; the fourth bad frame in a row loses lock (R59: Down). -/
theorem test_lock_gained : after (exec (.fill .west) { net with laneWest := { Lane.reset with goodRun := 7 } })
    (fun t => decide (t.laneWest.lock = .locked ∧ t.laneWest.lockWindow = some 4000)) = true := by decide +kernel

theorem test_lock_lost : after (exec (.laneBadFrame .west) { net with laneWest := { laneUp with badRun := 3, queue := [] } })
    (fun t => decide (t.laneWest.lock = .hunting ∧ t.laneWest.adjacency = .down ∧
      t.monWest.defects = { Defects.empty with signallingLoss := true })) = true := by decide +kernel

def greetingEast : Greeting :=
  { ringId := 77, sender := 2, senderSide := .west, ringSize := 8, digest := net.store.digest, nodeState := .running,
    heard := true, mapSent := true }

/-- R62, R65: from Heard a correct Greeting with heard set enters Up with all 16 keys pending. -/
theorem test_greeting_up : after (exec (.greeting .east greetingEast)
    { net with laneEast := { laneUp with adjacency := .heard, mapSent := false, exchanged := false } })
    (fun t => decide (t.laneEast.adjacency = .up ∧ t.laneEast.pendingKeys = List.range 16 ∧ t.laneEast.mapSent = false)) =
    true := by decide +kernel

/-- R63: a Greeting of node 3 on the East lane is incorrect: Mismatched, Misconnection (cause 2). -/
theorem test_greeting_mismatch : after (exec (.greeting .east { greetingEast with sender := 3 }) net) (fun t =>
    decide (t.laneEast.adjacency = .mismatched ∧ t.attn.pending = 0x40 ∧ t.laneEast.mapSent = false)) = true := by
  decide +kernel

def failedSpan4 : SpanReport := { span := 4, spanEnd := .upper, state := .failed, cause := .lineFail, epoch := 9 }

/-- R72, R85, R87, R113: an unknown key 9 is stored and marked on the West lane alone; a sweep starts, the scale is 1. -/
theorem test_span_report_stored : after (exec (.spanReport .east failedSpan4)
    { net with fabric := { net.fabric with cadence := 8 } })
    (fun t => decide (t.laneEast.pendingKeys = [] ∧ t.laneWest.pendingKeys = [9] ∧ t.planner.phase = .gathering ∧
      t.fabric.cadence = 1 ∧ t.planner.snapshot[4]? = some { cond := .unusable, delay := 0 })) = true := by decide +kernel

/-- R73: own key 2 at epoch 97 against 1: the own epoch becomes 98 with the content kept, marked on both lanes. -/
theorem test_own_epoch_adoption : after (exec (.spanReport .east
    { span := 1, spanEnd := .lower, state := .failed, cause := .lineFail, epoch := 97 }) net)
    (fun t => decide (t.map.ownEast = { clearReport with epoch := 98 } ∧ t.laneEast.pendingKeys = [2] ∧
      t.laneWest.pendingKeys = [2])) = true := by decide +kernel

def confirm4 : PathConfirm :=
  { handle := 12, check := recordCheck (recordCode 12 plan12), sender := 4, target := 1, heard := false, hops := 3 }

/-- The small ring with record 12 on its detour. -/
def netDetour (x : Exchange) : State := netWith { rec12 with outcome := .detour, exchange := x }

def awaiting : Exchange := { Exchange.idle with state := .awaiting, attempts := 1, sending := true, timer := some 5 }

/-- R144 to R146: a confirm taken in Awaiting gives Restored and a reply on the West lane. R75: one for node 7 is forwarded
with one hop less, and dropped at one hop. -/
theorem test_confirm_taken : after (exec (.pathConfirm .west confirm4) (netDetour awaiting)) (fun t =>
    decide ((t.record 12).exchange.state = .restored ∧ (t.record 12).exchange.heardTheirs = true ∧
      t.store.changed = [12] ∧ t.laneWest.queue = [{ confirm4 with sender := 1, target := 4, heard := true, hops := 8 }])) =
    true := by decide +kernel

theorem test_confirm_forwarded : after (exec (.pathConfirm .west { confirm4 with target := 7 }) net) (fun t =>
    decide (t.laneEast.queue = [{ confirm4 with target := 7, hops := 2 }])) = true ∧
    after (exec (.pathConfirm .west { confirm4 with target := 7, hops := 1 }) net) (fun t =>
      decide (t.laneEast.queue = [])) = true := by decide +kernel

/-- R32: the join timer's expiry enters Syncing and starts a sweep. -/
theorem test_join_expiry : after (exec .joinTimerExpiry
    { netConf with node := { netConf.node with state := .joining, joinTimer := some 0 } })
    (fun t => decide (t.node.state = .syncing ∧ t.planner.phase = .gathering)) = true := by decide +kernel

/-- The small ring gathering, with span 2 of record 12's working arc Unusable in the snapshot and delays of 3 ms. -/
def netSweep : State :=
  { net with
    planner := { Planner.reset with
      phase := .gathering, gatherPos := 12,
      snapshot := (List.range 8).map fun k => { cond := if k = 2 then .unusable else .good, delay := 3000 } } }

/-- R96, R101: record 12's detour of 5 spans sums to 15000 µs, which passes its ceiling of 15000: class 5, pass a. -/
theorem test_gather : after (exec .gatherHandle netSweep) (fun t => decide (t.planner.buffer =
    [{ handle := 12, plan := plan12, verdict := .forClass 5 .a }] ∧ t.planner.gatherPos = 13)) = true := by decide +kernel

/-- R101: with a ceiling of 14999 the detour is over delay, and the record is Suppressed. -/
theorem test_over_delay : evaluate netSweep.planner.snapshot 8 { plan12 with ceiling := some 14999 } =
    .settled .suppressed .overDelay := by decide

def sweepAt (phase : Phase) (v : Verdict) : State :=
  { netSweep with
    planner := { netSweep.planner with phase := phase, buffer := [{ handle := 12, plan := plan12, verdict := v }] } }

/-- R104: the grant takes slot 9 on spans 0, 7, 6, 5 and 4. -/
theorem test_class_pass : after (exec .classPassEntry (sweepAt (.classPass 7 .a) (.forClass 5 .a))) (fun t =>
    decide ((List.range 8).map (fun k => grantAt t.planner.nextGrants k 9) =
      [some 12, none, none, none, some 12, some 12, some 12, some 12])) = true := by decide +kernel

/-- R106: an Extra record in slot 9 over span 4 gives way to the grant. -/
theorem test_extra_pass : after (exec .extraPassEntry
    { sweepAt .extraPass .forExtra with
      planner := { (sweepAt .extraPass .forExtra).planner with
        nextGrants := [(4 * 64 + 9, some 30)],
        buffer := [{ handle := 12, plan := { plan12 with kind := .extra, endA := 4, endB := 5, workSlot := 9 },
                     verdict := .forExtra }] } })
    (fun t => decide (t.planner.buffer.map (fun e => e.verdict) = [.settled .preempted .outranked])) = true := by
  decide +kernel

/-- R108, R122, R125, R139: at End A the detour writes Void on East slot 40 and Local 22 on West protection slot 9 (entry
457); the Void is sent first. -/
theorem test_commit : after (exec .sweepCommit (sweepAt .extraPass (.settled .detour .none))) (fun t =>
    decide ((t.record 12).outcome = .detour ∧ (t.record 12).exchange.state = .pending ∧ t.store.changed = [12] ∧
      t.planner.commitNumber = 1 ∧ (t.entry 40).desired = .void ∧ (t.entry 457).desired = .localPort 22 ∧
      (t.entry 40).status = .inFlight ∧ (t.entry 457).status = .dirty ∧ (t.record 12).conn = .applying ∧
      t.fabric.tx = closeFrame [0x11, 1, 0, 40, 3, 0, 0xFF, 0])) = true := by decide +kernel

def sent (i : Nat) (v : ConnValue) (attempt : Nat) (reassert : Bool) : Command :=
  { entry := i, value := v, prior := none, tag := 1, attempt := attempt, reassert := reassert }

/-- The small ring on the detour, with the Local on entry 457 in flight. -/
def netSending : State :=
  { netDetour { Exchange.idle with state := .pending } with
    fabric := { net.fabric with
      entries := [(40, { desired := .void, last := some .void, status := .applied }),
        (457, { desired := .localPort 22, last := none, status := .inFlight })],
      outstanding := some (sent 457 (.localPort 22) 1 false), responseTimer := some 2000, tagCounter := 1 } }

/-- R128, R141: the Done applies the entry; the record enters Awaiting and its first attempt is queued West. -/
theorem test_done : after (exec (.fabricDone 1 false) netSending) (fun t =>
    decide (t.entry 457 = { desired := .localPort 22, last := some (.localPort 22), status := .applied } ∧
      (t.record 12).exchange.state = .awaiting ∧ t.laneWest.queue.length = 1 ∧ (t.record 12).conn = .settled ∧
      t.fabric.outstanding = none)) = true := by decide +kernel

/-- R130: a Refused fails the entry and raises Fabric Fault (cause 1) beside Records Changed (cause 8). -/
theorem test_refused : after (exec (.fabricRefused 1) netSending) (fun t =>
    decide (t.entry 457 = { desired := .localPort 22, last := none, status := .failed } ∧ t.attn.pending = 0x81 ∧
      (t.record 12).conn = .fault)) = true := by decide +kernel

/-- R131: the first time-out sends the command again with tag 2. R127: the first answer is then discarded. -/
theorem test_response_timeout : after (exec .responseTimerExpiry netSending) (fun t =>
    decide (t.fabric.outstanding = some { sent 457 (.localPort 22) 2 false with tag := 2 }) &&
      after (exec (.fabricDone 1 false) t) fun u => decide (u = t)) = true := by decide +kernel

/-- R133, R134: the request is served with the entry at the pointer. -/
theorem test_reassertion : after (exec .reassertionTimerExpiry
    { net with fabric := { net.fabric with pointer := 511, tagCounter := 255 } })
    (fun t => decide (t.fabric.outstanding = some { sent 511 .idle 1 true with tag := 0 } ∧
      t.fabric.reassertTimer = some 20000)) = true := by decide +kernel

/-- R147: attempt 8 is sent at the expiry after attempt 7. R148: the next expiry gives Unconfirmed and cause 3. -/
theorem test_confirm_timer : after (exec (.confirmTimerExpiry 12) (netDetour { awaiting with attempts := 7 })) (fun t =>
    decide ((t.record 12).exchange.attempts = 8 ∧ t.laneWest.queue.length = 1)) = true ∧
    after (exec (.confirmTimerExpiry 12) (netDetour { awaiting with attempts := 8 })) (fun t =>
      decide ((t.record 12).exchange.state = .unconfirmed ∧ t.attn.pending = 0x21)) = true := by decide +kernel

/-! Requests -/

/-- R26: INVALID_FIELD for N = 2; R162: the failing handle where record 12's end 4 is not below N = 4. -/
theorem test_set_ring : answered (exec (.setRing 1 77 2 1) netConf) = some (.invalidField, []) ∧
    answered (exec (.setRing 1 77 4 1) netConf) = some (.invalidField, [0, 12]) := by decide +kernel

/-- R29, R162: the example of 125 ms. -/
theorem test_set_timers : answered (exec (.setTimers 1 125 300 50 20 1) net) =
    some (.clamped, [0, 120, 1, 44, 0, 50, 0, 20, 0, 1]) := by decide +kernel

/-- R35: a Stop in Running; the own reports are Halted and the epochs count. -/
theorem test_stop : after (exec (.stop 1) net) (fun t => decide (t.node.state = .configuring ∧
    t.map.ownEast = { content := Content.halted, epoch := 2 } ∧ t.fabric.reassertTimer = none ∧
    t.planner.phase = .idle)) = true := by decide +kernel

/-- R32: with both lanes Up and both exchanges complete, Start passes through Joining to Syncing in one event. -/
theorem test_start : answered (exec (.start 1) netConf) = some (.ok, [2]) := by decide +kernel

/-- 1.4, worked example: 848 at handle 311 and 0x3A51C7 at handle 12 share bucket 848. -/
theorem test_stage : after (exec (.stageRecord 1 311 { img12 with handle := 311, circuit := 848 }) net) (fun t =>
    decide (t.bucket 848 = [12, 311] ∧ (t.record 311).lifecycle = .staged ∧ t.store.digest = net.store.digest)) = true ∧
    answered (exec (.findCircuit 1 0x3A51C7) net) = some (.ok, [0, 12, 2]) := by decide +kernel

/-- R9: the image names another handle; R9: the circuit number is held by record 12. -/
theorem test_stage_refused : (answered (exec (.stageRecord 1 311 img12) net)).map Prod.fst = some .invalidField ∧
    (answered (exec (.stageRecord 1 311 { img12 with handle := 311 }) net)).map Prod.fst = some .labelClash := by
  decide +kernel

/-- R13, R19: the activation adds the code and starts a sweep. R15: a Retire in Running leaves the digest. -/
theorem test_activate : after (exec (.activateRecord 1 12) (netWith { rec12 with lifecycle := .staged })) (fun t =>
    decide ((t.record 12).lifecycle = .active ∧ t.planner.phase = .gathering ∧
      t.store.digest = net.store.digest + rec12.code)) = true := by decide +kernel

theorem test_retire : after (exec (.retireRecord 1 12) net) (fun t => decide ((t.record 12).lifecycle = .retiring ∧
    t.store.digest = net.store.digest)) = true ∧
    after (exec (.retireRecord 1 12) netConf) (fun t => decide (t.record 12 = Record.free ∧
      t.store.digest = RecordStore.reset.digest)) = true := by decide +kernel

/-- R164: Next Changed returns the lowest handle and removes it; an empty set answers NOT_FOUND. -/
theorem test_next_changed : after (exec (.nextChanged 1) { net with store := { net.store with changed := [12, 40] } })
    (fun t => decide (t.store.changed = [40])) = true ∧
    answered (exec (.nextChanged 1) net) = some (.notFound, []) := by decide +kernel

/-- R22: an image that fails halts the Stream at its handle and raises Stream Finished (cause 7). -/
theorem test_stream_halts : after (exec (.streamChunk 1 [{ img12 with circuit := 0 }])
    { net with
      store := { net.store with
        stream := { Stream.closed with state := .opened, first := 20, count := 3, remaining := 2 } } })
    (fun t => decide (t.store.stream.halt = some { handle := 21, reason := .invalidField, status := none } ∧
      t.attn.pending = 0x02)) = true := by decide +kernel

/-- R52, R53: the flag is set and the report is ForcedOut, Forced. -/
theorem test_force : answered (exec (.forceSpan 1 1) net) = some (.ok, [3, 3]) ∧
    answered (exec (.forceSpan 1 2) net) = some (.invalidField, []) := by decide +kernel

/-- R167, R172: cause 1 masked, causes 4 and 8 pending: cause 4 is latched; acknowledging it empties the latch. -/
def calling : Attention := { pending := 0x91, mask := 0x7F, latch := none, asserted := true }

theorem test_summary : answered (exec (.readSummary 1) { net with attn := calling }) = some (.ok, [4, 0x91, 0x7F, 1]) := by
  decide +kernel

theorem test_acknowledge :
    answered (exec (.acknowledgeCause 1 4) { net with attn := { calling with latch := some .spanMapChange } }) =
      some (.ok, [0x81, 0xFF]) := by decide +kernel

/-- R171: enabling cause 1, which is pending, asserts ATTN_N. -/
theorem test_mask : after (exec (.setAttentionMask 1 0x80) { net with attn := { calling with asserted := false } })
    (fun t => decide (t.attn.asserted = true ∧ t.attn.pending = 0x91)) = true := by decide +kernel

def held (data : List Byte) : Response := { tag := 7, status := .ok, collision := false, data := data }

/-- The small ring with a response held. -/
def netHeld (armed : Bool) : State :=
  { net with port := { Port.reset with state := .answered, holder := some (held []), softResetArmed := armed } }

/-- R159, R179: 55 of 56 bits leave the response; a read in Ready gives the 6 bytes of NOT_READY. -/
theorem test_read : after (exec (.readTransaction 55) (netHeld false)) (fun t => decide (t.port.state = .answered ∧
    t.port.output.frame = closeFrame [0, 7, 7, 0, 0])) = true ∧
    after (exec (.readTransaction 48) net) (fun t => decide (t.port.output.frame = closeFrame [0, 6, 0x30, 0])) = true := by
  decide +kernel

/-- R36: the soft reset takes effect when the response has been read whole. -/
theorem test_soft_reset : after (exec (.readTransaction 56) (netHeld true)) (fun t => decide (t.node.state = .configuring ∧
    t.node.ringId = 77 ∧ (t.record 12).lifecycle = .active ∧ t.store.digest = net.store.digest ∧
    t.laneEast.greetTimer = some 10000 ∧ t.port.state = .ready)) = true := by decide +kernel

/-- R158: a request in Working is lost; the placed response carries the Collision flag. -/
theorem test_collision : after (exec .requestDiscarded
    { net with port := { net.port with state := .working, inHand := some { request := .readNode 7, response := held [] } } })
    (fun t => after (exec .responsePlaced t) (fun u => decide (u.port.state = .answered ∧
      u.port.holder = some { held [] with collision := true }))) = true := by decide +kernel

/-- R157: a frame of 5 bytes of which 4 were clocked is answered BAD_FRAME with its tag. -/
theorem test_bad_frame : after (exec (.badFrame [5, 0x10, 9, 0]) net) (fun t => decide (t.port.inHand.map (fun x =>
    (x.response.tag, x.response.status)) = some (9, .badFrame))) = true := by decide +kernel

/-! ### States that meet the hypotheses of the statements

Each theorem names its statement after `witness_`. A state that differs from `net` only in fields that a hypothesis does not
read meets it by the lemma for `net`. -/

/-- The small ring with a frame slot waiting; every invariant of a step is shown on it or on a variant of it. -/
def netFront (s : State) : State := { s with pending := [.frameSlot] }

theorem witness_StepRunsFrontCommand : (netFront net).pending = .frameSlot :: [] := rfl

theorem witness_SoftResetKeepsTableClearsRuntime : TablesCanonical (netHeld true) ∧ (netHeld true).port.state = .answered ∧
    (netHeld true).port.holder = some (held []) ∧ (netHeld true).port.softResetArmed = true ∧
    8 * ((held []).data.length + 7) ≤ 56 := ⟨net_tables, rfl, rfl, rfl, by decide⟩

/-- Fabric Fault pending and latched. -/
def netCalling : State :=
  { net with attn := { pending := 0x80, mask := 0x80, latch := some .fabricFault, asserted := true } }

theorem witness_StepKeepsAttentionPin : AttentionSound (netFront netCalling) ∧ ∃ t, step (netFront netCalling) = .next t :=
  ⟨⟨by decide, fun _ h => by cases h; decide⟩, _, rfl⟩

theorem witness_StepKeepsCanonicalTables : TablesCanonical (netFront net) ∧ ∃ t, step (netFront net) = .next t :=
  ⟨net_tables, _, rfl⟩

/-- The small ring with an Open Stream of `count` images that ends at handle 4095. -/
def netStream (remaining count : Nat) (activate : Bool) : State :=
  { net with
    store := { net.store with
      stream := { Stream.closed with
        state := .opened, first := 4096 - count, count := count, remaining := remaining, activate := activate } } }

/-- The small ring in its class passes, with record 12 a candidate of class 5 and every span Good in the snapshot. -/
def netPlanned : State :=
  { net with
    planner := { Planner.reset with
      phase := .classPass 5 .a, gatherPos := 4096, snapshot := List.replicate 8 { cond := .good, delay := 3000 },
      buffer := [{ handle := 12, plan := plan12, verdict := .forClass 5 .a }] } }

/-- The limits of the abandon count and the integrator, a Stream at the last handle, and a sweep with an entry. -/
theorem witness_StepKeepsCountsInRange :
    (netFront { net with planner := { net.planner with abandonCount := 4 } }).planner.abandonCount ≤ 4 ∧
    (∀ d, ((netFront net).mon d).degradeInRange) ∧ (errored 16777215 .degraded).degradeInRange ∧
    StreamSound (netFront (netStream 1 1 true)) ∧ (netStream 1 1 true).store.stream.state = .opened ∧
    TablesCanonical (netFront (netStream 1 1 true)) ∧ HandlesSound (netFront (netStream 1 1 true)) ∧
    PlanSound (netFront netPlanned) ∧ netPlanned.planner.buffer ≠ [] ∧
    ∀ s, ∃ t, step (netFront s) = .next t := by
  have open1 : StreamSound (netFront (netStream 1 1 true)) := by unfold StreamSound; decide
  refine ⟨by decide, by intro d; cases d <;> (unfold Monitor.degradeInRange; decide), by unfold Monitor.degradeInRange; decide,
    open1, rfl, net_tables, ⟨open1, fun h hh => ?_⟩, by unfold PlanSound; decide, by decide, fun _ => ⟨_, rfl⟩⟩
  exact (record_netWith rec12 h).trans (if_neg (by omega))

theorem net_lanes (d : Side) : (net.lane d).sound := by cases d <;> (unfold Lane.sound; decide)

theorem net_node : NodeSound net := by unfold NodeSound; decide

theorem witness_StepKeepsLanes : NodeSound (netFront net) ∧ (∀ d, ((netFront net).lane d).sound) ∧
    ∃ t, step (netFront net) = .next t := ⟨net_node, net_lanes, _, rfl⟩

theorem witness_StepKeepsMonitors : (∀ d, MonitorSound (netFront net) d) ∧ ∃ t, step (netFront net) = .next t :=
  ⟨net_monitor, _, rfl⟩

theorem witness_StepKeepsNodeAndTimers : NodeSound (netFront net) ∧ ∃ t, step (netFront net) = .next t :=
  ⟨net_node, _, rfl⟩

theorem witness_StepKeepsOwnReports : OwnComposed (netFront net) ∧ ∃ t, step (netFront net) = .next t := ⟨net_own, _, rfl⟩

theorem witness_StepKeepsEffectiveStates : TablesCanonical (netFront net) ∧ SpansWorkedOut (netFront net) ∧
    ∃ t, step (netFront net) = .next t := ⟨net_tables, net_spans, _, rfl⟩

/-- One record in use, in its bucket, makes a sound Label Index. -/
theorem labels_of_one (s : State) (r : Record) (hr : s.store.records = [(12, r)])
    (hb : s.store.labelIndex = [(bucketOf r.plan.circuit, [12])]) (hl : r.lifecycle ≠ .free) : LabelsSound s := by
  have look (h : Nat) : s.record h = if 12 = h then r else Record.free := by simp [State.record, hr, Table.get]
  have use (h : Nat) : s.inUse h ↔ 12 = h := by
    unfold State.inUse; rw [look]; split
    · next e => simp [e, hl]
    · next e => simp [e, Record.free]
  have buck (b : Nat) : s.bucket b = if bucketOf r.plan.circuit = b then [12] else [] := by
    simp [State.bucket, hb, Table.get]
  refine ⟨fun b => ?_, fun b h => ?_, fun h k hk => ?_⟩
  · rw [buck]; split <;> rfl
  · rw [buck, use, look]
    by_cases e : 12 = h
    · subst e; by_cases f : bucketOf r.plan.circuit = b <;> simp [f]
    · by_cases f : bucketOf r.plan.circuit = b <;> simp [e, f, Ne.symm e]
  · rw [use, use]; rintro rfl rfl; exact absurd rfl hk

theorem net_labels : LabelsSound net := labels_of_one net rec12 rfl (by decide) (by decide)

theorem witness_StepKeepsLabels : TablesCanonical (netFront net) ∧ LabelsSound (netFront net) ∧
    ∃ t, step (netFront net) = .next t := ⟨net_tables, net_labels, _, rfl⟩

theorem net_active (h : Nat) : (net.record h).lifecycle = .active → 12 = h := by
  show (if 12 = h then rec12 else Record.free).lifecycle = .active → 12 = h
  split
  · next e => exact fun _ => e
  · intro f; cases f

theorem witness_StepKeepsActiveApart : TablesCanonical (netFront net) ∧ ActiveSound (netFront net) ∧
    ∃ t, step (netFront net) = .next t :=
  ⟨net_tables, fun _ _ hk h1 h2 => absurd ((net_active _ h1).symm.trans (net_active _ h2)) hk, _, rfl⟩

theorem net_codes : CodesSound net := by
  intro h
  show ((if 12 = h then rec12 else Record.free).lifecycle = .free → (if 12 = h then rec12 else Record.free) = Record.free) ∧
    ((if 12 = h then rec12 else Record.free).lifecycle ≠ .free → (if 12 = h then rec12 else Record.free).code =
      recordCode h (if 12 = h then rec12 else Record.free).plan)
  split
  · next e => subst e; exact ⟨(fun f => by cases f), fun _ => rfl⟩
  · exact ⟨fun _ => rfl, fun f => absurd rfl f⟩

theorem net_digest : DigestSound net := by unfold DigestSound; decide +kernel

theorem net_comparisons : ComparisonsSound net := by
  intro d
  have same : (net.lane d).differs = false ∧ (net.lane d).neighbour = none := by cases d <;> exact ⟨rfl, rfl⟩
  rw [same.1, same.2]; simp

theorem witness_StepKeepsCodesAndDigest : TablesCanonical (netFront net) ∧ CodesSound (netFront net) ∧
    DigestSound (netFront net) ∧ ComparisonsSound (netFront net) ∧ ∃ t, step (netFront net) = .next t :=
  ⟨net_tables, net_codes, net_digest, net_comparisons, _, rfl⟩

theorem net_protSlots (h : Nat) : (net.record h).plan.protSlot.getD 0 < 64 := by
  show (if 12 = h then rec12 else Record.free).plan.protSlot.getD 0 < 64
  split <;> decide

theorem witness_StepKeepsGrantsWhole : TablesCanonical (netFront netPlanned) ∧ GrantsSound (netFront netPlanned) ∧
    DetoursSound (netFront netPlanned) ∧ ∃ t, step (netFront netPlanned) = .next t := by
  refine ⟨net_tables, ⟨net_protSlots, by decide, fun span slot h _ => ?_⟩, fun e he _ => ?_, _, rfl⟩
  · constructor
    · intro f; cases f
    · rintro ⟨e, he, _, f, _⟩
      have : e = { handle := 12, plan := plan12, verdict := .forClass 5 .a } := by simpa [netPlanned, netFront] using he
      subst this; cases f
  · have : e = { handle := 12, plan := plan12, verdict := .forClass 5 .a } := by simpa [netPlanned, netFront] using he
    subst this
    exact ⟨by decide, fun c hc => by cases hc; decide⟩

theorem entry_netSending (i : Nat) : netSending.entry i =
    if 40 = i then { desired := .void, last := some .void, status := .applied }
    else if 457 = i then { desired := .localPort 22, last := none, status := .inFlight } else Entry.untouched := rfl

theorem sending_tables : TablesCanonical netSending := by unfold TablesCanonical; decide +kernel

theorem witness_StepKeepsFabric : TablesCanonical (netFront netSending) ∧ FabricSound (netFront netSending) ∧
    PortsConfirmedOnce (netFront netSending) ∧ ∃ t, step (netFront netSending) = .next t := by
  refine ⟨sending_tables, ⟨by decide, fun i => ?_, ?_, fun i hi => ?_, by decide, by decide⟩, fun i j q hi _ => ?_, _, rfl⟩
  · change (netSending.entry i).status = .inFlight ↔ ∃ c, some (sent 457 (.localPort 22) 1 false) = some c ∧ c.entry = i ∧
      c.reassert = false
    rw [entry_netSending]
    constructor
    · intro h
      split at h
      · cases h
      · split at h
        · next e => exact ⟨_, rfl, e, rfl⟩
        · cases h
    · rintro ⟨c, hc, rfl, _⟩; cases hc; rfl
  · intro c hc; cases hc; decide
  · change netSending.entry i = _
    rw [entry_netSending, if_neg (by omega), if_neg (by omega)]
  · change (netSending.entry i).last = _ at hi
    rw [entry_netSending] at hi
    split at hi
    · cases hi
    · split at hi <;> cases hi

theorem net_tables_detour (x : Exchange) : TablesCanonical (netDetour x) := 
  ⟨by simp [netDetour, netWith, Table.wf, Table.keys, rising, rec12, Record.free], rfl, rfl, rfl, rfl, rfl, rfl, rfl⟩

/-- In a small ring with record 12 alone, on its detour and Awaiting, the exchanges are sound. -/
theorem exchanges_of_detour (s : State) (hr : s.store = (netDetour awaiting).store) (hn : s.node.ringSize = 8)
    (ho : s.node.own = 1) : ExchangesSound s := by
  intro h
  have look : s.record h = if 12 = h then { rec12 with outcome := .detour, exchange := awaiting } else Record.free := by
    simp only [State.record, hr]; rfl
  simp only [State.endRole, look, hn, ho]
  by_cases e : 12 = h
  · subst e; exact ⟨fun _ => ⟨rfl, by decide⟩, by decide, fun f => by rcases f with f | f <;> cases f⟩
  · simp [e, Record.free, Exchange.idle]

theorem witness_StepKeepsExchanges : TablesCanonical (netFront (netDetour awaiting)) ∧
    ExchangesSound (netFront (netDetour awaiting)) ∧ ∃ t, step (netFront (netDetour awaiting)) = .next t :=
  ⟨net_tables_detour awaiting, exchanges_of_detour _ rfl rfl rfl, _, rfl⟩

/-! Frames and the port -/

theorem witness_RequestsDecodeAsEncoded : [Instr.setRing 255 65535 255 255, .setTimers 0 65535 65535 65535 65535 255,
    .stageRecord 1 65535 img12, .streamChunk 2 (List.replicate 13 img12), .findCircuit 0 16777215].all (fun i =>
      isRequest i && wellFormed i) = true := by decide

theorem witness_LaneAndLinkFramesDecodeAsSent :
    greetingInRange { greetingEast with ringId := 65535, sender := 23, ringSize := 24 } = true ∧
    greetingInRange { greetingEast with ringId := 1, sender := 0, ringSize := 3 } = true ∧
    spanReportInRange { failedSpan4 with span := 23 } = true ∧
    confirmInRange { confirm4 with handle := 4095, sender := 23, target := 23, hops := 0 } = true := by decide

def netWorking : State :=
  { net with port := { net.port with state := .working, inHand := some { request := .readNode 7, response := held [] } } }

theorem witness_WorkingPortDiscardsAndPlaces : netWorking.port.state = .working ∧ isRequest (.readNode 7) = true ∧
    netWorking.port.inHand = some { request := .readNode 7, response := held [] } ∧ net.port.state ≠ .working ∧
    ∃ t, exec (.readNode 7) net = .next t := ⟨rfl, rfl, rfl, by decide, _, rfl⟩

/-- R155: MP_DO carries 0x00 throughout a request, whatever the last read left. -/
theorem test_request_silences_pin : after (exec (.readNode 7) { net with
    port := { net.port with output := { frame := [0xFF, 0xFF], bits := 16 } } }) (fun t =>
    decide (t.port.output.frame = []) && !t.port.output.bit 0) = true := by decide +kernel

theorem witness_ReadsEmptyHolderOnlyWhenWhole : net.port.state ≠ .answered ∧ (netHeld false).port.state = .answered ∧
    (netHeld false).port.holder = some (held []) ∧ 55 < 8 * ((held []).data.length + 7) ∧
    8 * ((held []).data.length + 7) ≤ 56 ∧ (netHeld false).port.softResetArmed = false ∧
    (∃ t, exec (.readTransaction 56) (netHeld false) = .next t) ∧
    ((held []).frame (netHeld false).attn.calls)[1]? = some 7 :=
  ⟨by decide, by decide, by decide, by decide, by decide, by decide, ⟨_, rfl⟩, by decide +kernel⟩

theorem witness_ArmedSoftResetComesFirst : (netHeld true).port.state = .answered ∧
    (netHeld true).port.softResetArmed = true ∧ isRequest (.readNode 7) = true := ⟨rfl, rfl, rfl⟩

theorem witness_MalformedFramesAreAnswered : Accepts net := net_accepts

theorem witness_ReadRequestsChangeOnlyThePort : Accepts (netHeld false) ∧ 4095 < 4096 ∧ 23 ≤ 23 ∧ 511 ≤ 511 ∧ 511 + 1 ≤ 512 ∧
    496 + 16 ≤ 512 := ⟨by unfold Accepts; decide, by decide⟩

/-- The state `s` with the records 12 and 20. -/
def withPair (s : State) (r : Record) : State := { s with store := { s.store with records := [(12, rec12), (20, r)] } }

/-- A record 20 beside record 12: node 1 is its End A, with a circuit number of its own. -/
def rec20 (l : Lifecycle) (slot : Nat) (port : Byte) : Record :=
  let plan : Planning := { plan12 with circuit := 848, endB := 3, workSlot := slot }
  { Record.free with lifecycle := l, plan := plan, port := some port, code := recordCode 20 plan }

theorem record_pair (s : State) (r : Record) (h : Nat) :
    (withPair s r).record h = if 12 = h then rec12 else if 20 = h then r else Record.free := rfl

/-- Of the records 12 and 20, what fails for both and for a Free one fails for every record. -/
theorem pair_all (s : State) (r : Record) (f : Nat → Record → Prop) (h12 : f 12 rec12) (h20 : f 20 r)
    (hf : ∀ k, f k Record.free) (k : Nat) : f k ((withPair s r).record k) := by
  rw [record_pair]; split
  · next e => exact e ▸ h12
  · split
    · next e => exact e ▸ h20
    · exact hf k

/-- A request that is refused, and the conditions on operands, on the node and on one record. -/
theorem witness_RefusedRequestsChangeNothing :
    (∃ t x, isRequest (.setSpanDelay 5 24 0) = true ∧
      (∀ tag images, Instr.setSpanDelay 5 24 0 ≠ .streamChunk tag images) ∧ Accepts net ∧
      exec (.setSpanDelay 5 24 0) net = .next t ∧ t.port.inHand = some x ∧ x.response.status ≠ .ok ∧
      x.response.status ≠ .clamped) ∧
    (Accepts netConf ∧ net.node.state ≠ .configuring ∧ netConf.node.state = .configuring ∧
      State.reset.node.ringId = 0 ∧ 8 ≤ 8 ∧ 2 ≤ 2 ∧ 23 < 24 ∧ 512 < 497 + 16 ∧ net.store.stream.state ≠ .opened ∧
      4096 < 1 + 4096 ∧ 4095 < 4096) ∧
    ((net.record 4095).lifecycle = .free ∧ (net.record 12).lifecycle = .active ∧
      (let s := withPair { net with node := { net.node with ringSize := 3 } } (rec20 .staged 40 9)
       (s.record 20).lifecycle = .staged ∧ ¬ (s.record 20).plan.endB < s.node.ringSize)) ∧
    ImageFits { img12 with circuit := 16777215, endB := 23, workSlot := 191, ceiling := 2000000 } ∧
    ¬ ImageFits { img12 with circuit := 0 } ∧ { img12 with handle := 4095 }.handle ≠ 12 := by
  refine ⟨⟨_, _, rfl, (fun _ _ h => by cases h), net_accepts, rfl, rfl, by decide, by decide⟩, ⟨net_accepts, by decide⟩,
    by decide, by unfold ImageFits; decide, by unfold ImageFits; decide, by decide⟩

/-- The comparisons of records: a Set Ring to N = 4, which End B of record 12 does not fit, and one with two Active records in
one slot; a Stage with the circuit number of record 12; an Activate with its slot, and with its port; an Amend with another
handle, and with its port. -/
theorem witness_RefusedRequestsCompareRecords :
    (Accepts netConf ∧ TablesCanonical netConf ∧ (netConf.record 12).lifecycle = .active ∧
      ¬ (netConf.record 12).plan.endB < 4 ∧ ∀ k, k < 12 → (netConf.record k).lifecycle = .free) ∧
    (let s := withPair netConf (rec20 .active 40 9)
     TablesCanonical s ∧ (∀ k, k < 12 → (s.record k).lifecycle = .free) ∧
       slotClash 8 (s.record 20).plan (s.record 12).plan = true ∧
       ∀ k, (s.record k).lifecycle = .free ∨ ((s.record k).plan.endA < 8 ∧ (s.record k).plan.endB < 8 ∧
         ((s.record k).port.isSome = true ↔ 1 = (s.record k).plan.endA ∨ 1 = (s.record k).plan.endB))) ∧
    (LabelsSound net ∧ TablesCanonical net ∧ (net.record 4095).lifecycle = .free ∧
      ImageFits { img12 with handle := 4095 } ∧ net.inUse 12 ∧ (net.record 12).plan.circuit = img12.circuit) ∧
    (let s := withPair net (rec20 .staged 40 9)
     Accepts s ∧ TablesCanonical s ∧ IsLowest (fun k => k ≠ 20 ∧ (s.record k).lifecycle = .active ∧
       slotClash s.node.ringSize (s.record k).plan (s.record 20).plan = true) 12) ∧
    (let s := withPair net (rec20 .staged 41 22)
     (∀ k, ¬ (k ≠ 20 ∧ (s.record k).lifecycle = .active ∧
       slotClash s.node.ringSize (s.record k).plan (s.record 20).plan = true)) ∧
     IsLowest (fun k => k ≠ 20 ∧ (s.record k).lifecycle = .active ∧ (s.record 20).port ≠ none ∧
       (s.record k).port = (s.record 20).port) 12) ∧
    (let s := withPair net (rec20 .active 41 9)
     let i := { img12 with handle := 20, circuit := 848, endB := 3, workSlot := 41 }
     imagePlanning i = some (s.record 20).plan ∧ imagePort i = (s.record 12).port ∧ imagePort i ≠ none ∧ i.handle ≠ 12 ∧
       ((imagePort i).isSome = true ↔ s.node.own = (s.record 20).plan.endA ∨ s.node.own = (s.record 20).plan.endB)) := by
  refine ⟨⟨net_accepts, by unfold TablesCanonical; decide +kernel, by decide, by decide, by decide⟩,
    ⟨by unfold TablesCanonical; decide +kernel, by decide, by decide, fun k => ?_⟩,
    ⟨net_labels, net_tables, by decide, by unfold ImageFits; decide, by unfold State.inUse; decide, by decide⟩,
    ⟨net_accepts, by unfold TablesCanonical; decide +kernel, by unfold IsLowest; decide⟩,
    ⟨fun k => ?_, by unfold IsLowest; decide⟩, by decide⟩
  · exact pair_all netConf _ (fun _ r => r.lifecycle = .free ∨ (r.plan.endA < 8 ∧ r.plan.endB < 8 ∧
      (r.port.isSome = true ↔ 1 = r.plan.endA ∨ 1 = r.plan.endB))) (by decide) (by decide) (fun _ => .inl rfl) k
  · exact pair_all net _ (fun k r => ¬ (k ≠ 20 ∧ r.lifecycle = .active ∧
      slotClash 8 r.plan (rec20 .staged 41 22).plan = true)) (by decide) (by decide) (fun _ h => by cases h.2.1) k

/-! Node requests -/

theorem witness_SettingsAreTakenClamped : Accepts net := net_accepts

theorem witness_SpanDelayEntersDigestAndPlan : Accepts net ∧ 23 ≤ 23 ∧ (0 : BitVec 16) = Table.get 0 net.map.delays 23 ∧
    (65535 : BitVec 16) ≠ Table.get 0 net.map.delays 23 := ⟨net_accepts, by decide⟩

theorem conf_active (h : Nat) (f : (netConf.record h).lifecycle = .active ∨ (netConf.record h).lifecycle = .retiring) :
    12 = h := by
  change (if 12 = h then rec12 else Record.free).lifecycle = .active ∨
    (if 12 = h then rec12 else Record.free).lifecycle = .retiring at f
  split at f
  · next e => exact e
  · rcases f with f | f <;> cases f

/-- Node 1 moves from a ring of 8 to a ring of 24, without a record on a detour and with one. -/
theorem witness_SetRingEmptiesPlanAndMap : Accepts netConf ∧ TablesCanonical netConf ∧ OwnComposed netConf ∧
    netConf.node.state = .configuring ∧ 24 ≤ 24 ∧ 1 < 24 ∧
    (∀ h, (netConf.record h).lifecycle = .active ∨ (netConf.record h).lifecycle = .retiring →
      (netConf.record h).plan.endsFit 24 = true ∧ portPresenceOk (netConf.record h).plan (netConf.record h).port 1 = true) ∧
    (∀ h k, h ≠ k → (netConf.record h).lifecycle = .active → (netConf.record k).lifecycle = .active →
      slotClash 24 (netConf.record h).plan (netConf.record k).plan = false) ∧
    ¬ (77 = netConf.node.ringId ∧ 24 = netConf.node.ringSize ∧ 1 = netConf.node.own) ∧
    (let s := { netConf with store := (netDetour awaiting).store }
     TablesCanonical s ∧ ExchangesSound s ∧ s.endRole 12 = some .endA ∧ (s.record 12).outcome = .detour) := by
  refine ⟨net_accepts, by unfold TablesCanonical; decide +kernel, by unfold OwnComposed; decide, rfl, by decide, by decide,
    fun h f => ?_, fun h k hk f g => ?_, by decide,
    by unfold TablesCanonical; decide +kernel, exchanges_of_detour _ rfl rfl rfl, by decide, by decide⟩
  · cases conf_active h f; decide
  · exact absurd ((conf_active h (.inl f)).symm.trans (conf_active k (.inl g))) hk

/-- With no entry written and no command outstanding the Fabric Driver is sound. -/
theorem fabric_quiet (s : State) (he : s.fabric.entries = []) (ho : s.fabric.outstanding = none)
    (hr : s.fabric.responseTimer = none) (hp : s.fabric.pointer = 0) (hc : s.fabric.cadence = 1) : FabricSound s := by
  have none_yet (i : Nat) : s.entry i = Entry.untouched := by simp [State.entry, he, Table.get]
  refine ⟨by simp [ho, hr], fun i => ?_, by simp [ho], fun i _ => none_yet i, by omega, .inl hc⟩
  rw [none_yet, ho]
  constructor
  · intro h; cases h
  · rintro ⟨_, h, _⟩; cases h

theorem conf_fabric : FabricSound netConf := fabric_quiet _ rfl rfl rfl rfl rfl

/-- The small ring in Configuring with record 12 in Pending, its local connection applied. -/
def confPending : State :=
  { netConf with
    store := (netDetour { Exchange.idle with state := .pending }).store,
    fabric := { netConf.fabric with
      entries := [(457, { desired := .localPort 22, last := some (.localPort 22), status := .applied })] } }

/-- Start with the join condition, and without it; a join timer that runs; a record that is sending, and one in Pending whose
local connection is applied; no command outstanding, and one. -/
theorem witness_StartJoinsAndSyncs : Accepts netConf ∧ netConf.node.state = .configuring ∧ netConf.node.ringId ≠ 0 ∧
    netConf.joinCondition = true ∧ { netConf with laneEast := Lane.reset }.joinCondition = false ∧
    { netConf with node := { netConf.node with state := .joining, joinTimer := some 0 } }.node.joinTimer ≠ none ∧
    (TablesCanonical netConf ∧ FabricSound netConf ∧ netConf.fabric.outstanding = none ∧
      { netConf with fabric := netSending.fabric }.fabric.outstanding ≠ none) ∧
    ({ netConf with store := (netDetour awaiting).store }.record 12).exchange.sending = true ∧
    (TablesCanonical confPending ∧ ResumesPending confPending 12 .endA) :=
  ⟨net_accepts, by decide, by decide, by decide, by decide, by decide,
    ⟨by unfold TablesCanonical; decide +kernel, conf_fabric, by decide, by decide⟩, by decide,
    by unfold TablesCanonical; decide +kernel, by decide, by decide, by decide, _, rfl, by decide, by decide⟩

/-- R141, R151: entry to Joining sends the first attempt of a record in Pending whose local connection is applied; R135: it
sends a Dirty entry. -/
theorem test_start_resumes : after (exec (.start 1) confPending) (fun t =>
    decide ((t.record 12).exchange.state = .awaiting ∧ t.laneWest.queue.length = 1 ∧ t.fabric.outstanding = none)) = true ∧
    after (exec (.start 1) { confPending with fabric := { confPending.fabric with
      entries := [(40, { desired := .void, last := none, status := .dirty })] } }) (fun t =>
      decide ((t.record 12).exchange.state = .pending ∧ (t.entry 40).status = .inFlight)) = true := by decide +kernel

/-- A sweep that runs, and an Idle Planner that still holds the entries of its last sweep. -/
theorem witness_StopHoldsPlanAndMap : Accepts netPlanned ∧ TablesCanonical netPlanned ∧ OwnComposed netPlanned ∧
    netPlanned.node.state ≠ .configuring ∧ netPlanned.planner.phase ≠ .idle ∧
    (let s := { netPlanned with planner := { netPlanned.planner with phase := .idle } }
     Accepts s ∧ TablesCanonical s ∧ OwnComposed s ∧ s.planner.phase = .idle ∧ s.planner.buffer ≠ []) :=
  ⟨net_accepts, net_tables, net_own, by decide, by decide, net_accepts, net_tables, net_own, rfl, by decide⟩

/-- R111, R116: a Stop leaves the plan buffer of an Idle Planner, and discards that of a running sweep. -/
theorem test_stop_keeps_idle_plan :
    after (exec (.stop 1) { netPlanned with planner := { netPlanned.planner with phase := .idle } }) (fun t =>
      decide (t.planner.buffer = netPlanned.planner.buffer ∧ t.planner.snapshot = netPlanned.planner.snapshot)) = true ∧
    after (exec (.stop 1) netPlanned) (fun t => decide (t.planner.buffer = [] ∧ t.planner.snapshot = [])) = true := by
  decide +kernel

/-! Records -/

def netStaged : State := netWith { rec12 with lifecycle := .staged }

theorem staged_labels : LabelsSound netStaged := labels_of_one netStaged _ rfl (by decide) (by decide)

theorem net_inUse (r : Record) (h : Nat) : (netWith r).inUse h → 12 = h := by
  unfold State.inUse; rw [record_netWith]; split
  · next e => exact fun _ => e
  · intro f; exact absurd rfl f

/-- A Free record at the highest handle, and the restage of record 12. -/
theorem witness_StageWritesOneRecord : Accepts netStaged ∧ LabelsSound netStaged ∧ 4095 < 4096 ∧
    imagePlanning { img12 with handle := 4095, circuit := 848 } = some { plan12 with circuit := 848 } ∧
    (netStaged.record 4095).lifecycle = .free ∧
    (∀ k, k ≠ 4095 → netStaged.inUse k → (netStaged.record k).plan.circuit ≠ 848) ∧
    imagePlanning img12 = some plan12 ∧ (netStaged.record 12).lifecycle = .staged ∧
    ∀ k, k ≠ 12 → netStaged.inUse k → (netStaged.record k).plan.circuit ≠ plan12.circuit := by
  refine ⟨net_accepts, staged_labels, by decide, by decide, by decide, fun k _ f => ?_, by decide, by decide, fun k hk f => ?_⟩
  · cases net_inUse _ _ f; decide
  · exact absurd (net_inUse _ _ f).symm hk

theorem witness_DiscardAndRetireRecord : Accepts netStaged ∧ LabelsSound netStaged ∧ (netStaged.record 12).lifecycle = .staged ∧
    LabelsSound net ∧ (net.record 12).lifecycle = .active ∧ net.node.state ≠ .configuring ∧ LabelsSound netConf ∧
    (netConf.record 12).lifecycle = .active ∧ netConf.node.state = .configuring :=
  ⟨net_accepts, staged_labels, by decide, net_labels, by decide, by decide, net_labels, by decide, by decide⟩

theorem witness_ActivateAddsRecordToTable : Accepts netStaged ∧ (netStaged.record 12).lifecycle = .staged ∧
    (netStaged.record 12).plan.endsFit netStaged.node.ringSize = true ∧
    portPresenceOk (netStaged.record 12).plan (netStaged.record 12).port netStaged.node.own = true ∧
    ∀ k, k ≠ 12 → (netStaged.record k).lifecycle = .active →
      slotClash netStaged.node.ringSize (netStaged.record k).plan (netStaged.record 12).plan = false ∧
        ((netStaged.record 12).port = none ∨ (netStaged.record k).port ≠ (netStaged.record 12).port) := by
  refine ⟨net_accepts, by decide, by decide, by decide, fun k hk f => ?_⟩
  rw [netStaged, record_netWith, if_neg (Ne.symm hk)] at f; cases f

/-- An Amend that changes nothing, and one that changes the ceiling while the record is Awaiting. -/
theorem witness_AmendReplacesFieldsAndCode :
    let s := netDetour awaiting
    Accepts s ∧ (s.record 12).lifecycle = .active ∧ (s.record 12).code = recordCode 12 (s.record 12).plan ∧
    imagePlanning img12 = some plan12 ∧ s.amendFits 12 plan12 (imagePort img12) = true ∧
    imagePlanning { img12 with ceiling := 2000000 } = some { plan12 with ceiling := some 2000000 } ∧
    s.amendFits 12 { plan12 with ceiling := some 2000000 } (imagePort img12) = true ∧
    s.endRole 12 = some .endA ∧ (s.record 12).exchange.state = .awaiting ∧ s.node.state ≠ .configuring ∧
    ∀ k, k ≠ 12 → ((s.record k).lifecycle = .active ∨ (s.record k).lifecycle = .retiring) →
      imagePort img12 = none ∨ (s.record k).port ≠ imagePort img12 := by
  refine ⟨net_accepts, by decide, rfl, by decide, by decide +kernel, by decide, by decide +kernel, by decide, by decide,
    by decide, fun k hk f => ?_⟩
  rw [netDetour, record_netWith, if_neg (Ne.symm hk)] at f
  rcases f with f | f <;> cases f

theorem witness_FindCircuitAndNextChanged : Accepts net ∧ LabelsSound net ∧ net.inUse 12 ∧
    (net.record 12).plan.circuit = 0x3A51C7 ∧ (∀ h, net.inUse h → (net.record h).plan.circuit ≠ 1) ∧
    net.store.changed = [] ∧ { net with store := { net.store with changed := [0, 4095] } }.store.changed = 0 :: [4095] ∧
    rising [0, 4095] = true := by
  refine ⟨net_accepts, net_labels, by unfold State.inUse; decide, by decide, fun h f => ?_, rfl, rfl, by decide⟩
  cases net_inUse _ _ f; decide

theorem witness_StreamBeginsAndAborts : Accepts net ∧ net.store.stream.state ≠ .opened ∧ 0 + 4096 ≤ 4096 ∧
    (netStream 1 1 true).store.stream.state = .opened := ⟨net_accepts, by decide⟩

theorem stream_labels (remaining count : Nat) (activate : Bool) : LabelsSound (netStream remaining count activate) :=
  labels_of_one _ rec12 rfl (show net.store.labelIndex = _ by decide) (by decide)

/-- An image that passes at handle 4095, the last of its Stream, and one at 4094 with an image to come; an image with circuit
number 0; an image with the circuit number of record 12; an Active record; a Stream that is not Open; Chunks of no image and
of nine. -/
theorem witness_StreamChunkStagesOrHalts : (∀ r c a, Accepts (netStream r c a) ∧ LabelsSound (netStream r c a) ∧
      (netStream r c a).store.stream.state = .opened) ∧
    (netStream 1 1 false).store.stream.remaining = 0 + 1 ∧ 4095 + 1 - 1 = 4095 ∧
    (netStream 2 2 true).store.stream.remaining = 1 + 1 ∧ 4094 + 2 - 2 = 4094 ∧
    imagePlanning { img12 with circuit := 848 } = some { plan12 with circuit := 848 } ∧
    (∀ h, h = 4094 ∨ h = 4095 → ∀ r c a, ((netStream r c a).record h).lifecycle = .free ∧
      ∀ k, k ≠ h → (netStream r c a).inUse k → ((netStream r c a).record k).plan.circuit ≠ 848) ∧
    imagePlanning { img12 with circuit := 0 } = none ∧
    (imagePlanning img12 = some plan12 ∧ 12 ≠ 4094 ∧ (netStream 2 2 true).inUse 12 ∧
      ((netStream 2 2 true).record 12).plan.circuit = plan12.circuit) ∧
    ((netStream 4084 4084 true).record 12).lifecycle = .active ∧
    (netStream 4084 4084 true).store.stream.remaining = 4083 + 1 ∧ [img12] ≠ [] ∧ [img12].length + 1 ≤ 8 ∧
    Accepts net ∧ net.store.stream.state ≠ .opened ∧ 8 < (List.replicate 9 img12).length := by
  refine ⟨fun r c a => ⟨net_accepts, stream_labels r c a, rfl⟩, by decide, by decide, by decide, by decide, by decide,
    fun h hh r c a => ⟨?_, fun k _ f => ?_⟩, by decide, ⟨by decide, by decide, by unfold State.inUse; decide, by decide⟩,
    by decide, by decide, by decide, by decide, net_accepts, by decide, by decide⟩
  · rw [show (netStream r c a).record h = Record.free from (record_netWith rec12 h).trans (if_neg (by omega))]; rfl
  · have g : net.inUse k := f
    cases net_inUse _ _ g
    show rec12.plan.circuit ≠ 848
    decide

/-- R9, R22: an image with the circuit number of record 12 halts the Stream with reason LabelClash after the image before it was
staged, which answers LABEL_CLASH with one image accepted. -/
theorem test_stream_label_clash :
    after (exec (.streamChunk 1 [{ img12 with circuit := 848 }, img12, { img12 with circuit := 849 }]) (netStream 3 3 false))
      (fun t => decide (t.store.stream.halt = some { handle := 4094, reason := .labelClash, status := none } ∧
        t.store.stream.remaining = 2 ∧ (t.record 4093).lifecycle = .staged ∧ (t.record 4095).lifecycle = .free)) = true ∧
    (answered (exec (.streamChunk 1 [{ img12 with circuit := 848 }, img12]) (netStream 3 3 false))).map
      (fun x => (x.1, x.2.reverse.take 2)) = some (.labelClash, [1, 0]) := by decide +kernel

theorem witness_StreamActivatesAllOrNone : ∃ t, Accepts (netStream 1 1 true) ∧ TablesCanonical (netStream 1 1 true) ∧
    StreamSound (netStream 1 1 true) ∧ (netStream 1 1 true).store.stream.activate = true ∧
    exec (.streamChunk 3 [{ img12 with handle := 4095, circuit := 848, dir := .west, port := 9 }]) (netStream 1 1 true) =
      .next t ∧
    t.store.stream.remaining = 0 ∧ t.store.stream.state = .complete :=
  ⟨_, net_accepts, net_tables, by unfold StreamSound; decide, rfl, rfl, by decide +kernel, by decide +kernel⟩

/-- What the records of `netStream 1 1 true` are once an image of planning fields `p` is staged at handle 4095. -/
def stagedLast (p : Planning) (port : Byte) (k : Nat) : Record :=
  if k = 4095 then { Record.free with lifecycle := .staged, plan := p, port := some port, code := recordCode 4095 p }
  else net.record k

/-- The last image of a run of one: the set passes with a working arc West and a port of its own, and fails the slot check with
the slot and arc of record 12. -/
theorem witness_StreamActivatesThePassingSet :
    (let s := netStream 1 1 true
     LabelsSound s ∧ StreamSound s ∧ s.store.stream.remaining = 1 ∧
       s.store.stream.first + s.store.stream.count = 4095 + 1 ∧ (s.record 4095).lifecycle = .free) ∧
    imagePlanning { img12 with circuit := 848, dir := .west, port := 9 } = some { plan12 with circuit := 848, dir := .west } ∧
    imagePlanning { img12 with circuit := 848 } = some { plan12 with circuit := 848 } ∧
    (∀ k, k ≠ 4095 → net.inUse k → (net.record k).plan.circuit ≠ 848) ∧
    (∀ k st, 4095 ≤ k ∧ k ≤ 4095 → ¬ SetFails 8 1 (stagedLast { plan12 with circuit := 848, dir := .west } 9)
      (fun j => 4095 ≤ j ∧ j ≤ 4095) k st) ∧
    SetFails 8 1 (stagedLast { plan12 with circuit := 848 } 22) (fun j => 4095 ≤ j ∧ j ≤ 4095) 4095 .slotClash := by
  refine ⟨⟨stream_labels _ _ _, by unfold StreamSound; decide, rfl, rfl, by decide⟩, by decide, by decide, fun k _ f => ?_,
    fun k st hk => ?_, .inr (.inr (.inl ⟨rfl, by decide, ⟨12, ⟨by decide, .inl (by decide)⟩, by decide⟩, rfl⟩))⟩
  · cases net_inUse _ _ f; decide
  · have e : k = 4095 := by omega
    subst e
    have only (j : Nat) (hj : j ≠ 4095 ∧ ((stagedLast { plan12 with circuit := 848, dir := .west } 9 j).lifecycle = .active ∨
        (4095 ≤ j ∧ j ≤ 4095) ∧ j < 4095)) : 12 = j := by
      rcases hj.2 with h | h
      · rw [stagedLast, if_neg hj.1] at h; exact net_active j h
      · omega
    rintro (⟨h, _⟩ | ⟨_, h, _⟩ | ⟨_, _, ⟨j, hj, h⟩, _⟩ | ⟨_, _, _, ⟨_, j, hj, h⟩, _⟩)
    · exact h rfl
    · exact h (by decide)
    · cases only j hj; revert h; decide
    · cases only j hj; revert h; decide

/-! Line Monitors -/

def lineFailed : Defects := { Defects.empty with lineFail := true }

/-- The small ring with its East monitor down for a Line Fail. -/
def netDown (c : LineCond) (holdOff wtr : Option Nat) (l : Lane) (r : Content) : State :=
  { net with
    laneEast := l, map := { net.map with ownEast := { content := r, epoch := 1 } },
    monEast := { net.monEast with
      lineFail := true, defects := lineFailed, cond := c, holdOffTimer := holdOff, wtrTimer := wtr } }

def clearContent : Content := { state := .clear, cause := .none }

def failedContent : Content := { state := .failed, cause := .lineFail }

/-- The lane before lock. -/
def laneHunting : Lane := { Lane.reset with greetTimer := some 10000 }

/-- The small ring with its East monitor Failed on the defects `x`, with cause `c`. -/
def netFailed (l : Lane) (x : Defects) (c : ReportCause) : State :=
  { net with
    laneEast := l, monEast := { net.monEast with defects := x, cond := .failed },
    map := { net.map with
      ownEast := { content := { state := .failed, cause := c }, epoch := 2 },
      spans := [(1, { effective := .failed, planning := .unusable })] } }

def lostLane : Defects := { Defects.empty with signallingLoss := true }

/-- The East lane Hunting, Mismatched, and Locked with no Greeting for the silence timer `t` or longer. -/
def netLost : State := netFailed laneHunting lostLane .signallingLoss

def netMismatched : State :=
  netFailed { laneUp with adjacency := .mismatched, mapSent := false, exchanged := false }
    { Defects.empty with misconnection := true } .misconnection

def netQuiet (x : Defects) (c : ReportCause) (t : Option Nat) : State :=
  let s := netFailed { laneUp with adjacency := .down, adjTimer := none, mapSent := false, exchanged := false } x c
  { s with monEast := { s.monEast with silenceTimer := t, lineFail := x.lineFail } }

/-- The Line Fail of a quiet line; its end in Holding, in Failed with WTR 300 and 0, and on a lane that is Hunting. -/
theorem witness_LineFailHoldsFailsAndRecovers :
    (MonitorSound net .east ∧ OwnComposed net ∧ (net.mon .east).defects = Defects.empty ∧
      (net.mon .east).cond = ReturnState.clear.cond) ∧
    (let s := netDown (.holding .waiting clearContent) (some 5) (some 9) laneUp clearContent
     MonitorSound s .east ∧ OwnComposed s ∧ (s.mon .east).defects = lineFailed ∧ (s.lane .east).lock = .locked) ∧
    (let s := netDown .failed none none laneUp failedContent
     MonitorSound s .east ∧ OwnComposed s ∧ (s.mon .east).cond = .failed ∧ s.node.wtr ≠ 0) ∧
    (let s := { netDown .failed none none laneUp failedContent with node := { net.node with wtr := 0 } }
     MonitorSound s .east ∧ OwnComposed s ∧ (s.mon .east).cond = .failed ∧ s.node.wtr = 0) ∧
    (let s := netDown .failed none none laneHunting failedContent
     MonitorSound s .east ∧ OwnComposed s ∧ (s.lane .east).lock = .hunting ∧ s.node.ringId ≠ 0 ∧
       (s.lane .east).adjacency = .down) ∧
    (MonitorSound netLost .east ∧ OwnComposed netLost ∧ (netLost.mon .east).defects.signallingLoss = true) ∧
    (MonitorSound netMismatched .east ∧ OwnComposed netMismatched ∧ (netMismatched.mon .east).defects.misconnection = true) ∧
    (let s := netQuiet { Defects.empty with neighbourSilent := true } .neighbourSilent none
     MonitorSound s .east ∧ OwnComposed s ∧ (s.mon .east).defects.neighbourSilent = true) := by
  unfold MonitorSound OwnComposed
  refine ⟨?_, ?_, ?_, ?_, ?_, ?_, ?_, ?_⟩ <;> decide +kernel

/-- R68, R74: with a hold-off of 0 a Line Fail changes the own report, whose key 2 is marked on the lane that is Up alone. -/
theorem test_own_report_marked : after (exec (.lineFail .east true) { net with
    node := { net.node with holdOff := 0 }, laneEast := { laneUp with adjacency := .heard } }) (fun t =>
      decide (t.laneEast.pendingKeys = [] ∧ t.laneWest.pendingKeys = [2] ∧ t.map.ownEast.epoch = 2)) = true := by
  decide +kernel

theorem witness_BlockCountIntegratesAndCompares : OwnComposed net ∧ SpansWorkedOut net ∧
    (net.mon .east).defects.any = false ∧ OwnComposed netHolding ∧ SpansWorkedOut netHolding ∧
    (netHolding.mon .east).defects.any = true := by
  unfold OwnComposed SpansWorkedOut; decide +kernel

theorem witness_LineTimersExpire : OwnComposed net ∧ (net.mon .east).holdOffTimer = none ∧ (net.mon .east).wtrTimer = none ∧
    (net.mon .east).silenceTimer = none ∧
    (OwnComposed netHolding ∧ (netHolding.mon .east).cond = .holding .clear clearContent ∧
      (netHolding.mon .east).holdOffTimer ≠ none) ∧
    (OwnComposed netWaiting ∧ (netWaiting.mon .east).cond = .waiting ∧ (netWaiting.mon .east).wtrTimer ≠ none) ∧
    (let s := netDown (.holding .waiting clearContent) (some 5) (some 9) laneUp clearContent
     OwnComposed s ∧ (s.mon .east).cond = .holding .waiting clearContent ∧ (s.mon .east).wtrTimer ≠ none) ∧
    OwnComposed netSilent ∧ (netSilent.mon .east).silenceTimer ≠ none ∧ (netSilent.mon .east).defects = Defects.empty ∧
      (netSilent.mon .east).cond = ReturnState.clear.cond ∧
    (let s := netQuiet lineFailed .lineFail (some 5)
     MonitorSound s .east ∧ OwnComposed s ∧ (s.mon .east).silenceTimer ≠ none ∧ (s.mon .east).defects.any = true) := by
  unfold MonitorSound OwnComposed; decide +kernel

theorem witness_ForceWritesFlagAndReport : Accepts net ∧ OwnComposed net := ⟨net_accepts, net_own⟩

/-! Lanes -/

/-- The small ring with another East lane. -/
def netLane (l : Lane) : State := { net with laneEast := l }

/-- Runs of 6 and 7 good frames, of 2 and 3 bad frames, and a window that runs. The monitor of a lane that is Hunting is Failed,
and with 7 good frames the lane may end that. -/
theorem witness_LockFollowsFrameRuns : (∀ l, OwnComposed (netLane l) ∧ SpansWorkedOut (netLane l)) ∧
    laneUp.lock = .locked ∧ { laneUp with badRun := 2 }.badRun + 1 < 4 ∧ 4 ≤ { laneUp with badRun := 3 }.badRun + 1 ∧
    laneUp.lockWindow ≠ none ∧
    (∀ l, OwnComposed { netLost with laneEast := l } ∧ SpansWorkedOut { netLost with laneEast := l }) ∧
    laneHunting.lock = .hunting ∧ { laneHunting with goodRun := 6 }.goodRun + 1 < 8 ∧
    8 ≤ { laneHunting with goodRun := 7 }.goodRun + 1 ∧ State.reset.node.ringId = 0 ∧ OwnComposed State.reset ∧
    SpansWorkedOut State.reset := by
  have lost : OwnComposed netLost ∧ SpansWorkedOut netLost := by unfold OwnComposed SpansWorkedOut; decide +kernel
  exact ⟨fun _ => ⟨net_own, net_spans⟩, by decide, by decide, by decide, by decide, fun _ => lost, by decide, by decide,
    by decide, rfl, by unfold OwnComposed; decide, by unfold SpansWorkedOut; decide +kernel⟩

/-- R59, R65: the East lane, at its third bad frame in a row, with a report and a Path Confirm to send. -/
theorem test_lost_lock_empties : after (exec (.laneBadFrame .east)
    (netLane { laneUp with badRun := 3, pendingKeys := [0, 2], queue := [confirm4] })) (fun t =>
      decide (t.laneEast.pendingKeys = [] ∧ t.laneEast.queue = [] ∧ t.laneEast.mapSent = false ∧
        t.laneWest = laneUp ∧ t.monWest = net.monWest ∧ t.map.ownEast = clearReport)) = true := by decide +kernel

/-- The small ring in Joining, with the exchange of the East lane still to complete. -/
def joiningLast : State :=
  { netConf with
    node := { netConf.node with state := .joining, joinTimer := some 7 }, laneEast := { laneUp with exchanged := false } }

/-- From Up, Heard and Mismatched; a correct Greeting, one with the heard flag clear, one with another digest, and an incorrect
one; a lane that compared Differs; a node in Joining with its last exchange to complete. -/
theorem witness_GreetingsMoveTheAdjacency :
    let heard := { laneUp with adjacency := .heard, mapSent := false, exchanged := false }
    let other := { greetingEast with digest := net.store.digest + 1 }
    let silent := { greetingEast with heard := false }
    (net.lane .east).sound ∧ (net.lane .east).lock = .locked ∧ net.node.ringId ≠ 0 ∧
    [greetingEast, other, silent, { greetingEast with sender := 3 }].map greetingInRange = [true, true, true, true] ∧
    [greetingEast, other, silent, { greetingEast with sender := 3 }].map (net.correct .east) = [true, true, true, false] ∧
    (net.lane .east).adjacency = .up ∧ (net.lane .east).adjTimer ≠ none ∧ heard.sound ∧
    (greetingEast.heard = true ∧ silent.heard = false) ∧
    (other.digest ≠ net.store.digest ∧ (net.lane .east).differs = false ∧ { laneUp with differs := true }.sound) ∧
    { laneUp with pendingKeys := [0, 2], queue := [confirm4] }.sound ∧
    ((netMismatched.lane .east).sound ∧ (netMismatched.lane .east).adjacency = .mismatched) ∧
    (joiningLast.lane .east).sound ∧ (joiningLast.lane .east).lock = .locked ∧ joiningLast.node.state = .joining ∧
      after (exec (.greeting .east greetingEast) joiningLast) (fun t =>
        [Side.east, .west].all fun e => (t.lane e).adjacency = .up && (t.lane e).exchanged) = true := by
  unfold Lane.sound
  refine ⟨?_, ?_, ?_, ?_, ?_, ?_, ?_, ?_, ?_, ?_, ?_, ?_, ?_, ?_, ?_, ?_⟩ <;> decide +kernel

/-- R32, R67: the Greeting that completes the last exchange takes the node from Joining to Syncing, where a sweep starts. -/
theorem test_greeting_joins : after (exec (.greeting .east greetingEast) joiningLast) (fun t =>
    decide (t.node.state = .syncing ∧ t.node.joinTimer = none ∧ t.planner.phase = .gathering)) = true := by decide +kernel

/-- R66: a differing digest in Up raises Table Disagreement (cause 5) once. R65: leaving Up empties what the lane held. -/
theorem test_table_disagreement :
    after (exec (.greeting .east { greetingEast with digest := 5 }) net) (fun t =>
      decide (t.laneEast.differs = true ∧ t.attn.pending = 0x08)) = true ∧
    after (exec (.greeting .east { greetingEast with digest := 5 }) (netLane { laneUp with differs := true })) (fun t =>
      decide (t.laneEast.differs = true ∧ t.attn.pending = 0)) = true ∧
    after (exec (.greeting .east { greetingEast with heard := false })
      (netLane { laneUp with pendingKeys := [2], queue := [confirm4], differs := true })) (fun t =>
      decide (t.laneEast.adjacency = .heard ∧ t.laneEast.pendingKeys = [] ∧ t.laneEast.queue = [] ∧
        t.laneEast.differs = false ∧ t.attn.pending = 0)) = true := by decide +kernel

/-- Span 4 is not the node's own, at an unknown key, and at one known at epoch 9 or 8; span 8 does not exist; the own key 2 is
held at epoch 1, so epoch 2 is adopted and epoch 1 with the same content is not. -/
theorem witness_SpanReportsFloodByEpoch : MonitorSound net .east ∧ OwnComposed net ∧ SpansWorkedOut net ∧
    (net.lane .east).lock = .locked ∧ (net.lane .east).adjacency = .up ∧ spanReportInRange failedSpan4 = true ∧
    reportKey failedSpan4 ≠ ownKey 8 1 .east ∧ reportKey failedSpan4 ≠ ownKey 8 1 .west ∧ net.report 9 = none ∧
    ((failedSpan4.epoch - 9).toNat = 0 ∧ (failedSpan4.epoch - 8).toNat = 1) ∧
    spanReportInRange { failedSpan4 with span := 23 } = true ∧ net.node.ringSize ≤ 23 ∧
    ownKey 8 1 .east = 2 ∧ (net.map.own .east).epoch = 1 := by
  unfold MonitorSound OwnComposed SpansWorkedOut; decide +kernel

/-- A sweep that runs, with an abandon count of 3 and of 4. -/
def netRunning (n : Nat) : State :=
  { net with planner := { net.planner with phase := .gathering, abandonCount := n } }

/-- Key 9 known at epoch 8, before the report of epoch 9. -/
def netKnown : State :=
  { net with
    map := { net.map with
      others := [(9, some { content := { state := .degraded, cause := .degrade }, epoch := 8 })],
      spans := [(4, { effective := .degraded, planning := .impaired })] } }

/-- The report makes span 4 Unusable from unknown and from Degraded; the Planner is Idle, or runs with the abandon count below
4 and at 4. A lane or line event, a Greeting, a Force Span and an answer of the fabric meet their premises. -/
theorem witness_SpanChangesTriggerPlanner : (MonitorSound net .east ∧ OwnComposed net ∧ SpansWorkedOut net) ∧
    net.report (reportKey failedSpan4) = none ∧
    (MonitorSound netKnown .east ∧ OwnComposed netKnown ∧ SpansWorkedOut netKnown ∧
      netKnown.report (reportKey failedSpan4) = some { content := { state := .degraded, cause := .degrade }, epoch := 8 } ∧
      (failedSpan4.epoch - 8).toNat = 1) ∧
    ((net.lane .east).lock = .locked ∧ (net.lane .east).adjacency = .up ∧ net.node.ringId ≠ 0 ∧
      spanReportInRange failedSpan4 = true ∧ failedSpan4.span < 8 ∧ reportKey failedSpan4 ≠ ownKey 8 1 .east ∧
      reportKey failedSpan4 ≠ ownKey 8 1 .west ∧ greetingInRange greetingEast = true ∧ Accepts net) ∧
    (MonitorSound joiningLast .east ∧ OwnComposed joiningLast ∧ SpansWorkedOut joiningLast ∧
      joiningLast.node.state = .joining ∧ (joiningLast.lane .east).lock = .locked ∧ joiningLast.node.ringId ≠ 0) ∧
    net.planner.phase = .idle ∧ (netRunning 3).planner.abandonCount < 4 ∧ 4 ≤ (netRunning 4).planner.abandonCount ∧
    (∀ n, n = 3 ∨ n = 4 → after (exec (.spanReport .east failedSpan4) (netRunning n)) (fun t =>
      decide (planCondOf (t.effectiveState 4) ≠ planCondOf ((netRunning n).heldSpan 4).effective ∧
        t.planner.abandonCount = 4 ∧ t.planner.replan = decide (n = 4))) = true) ∧
    TablesCanonical netSending ∧ OwnComposed netSending ∧ SpansWorkedOut netSending ∧
    netSending.fabric.outstanding = some (sent 457 (.localPort 22) 1 false) := by
  refine ⟨⟨net_monitor _, net_own, net_spans⟩, by decide,
    by unfold MonitorSound OwnComposed SpansWorkedOut; decide +kernel, ⟨by decide, by decide, by decide, by decide, by decide,
    by decide, by decide, by decide +kernel, net_accepts⟩, by unfold MonitorSound OwnComposed SpansWorkedOut; decide +kernel,
    by decide, by decide, by decide, ?_, sending_tables, net_own, net_spans, rfl⟩
  rintro n (rfl | rfl) <;> decide +kernel

theorem witness_PathConfirmsAreForwardedOrTaken :
    let s := netDetour awaiting
    (MonitorSound s .west ∧ OwnComposed s ∧ SpansWorkedOut s) ∧ (s.lane .west).lock = .locked ∧ s.node.ringId ≠ 0 ∧
    confirmInRange confirm4 = true ∧ (s.lane .west).adjacency = .up ∧ confirm4.sender ≠ s.node.own ∧
    confirm4.target = s.node.own ∧
    (s.endRole 12 = some .endA ∧ s.node.state ≠ .configuring ∧ (s.record 12).outcome = .detour ∧
      confirm4.sender = (s.record 12).plan.otherEnd .endA ∧ Side.west = (s.record 12).plan.detourSide .endA ∧
      confirm4.check = recordCheck (s.record 12).code) ∧
    s.endRole 13 = none ∧ { confirm4 with target := 7 }.target ≠ s.node.own ∧
    { confirm4 with sender := 1 }.sender = s.node.own := by
  unfold MonitorSound OwnComposed SpansWorkedOut; decide +kernel

/-- Ring ID 0; 48 and 47 reports behind a due Greeting; a known key behind an unknown one; a queue; nothing to send. -/
theorem witness_SlotsSendInOrder : State.reset.node.ringId = 0 ∧ net.node.ringId ≠ 0 ∧
    48 ≤ { laneUp with greetDue := true, dueReports := 48 }.dueReports ∧
    ¬ 48 ≤ { laneUp with greetDue := true, dueReports := 47 }.dueReports ∧
    ([0, 2] : List Nat) = [0] ++ 2 :: [] ∧ net.report 0 = none ∧ net.report 2 = some clearReport ∧
    { laneUp with queue := [confirm4] }.queue = confirm4 :: [] ∧ laneUp.queue = [] ∧ laneUp.pendingKeys = [] ∧
    (net.lane .east).greetTimer ≠ none := by decide +kernel

/-! Planner -/

/-- Record 12 gathered, in the late set, Retiring and Staged; handle 4095 is Free and the last. -/
theorem witness_GatheringEvaluatesEachRecord : netSweep.planner.phase = .gathering ∧ netSweep.planner.gatherPos = 12 ∧
    (netSweep.record 12).lifecycle = .active ∧ 12 ∉ netSweep.planner.late ∧
    12 ∈ { netSweep.planner with late := [12] }.late ∧ (netStaged.record 12).lifecycle = .staged ∧
    ((netWith { rec12 with lifecycle := .retiring }).record 12).lifecycle = .retiring ∧
    (netSweep.record 4095).lifecycle = .free ∧ 4095 < 4096 := by decide

/-- A pass that is due, and class 7 pass a with the passes down to class 5 pass a empty; the arc is free, or span 4 is held, with a
working arc that is lost and one that is not; a last pass with no entries below it. -/
theorem witness_GrantsAreAllOrNone :
    let e : PlanEntry := { handle := 12, plan := plan12, verdict := .forClass 5 .a }
    let later : PlanEntry := { handle := 20, plan := plan12, verdict := .forClass 5 .b }
    netPlanned.planner.phase = .classPass 5 .a ∧ netPlanned.planner.buffer = [] ++ e :: [] ∧ e.plan.protSlot = some 9 ∧
    (passRank 5 .a ≤ passRank 5 .a ∧ passRank 5 .a ≤ passRank 7 .a ∧ passRank 5 .b ≤ passRank 5 .a) ∧
    ([later, e] : List PlanEntry) = [later] ++ e :: [] ∧ later.verdict ≠ .forClass 5 .a ∧
    passRank 0 .b < passRank 5 .a ∧
    (∀ k ∈ plan12.detourArc 8, grantAt netPlanned.planner.nextGrants k 9 = none) ∧
    (∃ k ∈ plan12.detourArc 8, grantAt [(4 * 64 + 9, some 30)] k 9 ≠ none) ∧
    (∃ k ∈ plan12.workingArc 8, snapCond netSweep.planner.snapshot k = .unusable) ∧
    ¬ ∃ k ∈ plan12.workingArc 8, snapCond netPlanned.planner.snapshot k = .unusable := by decide

/-- R103: from class 7 pass a the pass reached is class 5 pass a, though a candidate of pass b stands before it. -/
theorem test_settled_pass : after (exec .classPassEntry { netPlanned with planner := { netPlanned.planner with
    phase := .classPass 7 .a,
    buffer := [{ handle := 3, plan := plan12, verdict := .forClass 5 .b }, { handle := 12, plan := plan12, verdict := .forClass 5 .a }] } })
    (fun t => decide (t.planner.phase = .classPass 5 .a ∧ grantAt t.planner.nextGrants 4 9 = some 12)) = true := by
  decide +kernel

def extra : Planning := { plan12 with kind := .extra, endA := 4, endB := 5, workSlot := 9, protSlot := none, prio := none }

theorem witness_ExtrasGiveWay :
    let e : PlanEntry := { handle := 12, plan := extra, verdict := .forExtra }
    (PassesEnded { netPlanned.planner with phase := .extraPass, buffer := [e] } ∧
      PassesEnded { netPlanned.planner with phase := .classPass 7 .a, buffer := [e] }) ∧
    ([e] : List PlanEntry) = [] ++ e :: [] ∧
    (∃ k ∈ extra.workingArc 8, snapCond [⟨.good, 0⟩, ⟨.good, 0⟩, ⟨.good, 0⟩, ⟨.good, 0⟩, ⟨.unusable, 0⟩] k = .unusable) ∧
    (¬ ∃ k ∈ extra.workingArc 8, snapCond netPlanned.planner.snapshot k = .unusable) ∧
    (∃ k ∈ extra.workingArc 8, grantAt [(4 * 64 + 9, some 30)] k 9 ≠ none) ∧
    ¬ ∃ k ∈ extra.workingArc 8, grantAt netPlanned.planner.nextGrants k 9 ≠ none := by
  refine ⟨⟨.inl rfl, .inr ⟨7, .a, rfl, by decide, fun x hx c q h => ?_⟩⟩, rfl, by decide⟩
  cases List.mem_singleton.1 hx; cases h

/-- R103, R106: the first Extra entry is treated where the phase still names class 7 pass a, which has no entries. -/
theorem test_extra_pass_reached : after (exec .extraPassEntry (sweepAt (.classPass 7 .a) .forExtra)) (fun t =>
    decide (t.planner.phase = .extraPass ∧ t.planner.buffer.all fun e => e.verdict ≠ .forExtra)) = true := by decide +kernel

/-- Record 12 comes onto its detour; record 20 is Retiring and excluded. -/
def netCommit : State :=
  { sweepAt .extraPass (.settled .detour .none) with
    store := { net.store with records := [(12, rec12), (20, { rec12 with lifecycle := .retiring })] },
    planner := { (sweepAt .extraPass (.settled .detour .none)).planner with excluded := [20] } }

/-- The same commit in Syncing, before the resync commit. -/
def netResync : State :=
  { netCommit with
    node := { net.node with state := .syncing }, fabric := { net.fabric with reassertTimer := none, resyncDone := false } }

theorem witness_CommitPutsThePlanIntoEffect : TablesCanonical netCommit ∧ FabricSound netCommit ∧
    netCommit.node.state ≠ .configuring ∧ netCommit.node.state ≠ .syncing ∧
    (TablesCanonical netResync ∧ FabricSound netResync ∧ netResync.node.state = .syncing ∧
      netResync.fabric.resyncDone = false ∧ netResync.planner = netCommit.planner) ∧
    netCommit.planner.phase = .extraPass ∧ (∀ e ∈ netCommit.planner.buffer, e.verdict ≠ .forExtra) ∧
    (∀ h ∈ netCommit.planner.excluded, ∀ e ∈ netCommit.planner.buffer, e.handle ≠ h) ∧
    netCommit.planner.buffer.Pairwise (fun a b => a.handle ≠ b.handle) ∧ (netCommit.record 12).lifecycle = .active ∧
    (netCommit.record 20).lifecycle = .retiring ∧ netCommit.endRole 12 = some .endA ∧
    (netCommit.record 12).plan.detourEntry .endA < 512 ∧ (netCommit.record 12).outcome ≠ .detour ∧
    (PassesEnded netCommit.planner ∧ PassesEnded { netCommit.planner with phase := .classPass 5 .a }) ∧
    netCommit.planner.replan = false ∧
    { netCommit with planner := { netCommit.planner with replan := true } }.planner.replan = true := by
  have tables : TablesCanonical netCommit := by unfold TablesCanonical; decide +kernel
  exact ⟨tables, fabric_quiet _ rfl rfl rfl rfl rfl, by decide, by decide, ⟨tables, fabric_quiet _ rfl rfl rfl rfl rfl, rfl, rfl,
    rfl⟩, rfl, by decide, by decide, by decide, by decide, by decide, by decide, by decide, by decide,
    ⟨.inl rfl, .inr ⟨5, .a, rfl, by decide, fun x hx c q h => by cases List.mem_singleton.1 hx; cases h⟩⟩, rfl, rfl⟩

/-- R33, R124, R125: the resync commit makes every entry Dirty, of which entry 0 (Idle, phase 1) goes first; a commit in
Running marks the two entries that change alone, of which the Void on entry 40 goes first. -/
theorem test_resync_commit :
    after (exec .sweepCommit netResync) (fun t => decide ((t.entry 0).status = .inFlight ∧
      (t.entry 457).status = .dirty ∧ t.dirtySet.length = 511 ∧ t.fabric.resyncDone = true)) = true ∧
    after (exec .sweepCommit netCommit) (fun t => decide (t.dirtySet = [457] ∧ (t.entry 40).status = .inFlight)) = true := by
  decide +kernel

/-! Fabric -/

/-- The same, with a reassert request pending for entry 3. -/
def netDue : State := { netSending with fabric := { netSending.fabric with reassertPending := true, pointer := 3 } }

theorem witness_DoneConfirmsTheEntry : TablesCanonical netSending ∧
    netSending.fabric.outstanding = some (sent 457 (.localPort 22) 1 false) ∧
    (netSending.entry 457).desired = .localPort 22 ∧ (sent 457 (.localPort 22) 1 false).tag ≠ 2 ∧
    netSending.node.state ≠ .syncing ∧ netSending.node.state ≠ .configuring ∧ netDue.node.state = .running ∧
    netDue.fabric.reassertPending = true ∧ TablesCanonical netDue ∧
    netDue.fabric.outstanding = some (sent 457 (.localPort 22) 1 false) ∧ (netDue.entry 457).desired = .localPort 22 ∧
    AppliesLocal (sent 457 (.localPort 22) 1 false) netSending 12 .endA :=
  ⟨sending_tables, by decide, by decide, by decide, by decide, by decide, rfl, rfl, sending_tables, rfl, by decide, by decide,
    by decide, by decide, by decide, by decide, ⟨_, by decide, rfl⟩, fun ⟨_, _, _, h⟩ => by revert h; decide⟩

/-- R125, R134: the answer that leaves no Dirty entry lets the reassert request be served, with the entry at the pointer; a Dirty
entry goes before it, the lowest of the lowest phase (a Void, at entry 40, before a Local at 7). -/
theorem test_next_command :
    after (exec (.fabricDone 1 false) netDue) (fun t =>
      decide (t.fabric.outstanding = some { sent 3 .idle 1 true with tag := 2 })) = true ∧
    after (exec (.fabricDone 1 false) { netDue with fabric := { netDue.fabric with
      entries := [(7, { desired := .localPort 9, last := none, status := .dirty }),
        (40, { desired := .void, last := none, status := .dirty }),
        (457, { desired := .localPort 22, last := none, status := .inFlight })] } }) (fun t =>
      decide (t.fabric.outstanding = some { sent 40 .void 1 false with tag := 2 })) = true := by decide +kernel

theorem witness_RefusedAndTimeoutsFailTheEntry : TablesCanonical netSending ∧
    netSending.fabric.outstanding = some (sent 457 (.localPort 22) 1 false) ∧ netSending.fabric.responseTimer ≠ none ∧
    netSending.fabric.answered = false ∧ (sent 457 (.localPort 22) 1 false).attempt = 1 ∧
    (sent 457 (.localPort 22) 2 false).attempt ≠ 1 ∧
    after (exec (.fabricDone 1 false) netSending) (fun t => t.fabric.answered) = true :=
  ⟨sending_tables, by decide, by decide, by decide, by decide, by decide, by decide +kernel⟩

/-- R131: the expiry of the timer that a Done has stopped in the same instant leaves the next command, a reassert, alone; one
that comes a microsecond later is its own. -/
theorem test_answer_taken_first : after (exec (.fabricDone 1 false) netDue) (fun t =>
    (after (exec .responseTimerExpiry t) fun u => decide (u.fabric.outstanding = some { sent 3 .idle 1 true with tag := 2 })) &&
    after (exec .responseTimerExpiry (tick t)) fun u =>
      decide (u.fabric.outstanding = some { sent 3 .idle 2 true with tag := 3 })) = true := by decide +kernel

/-- The small ring in Syncing after the resync commit, with its last command outstanding. -/
def netSyncing : State :=
  { netSending with
    node := { net.node with state := .syncing },
    map := { net.map with ownEast := EndReport.ownReset, ownWest := EndReport.ownReset } }

theorem witness_LastAnswerEntersRunning : TablesCanonical netSyncing ∧ netSyncing.node.state = .syncing ∧
    netSyncing.fabric.resyncDone = true ∧ netSyncing.fabric.outstanding = some (sent 457 (.localPort 22) 1 false) ∧
    netSyncing.dirtySet = [] ∧ (netSyncing.entry 457).desired = .localPort 22 ∧
    (∀ d, (netSyncing.map.own d).content = Content.halted) ∧ netSyncing.fabric.responseTimer ≠ none ∧
    netSyncing.fabric.answered = false ∧ (sent 457 (.localPort 22) 2 false).attempt ≠ 1 :=
  ⟨sending_tables, by decide, by decide, by decide, by decide, by decide, by intro d; cases d <;> rfl, by decide⟩

/-- R33: a Refused, and a second expiry of the response timer, may be the answer that enters Running. -/
theorem test_failed_answer_enters_running :
    after (exec (.fabricRefused 1) netSyncing) (fun t =>
      decide (t.node.state = .running ∧ t.map.ownEast.epoch = netSyncing.map.ownEast.epoch + 1)) = true ∧
    after (exec .responseTimerExpiry { netSyncing with fabric := { netSyncing.fabric with
      outstanding := some (sent 457 (.localPort 22) 2 false) } }) (fun t => decide (t.node.state = .running)) = true := by
  decide +kernel

theorem witness_ReassertionSendsEntryAtPointer : net.fabric.reassertTimer ≠ none ∧ net.fabric.outstanding = none ∧
    net.dirtySet = [] ∧ net.node.state = .running ∧ netSending.fabric.reassertTimer ≠ none ∧
    netSending.fabric.outstanding ≠ none := by decide

theorem witness_ConfirmTimerSendsUpToEight : (netDetour awaiting).endRole 12 = some .endA ∧
    ((netDetour awaiting).record 12).exchange.timer ≠ none ∧ awaiting.theyHeardMine = false ∧ awaiting.attempts < 8 ∧
    { awaiting with attempts := 7 }.attempts < 8 ∧ 8 ≤ { awaiting with attempts := 8 }.attempts ∧
    awaiting.heardTheirs = false ∧ awaiting.state = .awaiting ∧
    { awaiting with theyHeardMine := true }.theyHeardMine = true ∧
    { awaiting with heardTheirs := true, state := .restored }.heardTheirs = true := by decide

/-! Attention -/

/-- A latch that a Read Summary fills, and one that the acknowledgement of its cause empties. -/
theorem witness_SummaryLatchesTheTopCause : Accepts { net with attn := calling } ∧
    (∃ t, step { net with attn := calling, pending := [.readSummary 1] } = .next t ∧
      t.attn.latch = some .spanMapChange ∧ calling.latch ≠ some .spanMapChange) ∧
    ∃ t, step { netCalling with pending := [.acknowledgeCause 1 1] } = .next t ∧
      netCalling.attn.latch = some .fabricFault ∧ t.attn.latch ≠ some .fabricFault :=
  ⟨net_accepts, ⟨_, rfl, by decide +kernel, by decide⟩, _, rfl, by decide, by decide +kernel⟩

theorem witness_AcknowledgeAndMaskDriveThePin : Accepts netCalling ∧ causeIn netCalling.attn.pending .fabricFault = true ∧
    causeIn netCalling.attn.pending .recordsChanged = false ∧ (0 = 0 ∨ 8 < 0) ∧ (9 = 0 ∨ 8 < 9) :=
  ⟨net_accepts, by decide⟩

end Sys2Proof.Tests
end

section
/-!
PROOFS. Line monitoring (03). What the end of an event at one Line Monitor does (`refreshReports` after a write of that
monitor), for any new value of the monitor, and from it the law of the degrade integrator (R48 to R50).
-/

namespace Sys2Proof.Machine

/-! ### An event that changes nothing -/

/-- A composed report that the Span Map holds already is not taken (R53). -/
theorem takeOwn_of_composed {d : Side} {s : State} (h : s.composed d = (s.map.own d).content) : takeOwn d s = s :=
  if_pos h

/-- A span below N is held as its two reports give it (R78, R80). -/
theorem heldSpan_of_workedOut {s : State} (h : SpansWorkedOut s) {k : Nat} (hk : k < s.node.ringSize) :
    s.heldSpan k = s.workedOut k := by
  unfold SpansWorkedOut at h
  rw [State.heldSpan, h, State.workedOutSpans, Table.get_ofFun, if_pos hk]

/-- Where every span is worked out, no span has changed by a measure that finds no value different from itself. -/
theorem anySpan_of_workedOut {s : State} (h : SpansWorkedOut s) {f : SpanHeld → SpanHeld → Bool}
    (hf : ∀ x, f x x = false) : s.anySpan f = false := by
  rw [State.anySpan, List.any_eq_false]
  intro k hk
  rw [heldSpan_of_workedOut h (List.mem_range.1 hk), hf]
  decide

/-- The comparison of the Span Map sets off nothing where every span is worked out (R84). -/
theorem compareSpans_of_workedOut {s : State} (h : SpansWorkedOut s) : compareSpans s = s := by
  have hChanged : s.anySpan (fun old new => decide (old.effective ≠ new.effective)) = false :=
    anySpan_of_workedOut h (by simp)
  have hMoved : s.anySpan (fun old new => decide (old.planning ≠ new.planning)) = false :=
    anySpan_of_workedOut h (by simp)
  have hLost : s.anySpan becameUnusable = false := anySpan_of_workedOut h (by simp [becameUnusable])
  have hSpans : s.workedOutSpans = s.map.spans := h.symm
  simp only [compareSpans, hChanged, hMoved, hLost, hSpans, raiseIf_eq, Bool.false_eq_true, if_false]

/-- An event that leaves both reports as composed and every span as worked out has no effect on the Span Map. -/
theorem refreshReports_of_unchanged {s : State} (ho : OwnComposed s) (hs : SpansWorkedOut s) :
    refreshReports s = s := by
  obtain ⟨hEast, hWest⟩ := ho
  rw [refreshReports, takeOwn_of_composed hEast.symm, takeOwn_of_composed hWest.symm, compareSpans_of_workedOut hs]

/-! ### Taking one composed report -/

/-- A mark on both lanes reaches each lane that is Up (R68). -/
theorem lane_markBoth (e : Side) (key : Nat) (s : State) :
    (markBoth key s).lane e = { s.lane e with
      pendingKeys := if (s.lane e).adjacency = .up then setInsert (s.lane e).pendingKeys key
        else (s.lane e).pendingKeys } := by
  rw [markBoth_eq]; cases e <;> rfl

/-- Taking a report changes no part of what is composed. -/
@[simp] theorem composed_takeOwn (d e : Side) (s : State) : (takeOwn d s).composed e = s.composed e := by
  rw [takeOwn_eq]; cases e <;> rfl

@[simp] theorem mon_takeOwn (d e : Side) (s : State) : (takeOwn d s).mon e = s.mon e := by
  rw [takeOwn_eq]; cases e <;> rfl

@[simp] theorem own_takeOwn_other (d : Side) (s : State) : (takeOwn d s).map.own d.other = s.map.own d.other := by
  rw [takeOwn_eq]; cases d <;> rfl

/-- A change of content takes the next epoch, and no other event does (R53, R74). -/
theorem own_takeOwn (d : Side) (s : State) :
    (takeOwn d s).map.own d =
      if s.composed d = (s.map.own d).content then s.map.own d
      else { content := s.composed d, epoch := (s.map.own d).epoch + 1 } := by
  unfold takeOwn
  split
  · rfl
  · dsimp only
    split
    · simp
    · rw [markBoth_eq]; simp

@[simp] theorem lane_withMap (s : State) (x : SpanMap) (e : Side) : State.lane { s with map := x } e = s.lane e := by
  cases e <;> rfl

/-- A change of content marks the own key on each lane that is Up, once N is set (R53, R68). -/
theorem lane_takeOwn (d e : Side) (s : State) :
    (takeOwn d s).lane e = { s.lane e with
      pendingKeys :=
        if s.composed d ≠ (s.map.own d).content ∧ (s.lane e).adjacency = .up ∧ s.node.ringSize ≠ 0 then
          setInsert (s.lane e).pendingKeys (ownKey s.node.ringSize s.node.own d)
        else (s.lane e).pendingKeys } := by
  unfold takeOwn
  by_cases hc : s.composed d = (s.map.own d).content
  · simp [hc]
  · by_cases hn : s.node.ringSize = 0
    · simp [hc, hn]
    · simp [hc, hn, lane_markBoth]

/-! ### The end of an event at one Line Monitor -/

/-- What a side composes depends on its own Line Monitor alone. -/
@[simp] theorem composed_setMon_other (s : State) (d : Side) (m : Monitor) :
    (s.setMon d m).composed d.other = s.composed d.other := by cases d <;> rfl

/-- Of the two reports composed after an event at one Line Monitor, only that of its side can be taken. -/
theorem takeOwn_both_setMon {s : State} (ho : OwnComposed s) (d : Side) (m : Monitor) :
    takeOwn .west (takeOwn .east (s.setMon d m)) = takeOwn d (s.setMon d m) := by
  obtain ⟨hEast, hWest⟩ := ho
  cases d with
  | east =>
    refine takeOwn_of_composed ?_
    calc (takeOwn .east (s.setMon .east m)).composed .west
        = (s.setMon .east m).composed .west := composed_takeOwn .east .west _
      _ = s.composed .west := composed_setMon_other s .east m
      _ = (s.map.own .west).content := hWest.symm
      _ = ((takeOwn .east (s.setMon .east m)).map.own .west).content :=
        congrArg EndReport.content (own_takeOwn_other .east (s.setMon .east m)).symm
  | west =>
    congr 1
    exact takeOwn_of_composed ((composed_setMon_other s .west m).trans hEast.symm)

theorem refreshReports_setMon {s : State} (ho : OwnComposed s) (d : Side) (m : Monitor) :
    refreshReports (s.setMon d m) = compareSpans (takeOwn d (s.setMon d m)) := by
  rw [refreshReports, takeOwn_both_setMon ho]

@[simp] theorem mon_refreshReports (s : State) (e : Side) : (refreshReports s).mon e = s.mon e := by
  rw [refreshReports_eq]; cases e <;> rfl

/-- Writing a Line Monitor and taking the report that it composes keeps the frame of an event at that monitor. -/
theorem lineFrame_takeOwn (s : State) (d : Side) (m : Monitor) : LineFrame d s (takeOwn d (s.setMon d m)) := by
  have hReport := own_takeOwn d (s.setMon d m)
  have hLane := fun e => lane_takeOwn d e (s.setMon d m)
  simp only [State.setMon_map, State.setMon_node, State.lane_setMon] at hReport hLane
  unfold LineFrame
  simp only [composed_takeOwn]
  refine ⟨takeOwn_content d _, ?_, ?_, ?_, ?_, fun e => ?_, fun e => ⟨?_, ?_⟩, ?_⟩
  · intro hSame
    rw [hReport, if_pos (not_not.1 hSame)]
  · intro hChanged
    rw [hReport, if_neg hChanged]
  · rw [own_takeOwn_other, State.setMon_map]
  · rw [mon_takeOwn, State.mon_setMon_other]
  · rw [hLane]
  · intro hChanged hUp hN
    rw [hLane, if_pos ⟨hChanged, hUp, hN⟩]
  · intro hNot
    rw [hLane, if_neg hNot]
  · rw [takeOwn_eq]
    simp

/-- The comparison of the Span Map writes nothing that the frame of an event at a Line Monitor speaks of. -/
theorem LineFrame.compareSpans {d : Side} {s t : State} (h : LineFrame d s t) : LineFrame d s (compareSpans t) := by
  obtain ⟨hContent, hSame, hEpoch, hOther, hMon, hLane, hMarks, hOthers, hDelays, hNode, hStore, hFabric, hRest⟩ := h
  rw [compareSpans_eq]
  exact ⟨hContent, hSame, hEpoch, hOther, hMon, hLane, hMarks, hOthers, hDelays, hNode, hStore,
    congrArg (fun f : Fabric => { f with cadence := (Machine.compareSpans t).fabric.cadence }) hFabric, hRest⟩

/-- Whatever an event makes of one Line Monitor, it keeps the frame of that monitor (R53, R68, R74, R84). -/
theorem lineFrame_refreshReports {s : State} (ho : OwnComposed s) (d : Side) (m : Monitor) :
    LineFrame d s (refreshReports (s.setMon d m)) := by
  rw [refreshReports_setMon ho]
  exact (lineFrame_takeOwn s d m).compareSpans

/-! ### The degrade integrator -/

/-- The new value of the integrator over the integers (R48). -/
theorem Monitor.integrate_eq (m : Monitor) (count : Nat) :
    (m.integrate count : Int) = max 0 (min 16777215 (m.integrator + count - m.leak : Int)) := by
  unfold Monitor.integrate Config.integratorMax; omega

/-- While a defect is present the report is ignored (R50). -/
theorem Monitor.takeCount_of_defect {m : Monitor} (h : m.defects.any = true) (count : Nat) : m.takeCount count = m :=
  if_pos h

/-- With no defect present the integrator takes the count, and is compared with D in Clear and with C in Degraded
(R48, R49). -/
theorem Monitor.takeCount_of_no_defect {m : Monitor} (h : m.defects.any = false) (count : Nat) :
    m.takeCount count = { m with
      integrator := m.integrate count,
      cond :=
        if m.cond = .clear ∧ m.declareLevel ≤ m.integrate count then .degraded
        else if m.cond = .degraded ∧ m.integrate count ≤ m.clearLevel then .clear
        else m.cond } := by
  unfold Monitor.takeCount
  rw [h]
  cases hc : m.cond <;> simp

/-! ### The block-count report -/

theorem exec_blockCountReport_malformed (d : Side) (s : State) : exec (.blockCountReport d none) s = .next s := rfl

theorem exec_blockCountReport (d : Side) (e : BitVec 16) (s : State) :
    exec (.blockCountReport d (some e)) s = .next (refreshReports (s.setMon d ((s.mon d).takeCount e.toNat))) := rfl

/-- A block-count report is ignored while a defect is present (R50). -/
theorem exec_blockCountReport_of_defect {s : State} {d : Side} (ho : OwnComposed s) (hs : SpansWorkedOut s)
    (h : (s.mon d).defects.any = true) (e : BitVec 16) : exec (.blockCountReport d (some e)) s = .next s := by
  rw [exec_blockCountReport, Monitor.takeCount_of_defect h, State.setMon_mon, refreshReports_of_unchanged ho hs]

/-- Settles O41: the integrator's law and the comparison on the monitor, and the frame of an event at one Line Monitor for
the rest of the block. -/
theorem blockCountIntegratesAndCompares : Obligations.BlockCountIntegratesAndCompares := by
  intro s d ho hs
  refine ⟨exec_blockCountReport_malformed d s, fun e =>
    ⟨fun hDefect => exec_blockCountReport_of_defect ho hs hDefect e, fun hNone => ?_⟩⟩
  refine ⟨_, (s.mon d).integrate e.toNat, exec_blockCountReport d e s, lineFrame_refreshReports ho d _,
    (s.mon d).integrate_eq e.toNat, ?_⟩
  rw [mon_refreshReports, State.mon_setMon, Monitor.takeCount_of_no_defect hNone]

end Sys2Proof.Machine
end

section
/-!
PROOFS. Lock of a lane (04). What an event at one lane that the Line Monitor of its side works out (`lineEvent` after a write of
that lane) does, for any new value of the lane, and from it the law of the frame runs (R58). What a frame that is acted on does
leaves the receiver of every lane alone.
-/

namespace Sys2Proof.Machine

/-! ### What a change of a span sets off -/

/-- Some span below N passes the measure exactly when `anySpan` says so. -/
theorem anySpan_iff (s : State) (f : SpanHeld → SpanHeld → Bool) :
    s.anySpan f = true ↔ ∃ k, k < s.node.ringSize ∧ f (s.heldSpan k) (s.workedOut k) = true := by
  simp [State.anySpan]

/-- Some effective state changed (R84). -/
theorem anySpan_effective_iff (s : State) :
    s.anySpan (fun old new => decide (old.effective ≠ new.effective)) = true ↔
      ∃ k, k < s.node.ringSize ∧ s.effectiveState k ≠ (s.heldSpan k).effective := by
  simp only [anySpan_iff, decide_eq_true_iff, State.workedOut, ne_comm (b := s.effectiveState _)]

/-- Some planning condition changed (R86). -/
theorem anySpan_planning_iff (s : State) :
    s.anySpan (fun old new => decide (old.planning ≠ new.planning)) = true ↔
      ∃ k, k < s.node.ringSize ∧ planCondOf (s.effectiveState k) ≠ (s.heldSpan k).planning := by
  simp only [anySpan_iff, decide_eq_true_iff, State.workedOut, ne_comm (b := planCondOf _)]

/-- Some span became Unusable (R87). -/
theorem anySpan_becameUnusable_iff (s : State) :
    s.anySpan becameUnusable = true ↔
      ∃ k, k < s.node.ringSize ∧ planCondOf (s.effectiveState k) = .unusable ∧
        (s.heldSpan k).planning ≠ .unusable := by
  simp only [anySpan_iff, becameUnusable, Bool.and_eq_true, decide_eq_true_eq]
  rfl

@[simp] theorem compareSpans_node (s : State) : (compareSpans s).node = s.node := by rw [compareSpans_eq]

@[simp] theorem lane_compareSpans (s : State) (e : Side) : (compareSpans s).lane e = s.lane e := by
  rw [compareSpans_eq]; cases e <;> rfl

/-- The comparison moves no report, so no effective state either (R80). -/
@[simp] theorem effectiveState_compareSpans (s : State) (k : Nat) :
    (compareSpans s).effectiveState k = s.effectiveState k := by
  rw [compareSpans_eq]; rfl

/-- After the comparison every span is held as its two reports give it (R84). -/
theorem spansWorkedOut_compareSpans (s : State) : SpansWorkedOut (compareSpans s) := by
  rw [compareSpans_eq]; rfl

/-- The block after the comparison of the Span Map and before the span trigger: the new spans are held, Span Map Change is
raised, and the cadence scale is reset (R84, R85, R87). -/
def State.compared (s : State) : State :=
  { s with
    map := { s.map with spans := s.workedOutSpans },
    fabric := { s.fabric with cadence := if s.anySpan becameUnusable then 1 else s.fabric.cadence },
    attn := if s.anySpan (fun old new => decide (old.effective ≠ new.effective)) then s.attn.raise .spanMapChange
      else s.attn }

theorem compareSpans_eq_compared (s : State) :
    compareSpans s =
      if s.anySpan (fun old new => decide (old.planning ≠ new.planning)) then spanTrigger s.compared
      else s.compared := by
  simp only [compareSpans, raiseIf_eq, State.compared]
  by_cases hLost : s.anySpan becameUnusable = true <;> simp only [hLost, if_true, if_false, Bool.false_eq_true]

/-- The Planner at the start of a sweep on a snapshot (R94). -/
def Planner.sweepOn (p : Planner) (snapshot : List SnapSpan) : Planner :=
  { p with
    phase := .gathering, gatherPos := 0, snapshot := snapshot, buffer := [], excluded := [], late := [],
    nextGrants := [], replan := false }

/-- What a span trigger makes of the Planner: a sweep starts when it is Idle, a running one is abandoned while fewer than four
were abandoned in a row, and else re-plan pending is set (R113, R114). -/
def Planner.spanTriggered (p : Planner) (snapshot : List SnapSpan) : Planner :=
  if p.phase = .idle then p.sweepOn snapshot
  else if p.abandonCount < 4 then { p.sweepOn snapshot with abandonCount := p.abandonCount + 1 }
  else { p with replan := true }

/-- A span trigger has no effect in Configuring (R86). -/
theorem spanTrigger_planner (s : State) :
    (spanTrigger s).planner =
      if s.node.state = .configuring then s.planner else s.planner.spanTriggered s.takeSnapshot := by
  simp only [spanTrigger, apply_ite State.planner]
  rfl

/-- Span Map Change is raised where an effective state changes (R84). -/
theorem compareSpans_attn (s : State) : (compareSpans s).attn = s.compared.attn := by
  rw [compareSpans_eq_compared, spanTrigger_eq]; split <;> rfl

/-- The cadence scale is reset where a span becomes Unusable (R87). -/
theorem compareSpans_fabric (s : State) : (compareSpans s).fabric = s.compared.fabric := by
  rw [compareSpans_eq_compared, spanTrigger_eq]; split <;> rfl

/-- The sweep that a change sets off sees the spans as they are held afterwards (R95). -/
theorem takeSnapshot_compareSpans (s : State) : (compareSpans s).takeSnapshot = s.compared.takeSnapshot := by
  rw [compareSpans_eq]; rfl

/-- A change of a planning condition is one span trigger (R86). -/
theorem compareSpans_planner (s : State) :
    (compareSpans s).planner =
      if s.anySpan (fun old new => decide (old.planning ≠ new.planning)) = true ∧ s.node.state ≠ .configuring then
        s.planner.spanTriggered (compareSpans s).takeSnapshot
      else s.planner := by
  rw [takeSnapshot_compareSpans, compareSpans_eq_compared, ite_and, apply_ite State.planner, spanTrigger_planner, ite_not]
  rfl

/-- The comparison at the end of an event has the effects of the spans that changed (R84 to R87, R94, R113, R114). -/
theorem spanEffects_compareSpans (s : State) : SpanEffects s.attn s.planner s (compareSpans s) := by
  unfold SpanEffects
  simp only [effectiveState_compareSpans, compareSpans_node, ← anySpan_effective_iff, ← anySpan_planning_iff,
    ← anySpan_becameUnusable_iff, compareSpans_attn, compareSpans_fabric]
  refine ⟨spansWorkedOut_compareSpans s, fun hChanged => if_pos hChanged, fun hSame => if_neg hSame,
    fun hLost => if_pos hLost, fun hKept => if_neg hKept, fun hQuiet => ?_, fun hMoved hRuns => ?_⟩
  · rw [compareSpans_planner, if_neg (by tauto)]
  · rw [compareSpans_planner, if_pos ⟨hMoved, hRuns⟩]
    refine ⟨fun hIdle => if_pos hIdle, fun hBusy hFew => ?_, fun hBusy hMany => ?_⟩
    · rw [Planner.spanTriggered, if_neg hBusy, if_pos hFew]; rfl
    · rw [Planner.spanTriggered, if_neg hBusy, if_neg (not_lt.2 hMany)]

/-- The spans and the cadence scale before an event are all that its effects are told from. -/
theorem SpanEffects.of_held {a : Attention} {p : Planner} {s u t : State} (h : SpanEffects a p u t)
    (hSpans : u.map.spans = s.map.spans) (hFabric : u.fabric = s.fabric) : SpanEffects a p s t := by
  have hHeld : u.heldSpan = s.heldSpan := by funext k; rw [State.heldSpan, hSpans, State.heldSpan]
  unfold SpanEffects at h ⊢
  rwa [hHeld, hFabric] at h

@[simp] theorem spans_takeOwn (d : Side) (s : State) : (takeOwn d s).map.spans = s.map.spans := by
  rw [takeOwn_eq]; simp

@[simp] theorem fabric_takeOwn (d : Side) (s : State) : (takeOwn d s).fabric = s.fabric := by rw [takeOwn_eq]

@[simp] theorem planner_takeOwn (d : Side) (s : State) : (takeOwn d s).planner = s.planner := by rw [takeOwn_eq]

@[simp] theorem attn_takeOwn (d : Side) (s : State) : (takeOwn d s).attn = s.attn := by rw [takeOwn_eq]

/-- Composing and comparing at the end of an event has the effects of the spans that changed. -/
theorem spanEffects_refreshReports (s : State) : SpanEffects s.attn s.planner s (refreshReports s) := by
  have h := spanEffects_compareSpans (takeOwn .west (takeOwn .east s))
  rw [attn_takeOwn, attn_takeOwn, planner_takeOwn, planner_takeOwn] at h
  exact h.of_held (by simp) (by simp)

/-! ### The Line Monitor works out its defects again -/

/-- The appearance of a defect moves the machine, the integrator and the two timers of R44 and R45. -/
theorem Monitor.defectAppears_eq (m : Monitor) (holdOff : Nat) :
    m.defectAppears holdOff = { m with
      cond := (m.defectAppears holdOff).cond, integrator := (m.defectAppears holdOff).integrator,
      holdOffTimer := (m.defectAppears holdOff).holdOffTimer, wtrTimer := (m.defectAppears holdOff).wtrTimer } := by
  have hHit : ∀ ret, m.hit holdOff ret = { m with
      cond := (m.hit holdOff ret).cond, integrator := (m.hit holdOff ret).integrator,
      holdOffTimer := (m.hit holdOff ret).holdOffTimer, wtrTimer := (m.hit holdOff ret).wtrTimer } := by
    intro ret; unfold Monitor.hit; split <;> rfl
  unfold Monitor.defectAppears
  split
  · exact hHit .clear
  · exact hHit .degraded
  · exact hHit .waiting
  · rfl
  · rfl

/-- The end of the last defect moves the machine and the two timers of R45 and R46. -/
theorem Monitor.defectClears_eq (m : Monitor) (wtr : Nat) :
    m.defectClears wtr = { m with
      cond := (m.defectClears wtr).cond, holdOffTimer := (m.defectClears wtr).holdOffTimer,
      wtrTimer := (m.defectClears wtr).wtrTimer } := by
  unfold Monitor.defectClears
  split
  · rfl
  · split <;> rfl
  all_goals rfl

/-- A new set of defects is taken as it is, and leaves the input, the settings, the force flag and the silence timer of the
monitor (R41). -/
theorem Monitor.setDefects_eq (m : Monitor) (new : Defects) (holdOff wtr : Nat) :
    m.setDefects new holdOff wtr = { m with
      cond := (m.setDefects new holdOff wtr).cond, defects := new,
      integrator := (m.setDefects new holdOff wtr).integrator,
      holdOffTimer := (m.setDefects new holdOff wtr).holdOffTimer,
      wtrTimer := (m.setDefects new holdOff wtr).wtrTimer } := by
  unfold Monitor.setDefects
  dsimp only
  split
  · rw [Monitor.defectAppears_eq]
  · split
    · rw [Monitor.defectClears_eq]
    · rfl

/-- An evaluation writes the defects of R41 and the silence timer of R42, and moves the machine, the integrator and their
timers; the input, the settings and the force flag stand (R39). -/
theorem mon_evalMonitor (d : Side) (s : State) :
    (evalMonitor d s).mon d = { s.mon d with
      cond := ((evalMonitor d s).mon d).cond, defects := s.defectsNow d,
      integrator := ((evalMonitor d s).mon d).integrator, holdOffTimer := ((evalMonitor d s).mon d).holdOffTimer,
      wtrTimer := ((evalMonitor d s).mon d).wtrTimer, silenceTimer := s.silenceNow d } := by
  rw [evalMonitor, State.mon_setMon]
  exact Monitor.setDefects_eq _ _ _ _

/-- What the inputs make present is worked out once: a second evaluation finds the same defects (R41). -/
theorem defectsNow_evalMonitor (d : Side) (s : State) : (evalMonitor d s).defectsNow d = s.defectsNow d := by
  have hLane : (evalMonitor d s).lane d = s.lane d := by rw [evalMonitor, State.lane_setMon]
  have hNode : (evalMonitor d s).node = s.node := by rw [evalMonitor, State.setMon_node]
  have hQuiet : (evalMonitor d s).quiet d = s.quiet d := by rw [State.quiet, hLane, hNode, State.quiet]
  have hFail : ((evalMonitor d s).mon d).lineFail = (s.mon d).lineFail := by rw [mon_evalMonitor]
  have hDefects : ((evalMonitor d s).mon d).defects = s.defectsNow d := by rw [mon_evalMonitor]
  rw [State.defectsNow, hLane, hNode, hQuiet, hFail, hDefects]
  simp [State.defectsNow]

/-- Composing and comparing writes of a lane its pending report set alone (R68). -/
theorem lane_refreshReports (e : Side) (s : State) :
    (refreshReports s).lane e = { s.lane e with pendingKeys := ((refreshReports s).lane e).pendingKeys } := by
  rw [refreshReports, lane_compareSpans, lane_takeOwn .west, lane_takeOwn .east]

@[simp] theorem refreshReports_node (s : State) : (refreshReports s).node = s.node := by rw [refreshReports_eq]

/-- Composing and comparing reads the inputs of a Line Monitor and writes none of them. -/
theorem defectsNow_refreshReports (d : Side) (s : State) : (refreshReports s).defectsNow d = s.defectsNow d := by
  have hLock : ((refreshReports s).lane d).lock = (s.lane d).lock := by rw [lane_refreshReports]
  have hAdjacency : ((refreshReports s).lane d).adjacency = (s.lane d).adjacency := by rw [lane_refreshReports]
  simp only [State.defectsNow, State.quiet, hLock, hAdjacency, mon_refreshReports, refreshReports_node]

/-- After an event at a Line Monitor its defects are those of R41, and its input, settings and force flag stand. -/
theorem monitorWorked_lineEvent (d : Side) (s : State) : MonitorWorked d s (lineEvent d s) := by
  unfold MonitorWorked lineEvent
  rw [mon_refreshReports, defectsNow_refreshReports, defectsNow_evalMonitor, mon_evalMonitor]
  exact ⟨rfl, rfl⟩

/-- An event at a Line Monitor has the effects of the spans that changed. -/
theorem spanEffects_lineEvent (d : Side) (s : State) : SpanEffects s.attn s.planner s (lineEvent d s) := by
  have h := spanEffects_refreshReports (evalMonitor d s)
  have hAttn : (evalMonitor d s).attn = s.attn := by rw [evalMonitor, State.setMon_attn]
  have hPlanner : (evalMonitor d s).planner = s.planner := by rw [evalMonitor, State.setMon_planner]
  have hMap : (evalMonitor d s).map = s.map := by rw [evalMonitor, State.setMon_map]
  have hFabric : (evalMonitor d s).fabric = s.fabric := by rw [evalMonitor, State.setMon_fabric]
  rw [hAttn, hPlanner] at h
  exact h.of_held (congrArg SpanMap.spans hMap) hFabric

/-! ### A write of a lane, as an event at its Line Monitor -/

/-- What a lane command that makes `m` of a lane leaves: the frame of an event at the Line Monitor of that side, its defects
worked out again, and the effects of the spans that changed. -/
def LaneFollows (d : Side) (s : State) (m : Lane) (t : State) : Prop :=
  LineFrame d (s.setLane d m) t ∧ MonitorWorked d s t ∧ SpanEffects s.attn s.planner s t

@[simp] theorem composed_setLane (s : State) (d e : Side) (m : Lane) : (s.setLane d m).composed e = s.composed e := by
  simp [State.composed]

theorem OwnComposed.setLane {s : State} (h : OwnComposed s) (d : Side) (m : Lane) : OwnComposed (s.setLane d m) := by
  simpa [OwnComposed] using h

/-- Whatever a command makes of one lane, the event that follows keeps that frame (R53, R59, R68, R74, R84). -/
theorem laneFollows_lineEvent {s : State} (ho : OwnComposed s) (d : Side) (m : Lane) :
    LaneFollows d s m (lineEvent d (s.setLane d m)) := by
  refine ⟨lineFrame_refreshReports (ho.setLane d m) d _, ?_, ?_⟩
  · simpa [MonitorWorked] using monitorWorked_lineEvent d (s.setLane d m)
  · have h := spanEffects_lineEvent d (s.setLane d m)
    rw [State.setLane_attn, State.setLane_planner] at h
    exact h.of_held (by rw [State.setLane_map]) (State.setLane_fabric s d m)

/-- The event at the Line Monitor leaves of a lane all but its pending report set. -/
theorem lane_lineEvent (d e : Side) (s : State) :
    (lineEvent d s).lane e = { s.lane e with pendingKeys := ((lineEvent d s).lane e).pendingKeys } := by
  have h := lane_refreshReports e (evalMonitor d s)
  rw [evalMonitor, State.lane_setMon] at h
  exact h

end Sys2Proof.Machine
end

section
/-!
PROOFS. The receiver of a lane (R58): what good and bad frames make of it, and that whatever a frame carries, acting on it leaves
both receivers alone (R57).
-/

namespace Sys2Proof.Machine

/-! ### The frame runs -/

/-- Below a run of 8, a good frame in Hunting adds 1 to the run (R58). -/
theorem Lane.countGood_counts {l : Lane} (hHunting : l.lock = .hunting) (hRun : l.goodRun + 1 < 8) :
    l.countGood = { l with goodRun := l.goodRun + 1 } := by
  rw [Lane.countGood, hHunting]
  exact if_pos hRun

/-- The good frame that completes the run of 8 gains lock (R58). -/
theorem Lane.countGood_locks {l : Lane} (hHunting : l.lock = .hunting) (hRun : 8 ≤ l.goodRun + 1) :
    l.countGood = { l with goodRun := 8, lock := .locked, badRun := 0, lockWindow := some 4000 } := by
  rw [Lane.countGood, hHunting]
  exact if_neg (not_lt.2 hRun)

/-- A good frame in Locked restarts the window and clears the bad-frame run (R58). -/
theorem Lane.countGood_keeps {l : Lane} (hLocked : l.lock = .locked) : l.countGood = l.keptLock := by
  cases l; cases hLocked; rfl

/-- A bad frame in Hunting ends the run of good ones (R58). -/
theorem Lane.countBad_hunting {l : Lane} (hHunting : l.lock = .hunting) : l.countBad = { l with goodRun := 0 } := by
  rw [Lane.countBad, hHunting]

/-- Below a run of 4, a bad frame in Locked adds 1 to the run (R58). -/
theorem Lane.countBad_counts {l : Lane} (hLocked : l.lock = .locked) (hRun : l.badRun + 1 < 4) :
    l.countBad = { l with badRun := l.badRun + 1 } := by
  rw [Lane.countBad, hLocked]
  exact if_pos hRun

/-- Losing lock leaves the bad-frame run as it stands (entry 17). -/
theorem Lane.loseLock_eq (l : Lane) : l.loseLock = l.lostLock l.badRun := by
  unfold Lane.loseLock Lane.toDown Lane.fallTo Lane.lostLock Lane.leaveUp
  split <;> rfl

/-- The fourth bad frame in a row loses lock (R58, R59). -/
theorem Lane.countBad_loses {l : Lane} (hLocked : l.lock = .locked) (hRun : 4 ≤ l.badRun + 1) :
    l.countBad = l.lostLock 4 := by
  calc l.countBad
    _ = if l.badRun + 1 < 4 then { l with badRun := l.badRun + 1 } else { l with badRun := 4 }.loseLock := by
      cases l; cases hLocked; rfl
    _ = { l with badRun := 4 }.loseLock := if_neg (not_lt.2 hRun)
    _ = { l with badRun := 4 }.lostLock 4 := Lane.loseLock_eq _
    _ = l.lostLock 4 := by unfold Lane.lostLock; split <;> rfl

@[simp] theorem Lane.lostLock_badRun (l : Lane) (n : Nat) : (l.lostLock n).badRun = n := rfl

/-- The end of the event moves no run of the lane. -/
theorem runs_lineEvent_setLane (d : Side) (s : State) (m : Lane) :
    ((lineEvent d (s.setLane d m)).lane d).goodRun = m.goodRun ∧
      ((lineEvent d (s.setLane d m)).lane d).badRun = m.badRun := by
  rw [lane_lineEvent, State.lane_setLane]
  exact ⟨rfl, rfl⟩

/-! ### What acting on a frame leaves alone -/

/-- The receiver's part of a lane: lock state, runs, and lock window timer (R58). -/
def Lane.receiver (l : Lane) : LockState × Nat × Nat × Option Nat := (l.lock, l.goodRun, l.badRun, l.lockWindow)

theorem Side.eq_or_eq_other (e d : Side) : e = d ∨ e = d.other := by cases e <;> cases d <;> decide

/-- A mark is no part of the receiver. -/
@[simp] theorem Lane.receiver_withKeys (l : Lane) (keys : List Nat) :
    { l with pendingKeys := keys }.receiver = l.receiver := rfl

/-- Writing a lane with the receiver it had keeps both receivers. -/
theorem receiver_setLane {s : State} {d : Side} {l : Lane} (h : l.receiver = (s.lane d).receiver) (e : Side) :
    ((s.setLane d l).lane e).receiver = (s.lane e).receiver := by
  obtain rfl | rfl := Side.eq_or_eq_other e d
  · rw [State.lane_setLane, h]
  · rw [State.lane_setLane_other]

@[simp] theorem lane_raiseIf (b : Bool) (c : Cause) (s : State) (e : Side) : (raiseIf b c s).lane e = s.lane e := by
  rw [raiseIf_eq]; cases e <;> rfl

@[simp] theorem lane_joinCheck (s : State) (e : Side) : (joinCheck s).lane e = s.lane e := by
  unfold joinCheck
  split
  · cases e <;> rfl
  · rfl

@[simp] theorem lane_setExchange (h : Nat) (x : Exchange) (s : State) (e : Side) :
    (setExchange h x s).lane e = s.lane e := by
  rw [setExchange_eq, markChanged_eq]
  split <;> cases e <;> rfl

@[simp] theorem receiver_lineEvent (d : Side) (s : State) (e : Side) :
    ((lineEvent d s).lane e).receiver = (s.lane e).receiver := by
  rw [lane_lineEvent, Lane.receiver_withKeys]

@[simp] theorem receiver_markKey (d : Side) (key : Nat) (s : State) (e : Side) :
    ((markKey d key s).lane e).receiver = (s.lane e).receiver := by
  rw [markKey_eq]; exact receiver_setLane (by rfl) e

@[simp] theorem receiver_markBoth (key : Nat) (s : State) (e : Side) :
    ((markBoth key s).lane e).receiver = (s.lane e).receiver := by
  rw [lane_markBoth, Lane.receiver_withKeys]

@[simp] theorem receiver_giveConfirm (d : Side) (p : PathConfirm) (s : State) (e : Side) :
    ((giveConfirm d p s).lane e).receiver = (s.lane e).receiver := by
  rw [giveConfirm_eq]; exact receiver_setLane (by rfl) e

@[simp] theorem receiver_compareDigest (d : Side) (s : State) (e : Side) :
    ((compareDigest d s).lane e).receiver = (s.lane e).receiver := by
  unfold compareDigest
  split
  · rw [lane_raiseIf]; exact receiver_setLane (by rfl) e
  · rfl

@[simp] theorem Lane.receiver_fallTo (l : Lane) (a : Adjacency) : (l.fallTo a).receiver = l.receiver := by
  unfold Lane.fallTo
  split <;> rfl

/-! Greetings (R61 to R67) -/

theorem receiver_enterUp (d : Side) (s : State) (e : Side) : ((enterUp d s).lane e).receiver = (s.lane e).receiver := by
  rw [enterUp, receiver_compareDigest]; exact receiver_setLane (by rfl) e

theorem receiver_correctGreeting (d : Side) (g : Greeting) (s : State) (e : Side) :
    ((correctGreeting d g s).lane e).receiver = (s.lane e).receiver := by
  unfold correctGreeting
  dsimp only
  split
  · exact receiver_setLane (by rfl) e
  · exact receiver_setLane (by rfl) e
  · split
    · rw [receiver_enterUp]; exact receiver_setLane (by rfl) e
    · exact receiver_setLane (by rfl) e
  · split
    · rw [receiver_compareDigest]; exact receiver_setLane (by rfl) e
    · exact receiver_setLane (Lane.receiver_fallTo ((s.lane d).greeted g) _) e

theorem receiver_incorrectGreeting (d : Side) (g : Greeting) (s : State) (e : Side) :
    ((incorrectGreeting d g s).lane e).receiver = (s.lane e).receiver := by
  rw [incorrectGreeting, lane_raiseIf]; exact receiver_setLane (Lane.receiver_fallTo ((s.lane d).greeted g) _) e

theorem receiver_actOnGreeting (d : Side) (g : Greeting) (s : State) (e : Side) :
    ((actOnGreeting d g s).lane e).receiver = (s.lane e).receiver := by
  rw [actOnGreeting, lane_joinCheck, receiver_lineEvent]
  split
  · exact receiver_correctGreeting d g s e
  · exact receiver_incorrectGreeting d g s e

/-! Span Reports (R71 to R73) -/

theorem receiver_takeOther (d : Side) (r : SpanReport) (s : State) (e : Side) :
    ((takeOther d r s).lane e).receiver = (s.lane e).receiver := by
  unfold takeOther
  dsimp only
  split
  · simp
  · split
    · simp
    · rfl

theorem receiver_takeForOwn (o : Side) (r : SpanReport) (s : State) (e : Side) :
    ((takeForOwn o r s).lane e).receiver = (s.lane e).receiver := by
  unfold takeForOwn
  split
  · simp
  · rfl

theorem receiver_actOnSpanReport (d : Side) (r : SpanReport) (s : State) (e : Side) :
    ((actOnSpanReport d r s).lane e).receiver = (s.lane e).receiver := by
  simp only [actOnSpanReport, apply_ite (fun t : State => (t.lane e).receiver), receiver_takeForOwn, receiver_takeOther,
    ite_self]

/-! Path Confirms (R75, R143 to R146) -/

theorem receiver_confirmArrives (d : Side) (p : PathConfirm) (s : State) (e : Side) :
    ((confirmArrives d p s).lane e).receiver = (s.lane e).receiver := by
  unfold confirmArrives
  split
  · rfl
  · simp only [sendConfirm, apply_ite (fun t : State => (t.lane e).receiver), receiver_giveConfirm, lane_setExchange,
      ite_self]

theorem receiver_forwardConfirm (d : Side) (p : PathConfirm) (s : State) (e : Side) :
    ((forwardConfirm d p s).lane e).receiver = (s.lane e).receiver := by
  simp only [forwardConfirm, apply_ite (fun t : State => (t.lane e).receiver), receiver_giveConfirm, ite_self]

theorem receiver_actOnPathConfirm (d : Side) (p : PathConfirm) (s : State) (e : Side) :
    ((actOnPathConfirm d p s).lane e).receiver = (s.lane e).receiver := by
  simp only [actOnPathConfirm, apply_ite (fun t : State => (t.lane e).receiver), receiver_confirmArrives,
    receiver_forwardConfirm, ite_self]

/-! ### Frames that carry something -/

/-- A frame that is not acted on counts as a Fill does (R57). -/
theorem takeFrame_not_acted {s : State} {d : Side} (h : (s.lane d).lock = .hunting ∨ s.node.ringId = 0) (inRange : Bool)
    (act : State → State) : takeFrame d inRange act s = takeGood d s := by
  have hActs : s.actsOn d = false := by
    rcases h with hHunting | hUnset
    · simp [State.actsOn, hHunting]
    · simp [State.actsOn, hUnset]
  simp [takeFrame, hActs]

/-- Acted on or not, a frame moves the receiver as a good frame does (R57, R58). -/
theorem receiver_takeFrame {act : State → State} {d : Side} (hAct : ∀ s, ((act s).lane d).receiver = (s.lane d).receiver)
    (inRange : Bool) (s : State) : ((takeFrame d inRange act s).lane d).receiver = (s.lane d).countGood.receiver := by
  simp only [takeFrame, apply_ite (fun t : State => (t.lane d).receiver), hAct, ite_self]
  rw [takeGood, receiver_lineEvent, State.lane_setLane]

/-- The frames that carry something, by their command: what each is in range for and what acting on it does. -/
theorem exec_carrying {i : Instr} {d : Side}
    (h : (∃ g, i = .greeting d g) ∨ (∃ r, i = .spanReport d r) ∨ ∃ p, i = .pathConfirm d p) :
    ∃ (inRange : Bool) (act : State → State), (∀ s, exec i s = .next (takeFrame d inRange act s)) ∧
      ∀ s, ((act s).lane d).receiver = (s.lane d).receiver := by
  rcases h with ⟨g, rfl⟩ | ⟨r, rfl⟩ | ⟨p, rfl⟩
  · exact ⟨_, _, fun _ => rfl, fun s => receiver_actOnGreeting d g s d⟩
  · exact ⟨_, _, fun _ => rfl, fun s => receiver_actOnSpanReport d r s d⟩
  · exact ⟨_, _, fun _ => rfl, fun s => receiver_actOnPathConfirm d p s d⟩

/-! ### The law of lock -/

theorem exec_fill (d : Side) (s : State) : exec (.fill d) s = .next (takeGood d s) := rfl

/-- A Fill and a discarded good frame count, and have no further effect (R57). -/
theorem exec_goodFrame {i : Instr} {d : Side} (h : i = .fill d ∨ i = .discardedGoodFrame d) (s : State) :
    exec i s = .next (takeGood d s) := by
  rcases h with rfl | rfl <;> rfl

theorem exec_laneBadFrame (d : Side) (s : State) :
    exec (.laneBadFrame d) s = .next (lineEvent d (s.setLane d (s.lane d).countBad)) := rfl

theorem exec_lockWindowTimerExpiry {s : State} {d : Side} (h : (s.lane d).lockWindow ≠ none) :
    exec (.lockWindowTimerExpiry d) s = .next (lineEvent d (s.setLane d (s.lane d).loseLock)) := by
  obtain ⟨n, hn⟩ := Option.ne_none_iff_exists'.1 h
  show execLockWindowTimerExpiry d s = _
  rw [execLockWindowTimerExpiry, hn]

/-- The law of a good frame: the run in Hunting, the gain of lock at 8, and the restarted window in Locked (R58). -/
theorem goodFrame_follows {s : State} (ho : OwnComposed s) (d : Side) :
    let l := s.lane d
    let t := takeGood d s
    (l.lock = .hunting → l.goodRun + 1 < 8 → LaneFollows d s { l with goodRun := l.goodRun + 1 } t) ∧
      (l.lock = .hunting → 8 ≤ l.goodRun + 1 → LaneFollows d s
        { l with goodRun := (t.lane d).goodRun, lock := .locked, badRun := 0, lockWindow := some 4000 } t) ∧
      (l.lock = .locked → LaneFollows d s l.keptLock t) := by
  intro l t
  have hFollows : ∀ m, l.countGood = m → LaneFollows d s m t := by
    rintro _ rfl; exact laneFollows_lineEvent ho d _
  have hRunAfter : (t.lane d).goodRun = l.countGood.goodRun := (runs_lineEvent_setLane d s _).1
  refine ⟨fun hHunting hRun => hFollows _ (Lane.countGood_counts hHunting hRun), fun hHunting hRun => hFollows _ ?_,
    fun hLocked => hFollows _ (Lane.countGood_keeps hLocked)⟩
  rw [hRunAfter, Lane.countGood_locks hHunting hRun]

/-- The law of a bad frame: the end of the run in Hunting, and in Locked the run of bad frames, which loses lock at 4 (R58). -/
theorem badFrame_follows {s : State} (ho : OwnComposed s) (d : Side) :
    let l := s.lane d
    let t := lineEvent d (s.setLane d l.countBad)
    (l.lock = .hunting → LaneFollows d s { l with goodRun := 0 } t) ∧
      (l.lock = .locked → l.badRun + 1 < 4 → LaneFollows d s { l with badRun := l.badRun + 1 } t) ∧
      (l.lock = .locked → 4 ≤ l.badRun + 1 → LaneFollows d s (l.lostLock (t.lane d).badRun) t) := by
  intro l t
  have hFollows : ∀ m, l.countBad = m → LaneFollows d s m t := by
    rintro _ rfl; exact laneFollows_lineEvent ho d _
  have hRunAfter : (t.lane d).badRun = l.countBad.badRun := (runs_lineEvent_setLane d s _).2
  refine ⟨fun hHunting => hFollows _ (Lane.countBad_hunting hHunting),
    fun hLocked hRun => hFollows _ (Lane.countBad_counts hLocked hRun), fun hLocked hRun => hFollows _ ?_⟩
  rw [hRunAfter, Lane.countBad_loses hLocked hRun, Lane.lostLock_badRun]

/-- The law of the lock window's end: lock is lost, and the bad-frame run stays as it stood (R58, entry 17). -/
theorem lockWindowEnd_follows {s : State} (ho : OwnComposed s) (d : Side) :
    let t := lineEvent d (s.setLane d (s.lane d).loseLock)
    LaneFollows d s ((s.lane d).lostLock (t.lane d).badRun) t := by
  intro t
  have hRunAfter : (t.lane d).badRun = (s.lane d).loseLock.badRun := (runs_lineEvent_setLane d s _).2
  rw [hRunAfter, Lane.loseLock_eq, Lane.lostLock_badRun, ← Lane.loseLock_eq]
  exact laneFollows_lineEvent ho d _

/-- Settles O44: the counting of R58 on the lane, the frame of an event at the Line Monitor of that side for the rest of the
block, and that a frame which is acted on leaves the receiver as a good frame has left it. -/
theorem lockFollowsFrameRuns : Obligations.LockFollowsFrameRuns := by
  intro s d ho _
  refine ⟨fun i hi => ⟨takeGood d s, exec_goodFrame hi s, goodFrame_follows ho d⟩,
    ⟨_, exec_laneBadFrame d s, badFrame_follows ho d⟩,
    fun hWindow => ⟨_, exec_lockWindowTimerExpiry hWindow, lockWindowEnd_follows ho d⟩, fun i hi => ?_⟩
  obtain ⟨inRange, act, hExec, hAct⟩ := exec_carrying hi
  refine ⟨fun hNotActed => ?_, fun hLocked => ⟨_, hExec s, ?_⟩⟩
  · rw [hExec, takeFrame_not_acted hNotActed, exec_fill]
  · have hReceiver := receiver_takeFrame hAct inRange s
    rw [Lane.countGood_keeps hLocked] at hReceiver
    simp only [Lane.receiver, Lane.keptLock, Prod.mk.injEq] at hReceiver
    obtain ⟨hLock, -, hBadRun, hWindow⟩ := hReceiver
    exact ⟨hLock.trans hLocked, hBadRun, hWindow⟩

end Sys2Proof.Machine
end

section
/-!
PROOFS. The Management Port (09). What carrying out a request does to the port: nothing, but that a Soft Reset is armed. It is
said once for each operation that a request uses, then for the carrying out of each request, and from it the law of the
collision latch and of MP_DO (R155, R158).
-/

namespace Sys2Proof.Machine

/-! ### Shared operations leave the port alone -/

@[simp] theorem port_raiseIf (b : Bool) (c : Cause) (s : State) : (raiseIf b c s).port = s.port := by rw [raiseIf_eq]

@[simp] theorem port_markChanged (h : Nat) (s : State) : (markChanged h s).port = s.port := by rw [markChanged_eq]

@[simp] theorem port_markChangedIf (b : Bool) (h : Nat) (s : State) : (markChangedIf b h s).port = s.port := by
  cases b
  · rfl
  · exact port_markChanged h s

@[simp] theorem port_setDigest (v : BitVec 32) (s : State) : (setDigest v s).port = s.port := by rw [setDigest_eq]

@[simp] theorem port_freeRecord (h : Nat) (s : State) : (freeRecord h s).port = s.port := rfl

/-- An operation that leaves the port alone for one number leaves it alone for each number of a list. -/
theorem port_forEach {f : Nat → State → State} (hf : ∀ h s, (f h s).port = s.port) (l : List Nat) (s : State) :
    (forEach l f s).port = s.port := by
  induction l generalizing s with
  | nil => rfl
  | cons h l ih => exact (ih (f h s)).trans (hf h s)

@[simp] theorem port_hostTrigger (s : State) : (hostTrigger s).port = s.port := by rw [hostTrigger_eq]

@[simp] theorem port_refreshReports (s : State) : (refreshReports s).port = s.port := by rw [refreshReports_eq]

@[simp] theorem port_evalMonitor (d : Side) (s : State) : (evalMonitor d s).port = s.port := by
  rw [evalMonitor_eq, State.setMon_port]

@[simp] theorem port_joinCheck (s : State) : (joinCheck s).port = s.port := by unfold joinCheck; split <;> rfl

/-! ### Exchanges and the Fabric Driver -/

@[simp] theorem port_giveConfirm (d : Side) (p : PathConfirm) (s : State) : (giveConfirm d p s).port = s.port := by
  rw [giveConfirm_eq, State.setLane_port]

@[simp] theorem port_sendConfirm (h : Nat) (r : Role) (heard : Bool) (s : State) :
    (sendConfirm h r heard s).port = s.port := port_giveConfirm _ _ s

@[simp] theorem port_setExchange (h : Nat) (x : Exchange) (s : State) : (setExchange h x s).port = s.port := by
  simp [setExchange]

@[simp] theorem port_testLocal (h : Nat) (s : State) : (testLocal h s).port = s.port := by
  unfold testLocal enterAwaiting
  split
  · rfl
  · split
    · simp
    · rfl

@[simp] theorem port_restartSending (h : Nat) (s : State) : (restartSending h s).port = s.port := by
  unfold restartSending
  dsimp only
  split
  · rfl
  · split
    · split <;> simp
    · rfl

@[simp] theorem port_resumeExchange (h : Nat) (s : State) : (resumeExchange h s).port = s.port := by
  unfold resumeExchange
  dsimp only
  split <;> simp

@[simp] theorem port_resumeExchanges (s : State) : (resumeExchanges s).port = s.port :=
  port_forEach port_resumeExchange _ s

@[simp] theorem port_refreshConnOf (h : Nat) (s : State) : (refreshConnOf h s).port = s.port := by
  unfold refreshConnOf
  split
  · rfl
  · simp

@[simp] theorem port_refreshConn (s : State) : (refreshConn s).port = s.port := port_forEach port_refreshConnOf _ s

@[simp] theorem port_dispatch (s : State) : (dispatch s).port = s.port := by
  unfold dispatch
  split
  · rfl
  · split
    · rfl
    · split <;> rfl

/-! ### The Record Store -/

@[simp] theorem port_stageImage (h : Nat) (i : StageImage) (s : State) : (stageImage h i s).port = s.port := by
  unfold stageImage stageFields
  split
  · rfl
  · dsimp only
    rw [State.setRec_port, joinBucket, State.setBucket_port]
    split
    · rfl
    · split <;> rfl

@[simp] theorem port_makeActive (h : Nat) (s : State) : (makeActive h s).port = s.port := by
  unfold makeActive
  dsimp only
  split <;> rfl

@[simp] theorem port_activateAll (l : List Nat) (s : State) : (activateAll l s).port = s.port := by
  rw [activateAll, port_hostTrigger, port_setDigest, port_forEach port_makeActive]

@[simp] theorem port_amendPlanning (h : Nat) (p : Planning) (s : State) : (amendPlanning h p s).port = s.port := by
  unfold amendPlanning
  dsimp only
  split
  · rfl
  · simp

@[simp] theorem port_amendFields (h : Nat) (p : Planning) (port : Option Byte) (s : State) :
    (amendFields h p port s).port = s.port := by
  unfold amendFields amendPort
  split
  · rfl
  · simp

@[simp] theorem port_retireFields (h : Nat) (s : State) : (retireFields h s).port = s.port := by
  unfold retireFields
  split <;> simp

@[simp] theorem port_haltStream (h : Nat) (reason : HaltReason) (status : Option Status) (s : State) :
    (haltStream h reason status s).port = s.port := rfl

@[simp] theorem port_completeStream (s : State) : (completeStream s).port = s.port := rfl

@[simp] theorem port_stageChunk (l : List StageImage) (n : Nat) (s : State) :
    (stageChunk l n s).state.port = s.port := by
  induction l generalizing n s with
  | nil => rfl
  | cons i l ih =>
    unfold stageChunk
    dsimp only
    split
    · rfl
    · split
      · rfl
      · rw [ih, State.setStream_port, port_stageImage]

@[simp] theorem port_finishStream (s : State) : (finishStream s).1.port = s.port := by
  unfold finishStream
  dsimp only
  split
  · split
    · rfl
    · rw [port_completeStream, port_activateAll]
  · rfl

/-! ### Start, Stop and the settings of the node, the spans and the ring -/

@[simp] theorem port_enterJoining (s : State) : (enterJoining s).port = s.port := by simp [enterJoining]

@[simp] theorem port_stopNode (s : State) : (stopNode s).port = s.port := by
  rw [stopNode, port_refreshReports]; rfl

@[simp] theorem port_dropDetour (h : Nat) (s : State) : (dropDetour h s).port = s.port := by
  unfold dropDetour
  split
  · rfl
  · split
    · simp
    · rfl

@[simp] theorem port_writeResult (h : Nat) (o : Outcome) (w : Reason) (s : State) :
    (writeResult h o w s).port = s.port := by simp [writeResult]

@[simp] theorem port_unplan (h : Nat) (s : State) : (unplan h s).port = s.port := by
  unfold unplan
  split <;> simp

@[simp] theorem port_changeRing (ringId ringSize own : Nat) (s : State) :
    (changeRing ringId ringSize own s).port = s.port := by
  simp [changeRing, port_forEach port_unplan, emptyPlan, newRing, port_forEach port_dropDetour]

@[simp] theorem port_writeDelay (span : Nat) (delay : BitVec 16) (s : State) :
    (writeDelay span delay s).port = s.port := by simp [writeDelay]

@[simp] theorem port_setForce (d : Side) (flag : Bool) (s : State) : (setForce d flag s).port = s.port := by
  simp [setForce]

/-! ### Carrying out a request -/

/-- What carrying out a request may do to the port: a Soft Reset is armed, and the rest stays (R36, R160). -/
def KeepsPort (carry : State → Carried) : Prop :=
  ∀ s, (carry s).state.port = { s.port with softResetArmed := (carry s).state.port.softResetArmed }

/-- Carrying out that leaves the whole port alone. -/
theorem KeepsPort.of_port_eq {carry : State → Carried} (h : ∀ s, (carry s).state.port = s.port) : KeepsPort carry := by
  intro s
  rw [h s]

theorem keepsPort_softReset : KeepsPort carrySoftReset := fun _ => rfl

theorem keepsPort_answerOnly (status : Status) : KeepsPort (answerOnly status) := fun _ => rfl

theorem keepsPort_start : KeepsPort carryStart := .of_port_eq fun s => by
  unfold carryStart
  split
  · rfl
  · exact port_enterJoining s

theorem keepsPort_stop : KeepsPort carryStop := .of_port_eq fun s => by
  unfold carryStop
  split
  · rfl
  · exact port_stopNode s

theorem keepsPort_setRing (ringId ringSize own : Nat) : KeepsPort (carrySetRing ringId ringSize own) :=
  .of_port_eq fun s => by
    unfold carrySetRing
    split
    · rfl
    · split
      · rfl
      · split
        · rfl
        · split
          · rfl
          · dsimp only
            split
            · rfl
            · exact port_changeRing ringId ringSize own s

theorem keepsPort_setTimers (a b c d e : Nat) : KeepsPort (carrySetTimers a b c d e) := fun _ => rfl

theorem keepsPort_setDegrade (side leak declare clear : Nat) : KeepsPort (carrySetDegrade side leak declare clear) :=
  .of_port_eq fun s => by
    unfold carrySetDegrade
    split
    · rfl
    · exact State.setMon_port s _ _

theorem keepsPort_setSpanDelay (span : Nat) (delay : BitVec 16) : KeepsPort (carrySetSpanDelay span delay) :=
  .of_port_eq fun s => by
    unfold carrySetSpanDelay
    split
    · rfl
    · dsimp only
      split
      · rfl
      · exact port_writeDelay span delay s

theorem keepsPort_readNode : KeepsPort carryReadNode := fun _ => rfl

theorem keepsPort_stageRecord (h : Nat) (i : StageImage) : KeepsPort (carryStage h i) := .of_port_eq fun s => by
  unfold carryStage
  split
  · rfl
  · split
    · rfl
    · exact port_stageImage h i s

theorem keepsPort_amendRecord (h : Nat) (i : StageImage) : KeepsPort (carryAmend h i) := .of_port_eq fun s => by
  unfold carryAmend
  split
  · rfl
  · split
    · rfl
    · split
      · rfl
      · exact port_amendFields h _ _ s

theorem keepsPort_activateRecord (h : Nat) : KeepsPort (carryActivate h) := .of_port_eq fun s => by
  unfold carryActivate
  split
  · rfl
  · split
    · rfl
    · exact port_activateAll [h] s

theorem keepsPort_retireRecord (h : Nat) : KeepsPort (carryRetire h) := .of_port_eq fun s => by
  unfold carryRetire
  split
  · rfl
  · split
    · rfl
    · exact port_retireFields h s

theorem keepsPort_discardRecord (h : Nat) : KeepsPort (carryDiscard h) := .of_port_eq fun s => by
  unfold carryDiscard
  split
  · rfl
  · split <;> rfl

theorem keepsPort_readRecord (h : Nat) : KeepsPort (carryReadRecord h) := .of_port_eq fun s => by
  unfold carryReadRecord
  split <;> rfl

theorem keepsPort_findCircuit (circuit : Nat) : KeepsPort (carryFindCircuit circuit) := .of_port_eq fun s => by
  unfold carryFindCircuit
  split
  · rfl
  · split <;> rfl

theorem keepsPort_nextChanged : KeepsPort carryNextChanged := .of_port_eq fun s => by
  unfold carryNextChanged
  split <;> rfl

theorem keepsPort_streamBegin (first count : Nat) (activate : Bool) : KeepsPort (carryStreamBegin first count activate) :=
  .of_port_eq fun s => by
    unfold carryStreamBegin
    split
    · rfl
    · split <;> rfl

theorem keepsPort_streamChunk (images : List StageImage) : KeepsPort (carryStreamChunk images) :=
  .of_port_eq fun s => by
    unfold carryStreamChunk
    split
    · rfl
    · split
      · rfl
      · dsimp only
        split
        · exact port_stageChunk images 0 s
        · split
          · exact (port_finishStream _).trans (port_stageChunk images 0 s)
          · exact port_stageChunk images 0 s

theorem keepsPort_streamStatus : KeepsPort (withStream .ok) := fun _ => rfl

theorem keepsPort_streamAbort : KeepsPort carryStreamAbort := fun _ => rfl

theorem keepsPort_force (side : Nat) (flag : Bool) : KeepsPort (carryForce side flag) := .of_port_eq fun s => by
  unfold carryForce
  split
  · rfl
  · exact port_setForce _ flag s

theorem keepsPort_readSpanMap : KeepsPort carryReadSpanMap := fun _ => rfl

theorem keepsPort_readLane (side : Nat) : KeepsPort (carryReadLane side) := .of_port_eq fun s => by
  unfold carryReadLane
  split <;> rfl

theorem keepsPort_readSlotGrants (span : Nat) : KeepsPort (carryReadSlotGrants span) := .of_port_eq fun s => by
  unfold carryReadSlotGrants
  split <;> rfl

theorem keepsPort_readConnections (first count : Nat) : KeepsPort (carryReadConnections first count) :=
  .of_port_eq fun s => by
    unfold carryReadConnections
    split <;> rfl

theorem keepsPort_readSummary : KeepsPort carryReadSummary := fun _ => rfl

theorem keepsPort_acknowledge (cause : Nat) : KeepsPort (carryAcknowledge cause) := .of_port_eq fun s => by
  unfold carryAcknowledge
  split <;> rfl

theorem keepsPort_setMask (enables : Byte) : KeepsPort (carrySetMask enables) := fun _ => rfl

/-! ### The end of a request transaction -/

/-- A command that ends a request transaction with a frame to answer: the port takes it with some tag, and carrying it out
keeps the port (R156, R157). -/
theorem exec_taking {i : Instr}
    (hTakes : isRequest i = true ∨ (∃ b, i = .badFrame b) ∨ ∃ b, i = .unknownCommand b) :
    ∃ (tag : Byte) (carry : State → Carried),
      (∀ s, exec i s = .next (takeRequest i tag carry s)) ∧ KeepsPort carry := by
  rcases hTakes with hRequest | ⟨b, rfl⟩ | ⟨b, rfl⟩
  · cases i with
    | start tag => exact ⟨tag, _, fun _ => rfl, keepsPort_start⟩
    | stop tag => exact ⟨tag, _, fun _ => rfl, keepsPort_stop⟩
    | softReset tag => exact ⟨tag, _, fun _ => rfl, keepsPort_softReset⟩
    | setRing tag ringId ringSize own => exact ⟨tag, _, fun _ => rfl, keepsPort_setRing ringId ringSize own⟩
    | setTimers tag a b c d e => exact ⟨tag, _, fun _ => rfl, keepsPort_setTimers a b c d e⟩
    | setDegrade tag side leak declare clear => exact ⟨tag, _, fun _ => rfl, keepsPort_setDegrade side _ _ _⟩
    | setSpanDelay tag span delay => exact ⟨tag, _, fun _ => rfl, keepsPort_setSpanDelay span delay⟩
    | readNode tag => exact ⟨tag, _, fun _ => rfl, keepsPort_readNode⟩
    | stageRecord tag h image => exact ⟨tag, _, fun _ => rfl, keepsPort_stageRecord h image⟩
    | amendRecord tag h image => exact ⟨tag, _, fun _ => rfl, keepsPort_amendRecord h image⟩
    | activateRecord tag h => exact ⟨tag, _, fun _ => rfl, keepsPort_activateRecord h⟩
    | retireRecord tag h => exact ⟨tag, _, fun _ => rfl, keepsPort_retireRecord h⟩
    | discardRecord tag h => exact ⟨tag, _, fun _ => rfl, keepsPort_discardRecord h⟩
    | readRecord tag h => exact ⟨tag, _, fun _ => rfl, keepsPort_readRecord h⟩
    | findCircuit tag circuit => exact ⟨tag, _, fun _ => rfl, keepsPort_findCircuit circuit⟩
    | nextChanged tag => exact ⟨tag, _, fun _ => rfl, keepsPort_nextChanged⟩
    | streamBegin tag first count activate => exact ⟨tag, _, fun _ => rfl, keepsPort_streamBegin first count activate⟩
    | streamChunk tag images => exact ⟨tag, _, fun _ => rfl, keepsPort_streamChunk images⟩
    | streamStatus tag => exact ⟨tag, _, fun _ => rfl, keepsPort_streamStatus⟩
    | streamAbort tag => exact ⟨tag, _, fun _ => rfl, keepsPort_streamAbort⟩
    | forceSpan tag side => exact ⟨tag, _, fun _ => rfl, keepsPort_force side true⟩
    | releaseSpan tag side => exact ⟨tag, _, fun _ => rfl, keepsPort_force side false⟩
    | readSpanMap tag => exact ⟨tag, _, fun _ => rfl, keepsPort_readSpanMap⟩
    | readLane tag side => exact ⟨tag, _, fun _ => rfl, keepsPort_readLane side⟩
    | readSlotGrants tag span => exact ⟨tag, _, fun _ => rfl, keepsPort_readSlotGrants span⟩
    | readConnections tag first count => exact ⟨tag, _, fun _ => rfl, keepsPort_readConnections first count⟩
    | readSummary tag => exact ⟨tag, _, fun _ => rfl, keepsPort_readSummary⟩
    | acknowledgeCause tag cause => exact ⟨tag, _, fun _ => rfl, keepsPort_acknowledge cause⟩
    | setAttentionMask tag enables => exact ⟨tag, _, fun _ => rfl, keepsPort_setMask enables⟩
    | _ => exact absurd hRequest Bool.false_ne_true
  · exact ⟨frameTag b, _, fun _ => rfl, keepsPort_answerOnly .badFrame⟩
  · exact ⟨frameTag b, _, fun _ => rfl, keepsPort_answerOnly .unknownCommand⟩

theorem takeRequest_not_working (i : Instr) (tag : Byte) (carry : State → Carried) {s : State}
    (h : s.port.state ≠ .working) :
    takeRequest i tag carry s = putInHand i tag (carry (clearHolder (beforeTaking s))) := if_neg h

/-- A request that is taken leaves the port Working with the collision latch clear and no frame on MP_DO (R155, R156, R158). -/
theorem takeRequest_port {carry : State → Carried} (hKeeps : KeepsPort carry) (i : Instr) (tag : Byte) {s : State}
    (h : s.port.state ≠ .working) :
    (takeRequest i tag carry s).port.state = .working ∧ (takeRequest i tag carry s).port.collision = false ∧
      (takeRequest i tag carry s).port.output = PortOutput.silent := by
  rw [takeRequest_not_working i tag carry h]
  have hPort := hKeeps (clearHolder (beforeTaking s))
  refine ⟨rfl, ?_, ?_⟩
  · show (carry _).state.port.collision = false
    rw [hPort]; rfl
  · show (carry _).state.port.output = PortOutput.silent
    rw [hPort]; rfl

theorem exec_requestDiscarded {s : State} (h : s.port.state = .working) :
    exec .requestDiscarded s = .next (discardRequest s) := if_pos h

theorem exec_responsePlaced {s : State} {x : InHand} (hWorking : s.port.state = .working)
    (hInHand : s.port.inHand = some x) : exec .responsePlaced s = .next (placeResponse x s) := by
  show execResponsePlaced s = _
  rw [execResponsePlaced, hWorking, hInHand]

/-- Settles O21: what ends a request transaction is either a frame that the port would take (`exec_taking`) or the discard
itself; in Working both set the latch, and elsewhere the taking clears it before a carrying out that keeps it clear. -/
theorem workingPortDiscardsAndPlaces : Obligations.WorkingPortDiscardsAndPlaces := by
  refine ⟨fun i s hWorking hEnds => ?_, fun i s t hNotWorking hTakes hNext => ?_,
    fun s x hWorking hInHand => exec_responsePlaced hWorking hInHand⟩
  · have hCases : (isRequest i = true ∨ (∃ b, i = .badFrame b) ∨ ∃ b, i = .unknownCommand b) ∨ i = .requestDiscarded := by
      tauto
    rcases hCases with hTakes | rfl
    · obtain ⟨tag, carry, hExec, -⟩ := exec_taking hTakes
      rw [hExec, takeRequest_working i tag carry s hWorking]
      rfl
    · exact exec_requestDiscarded hWorking
  · obtain ⟨tag, carry, hExec, hKeeps⟩ := exec_taking hTakes
    obtain rfl : takeRequest i tag carry s = t := by simpa [hExec] using hNext
    obtain ⟨hState, hCollision, hOutput⟩ := takeRequest_port hKeeps i tag hNotWorking
    exact ⟨hState, hCollision, fun k => by rw [hOutput, bit_silent]⟩

end Sys2Proof.Machine
end

section
/-!
PROOFS. The Attention Unit (10). First its sets of causes: membership as one bit of a byte, and the pending and enabled cause of
lowest number. Then what raising, latching, acknowledging and masking do to the unit, and from it what the attention requests
do (R170 to R173).
-/

namespace Sys2Proof.Machine

/-! ### The numbers of the causes -/

@[simp] theorem causeOf_causeNumber (c : Cause) : causeOf (causeNumber c) = some c := by cases c <;> rfl

/-- No number outside 1 to 8 names a cause (R173). -/
theorem causeOf_eq_none {n : Nat} (h : n = 0 ∨ 8 < n) : causeOf n = none := by
  unfold causeOf
  split
  case h_9 => rfl
  all_goals omega

/-- The cause that a number names has that number. -/
theorem causeNumber_of_causeOf {n : Nat} {c : Cause} (h : causeOf n = some c) : causeNumber c = n := by
  unfold causeOf at h
  split at h
  case h_9 => cases h
  all_goals cases h; rfl

theorem mem_allCauses (c : Cause) : c ∈ allCauses := by cases c <;> decide

/-- The causes are listed by rising number. -/
theorem allCauses_pairwise : allCauses.Pairwise (fun b c => causeNumber b < causeNumber c) := by decide

/-- Looking through the causes in order finds the one of lowest number (R172). -/
theorem find?_allCauses_eq_some_iff (p : Cause → Bool) (c : Cause) :
    allCauses.find? p = some c ↔ p c = true ∧ ∀ b, causeNumber b < causeNumber c → p b = false := by
  rw [List.find?_eq_some_iff_append]
  refine and_congr_right fun _ => ⟨?_, fun hLower => ?_⟩
  · rintro ⟨before, after, hSplit, hBefore⟩ b hb
    have hSorted := allCauses_pairwise
    rw [hSplit, List.pairwise_append, List.pairwise_cons] at hSorted
    obtain ⟨-, ⟨hAfter, -⟩, -⟩ := hSorted
    have hMem : b ∈ before ++ c :: after := hSplit ▸ mem_allCauses b
    rcases List.mem_append.1 hMem with hIn | hIn
    · simpa using hBefore b hIn
    · rcases List.mem_cons.1 hIn with rfl | hIn
      · exact absurd hb (lt_irrefl _)
      · exact absurd (hAfter b hIn) (lt_asymm hb)
  · obtain ⟨before, after, hSplit⟩ := List.append_of_mem (mem_allCauses c)
    have hSorted := allCauses_pairwise
    rw [hSplit, List.pairwise_append] at hSorted
    obtain ⟨-, -, hBelow⟩ := hSorted
    exact ⟨before, after, hSplit, fun b hb => by simp [hLower b (hBelow b hb c List.mem_cons_self)]⟩

/-! ### Sets of causes -/

/-- The bit of a cause is a power of two (R179). -/
theorem causeBit_eq_twoPow (c : Cause) : causeBit c = BitVec.twoPow 8 (8 - causeNumber c) := by cases c <;> rfl

/-- A cause is in a set where the bit of its place is set (R179). -/
theorem causeIn_eq_getLsbD (set : Byte) (c : Cause) : causeIn set c = set.getLsbD (8 - causeNumber c) := by
  have hBit : BitVec.twoPow 8 (8 - causeNumber c) ≠ 0#8 := by cases c <;> decide
  rw [causeIn, causeBit_eq_twoPow, BitVec.and_twoPow]
  cases set.getLsbD (8 - causeNumber c) <;> simp [hBit]

@[simp] theorem causeIn_and (x y : Byte) (c : Cause) : causeIn (x &&& y) c = (causeIn x c && causeIn y c) := by
  simp [causeIn_eq_getLsbD]

@[simp] theorem causeIn_or (x y : Byte) (c : Cause) : causeIn (x ||| y) c = (causeIn x c || causeIn y c) := by
  simp [causeIn_eq_getLsbD]

@[simp] theorem causeIn_not (x : Byte) (c : Cause) : causeIn (~~~ x) c = !causeIn x c := by
  have hPlace : 8 - causeNumber c < 8 := by cases c <;> decide
  simp [causeIn_eq_getLsbD, hPlace]

@[simp] theorem causeIn_zero (c : Cause) : causeIn 0#8 c = false := by simp [causeIn_eq_getLsbD]

/-- The bit of a cause is the set of that cause alone. -/
@[simp] theorem causeIn_causeBit (c b : Cause) : causeIn (causeBit c) b = decide (b = c) := by
  cases c <;> cases b <;> rfl

/-- Every bit of a byte is the place of a cause (R179). -/
theorem exists_cause_at {i : Nat} (h : i < 8) : ∃ c, 8 - causeNumber c = i := by
  have hAll : ∀ j : Fin 8, ∃ c ∈ allCauses, 8 - causeNumber c = j := by decide
  obtain ⟨c, -, hc⟩ := hAll ⟨i, h⟩
  exact ⟨c, hc⟩

/-- A set holds a cause exactly when its byte is not 0. -/
theorem ne_zero_iff_causeIn (set : Byte) : set ≠ 0 ↔ ∃ c, causeIn set c = true := by
  constructor
  · intro hNonzero
    by_contra hNone
    refine hNonzero (BitVec.eq_of_getLsbD_eq fun i hi => ?_)
    obtain ⟨c, rfl⟩ := exists_cause_at hi
    have hOut : causeIn set c = false := by simpa using not_exists.1 hNone c
    simpa [causeIn_eq_getLsbD] using hOut
  · rintro ⟨c, hc⟩ rfl
    simp at hc

/-! ### The operations of the unit -/

/-- ATTN_N is due exactly while a cause is both pending and enabled (R171). -/
theorem Attention.calls_iff (a : Attention) :
    a.calls = true ↔ ∃ c, causeIn a.pending c = true ∧ causeIn a.mask c = true := by
  simp only [Attention.calls, decide_eq_true_iff, ne_zero_iff_causeIn, causeIn_and, Bool.and_eq_true]

/-- The pending and enabled cause of lowest number (R172). -/
theorem Attention.top_eq_some_iff (a : Attention) (c : Cause) :
    a.top = some c ↔ causeIn a.pending c = true ∧ causeIn a.mask c = true ∧
      ∀ b, causeNumber b < causeNumber c → ¬ (causeIn a.pending b = true ∧ causeIn a.mask b = true) := by
  simp only [Attention.top, find?_allCauses_eq_some_iff, causeIn_and, ← Bool.not_eq_true, Bool.and_eq_true, and_assoc]

/-- Filling the latch writes the latch alone (R172). -/
theorem Attention.fillLatch_eq (a : Attention) : a.fillLatch = { a with latch := a.fillLatch.latch } := by
  unfold Attention.fillLatch
  split <;> rfl

/-- A full latch stays (R172). -/
theorem Attention.fillLatch_of_full {a : Attention} (h : a.latch ≠ none) : a.fillLatch = a := by
  obtain ⟨c, hc⟩ := Option.ne_none_iff_exists'.1 h
  rw [Attention.fillLatch, hc]

/-- An empty latch takes the top cause, if there is one (R172). -/
theorem Attention.fillLatch_latch_of_empty {a : Attention} (h : a.latch = none) : a.fillLatch.latch = a.top := by
  rw [Attention.fillLatch, h]

theorem Attention.acknowledge_of_pending {a : Attention} {c : Cause} (h : causeIn a.pending c = true) :
    a.acknowledge c =
      { a with pending := a.pending &&& ~~~ (causeBit c), latch := if a.latch = some c then none else a.latch }.drive :=
  if_pos h

/-- A cause that is not pending is acknowledged without effect (R173). -/
theorem Attention.acknowledge_of_not_pending {a : Attention} {c : Cause} (h : causeIn a.pending c = false) :
    a.acknowledge c = a := if_neg (by simp [h])

/-! ### The attention requests -/

theorem exec_readSummary {s : State} (h : Accepts s) (tag : Byte) :
    exec (.readSummary tag) s = .next (State.withRequest { s with attn := s.attn.fillLatch } (.readSummary tag) tag .ok
      s.attn.fillLatch.summaryBytes) := by
  show Host.Outcome.next (takeRequest _ tag carryReadSummary s) = _
  rw [takeRequest_accepts _ tag _ s h]
  rfl

theorem exec_acknowledgeCause {s : State} (h : Accepts s) (tag : Byte) (c : Cause) :
    exec (.acknowledgeCause tag (causeNumber c)) s = .next (State.withRequest { s with attn := s.attn.acknowledge c }
      (.acknowledgeCause tag (causeNumber c)) tag .ok
      ([(s.attn.acknowledge c).pending] ++ latchBytes (s.attn.acknowledge c).latch)) := by
  show Host.Outcome.next (takeRequest _ tag (carryAcknowledge (causeNumber c)) s) = _
  rw [takeRequest_accepts _ tag _ s h, carryAcknowledge, causeOf_causeNumber]
  rfl

theorem exec_acknowledgeCause_outside {s : State} (h : Accepts s) (tag : Byte) {n : Nat} (hn : n = 0 ∨ 8 < n) :
    exec (.acknowledgeCause tag n) s = .next (s.withRequest (.acknowledgeCause tag n) tag .invalidField []) := by
  show Host.Outcome.next (takeRequest _ tag (carryAcknowledge n) s) = _
  rw [takeRequest_accepts _ tag _ s h, carryAcknowledge, causeOf_eq_none hn]
  rfl

theorem exec_setAttentionMask {s : State} (h : Accepts s) (tag enables : Byte) :
    exec (.setAttentionMask tag enables) s = .next (State.withRequest { s with attn := s.attn.setMask enables }
      (.setAttentionMask tag enables) tag .ok [enables]) := by
  show Host.Outcome.next (takeRequest _ tag (carrySetMask enables) s) = _
  rw [takeRequest_accepts _ tag _ s h]
  rfl

/-- Settles O60: the acknowledged cause leaves the pending set as one bit, and the pin is driven from the set that remains; a
mask that is written drives it from the pending set as it stands. -/
theorem acknowledgeAndMaskDriveThePin : Obligations.AcknowledgeAndMaskDriveThePin := by
  refine ⟨fun s tag c hAccepts => ⟨fun hPending => ?_, fun hNot => ?_⟩,
    fun s tag n hAccepts hn => exec_acknowledgeCause_outside hAccepts tag hn,
    fun s tag enables hAccepts =>
      ⟨(s.attn.setMask enables).asserted, Attention.calls_iff _, exec_setAttentionMask hAccepts tag enables⟩⟩
  · refine ⟨s.attn.acknowledge c, ?_, ?_, ?_, ?_, exec_acknowledgeCause hAccepts tag c⟩
    all_goals rw [Attention.acknowledge_of_pending hPending]
    · intro b
      simp [Attention.drive]
    · rfl
    · rfl
    · exact Attention.calls_iff _
  · rw [exec_acknowledgeCause hAccepts tag c, Attention.acknowledge_of_not_pending hNot]

end Sys2Proof.Machine
end

section
/-!
PROOFS. What every command does to the Attention Unit. All operations of the block but the resets and the attention requests do
one thing to it: they raise causes (R169). That is said once for each operation, then for each command, and from it follow the
level of ATTN_N after every step (R171) and who fills and empties the latch (R172).
-/

namespace Sys2Proof.Machine

/-! ### Raising causes -/

/-- `b` comes of `a` by raising causes, none or some in some order (R169). -/
def Attention.Raised (a b : Attention) : Prop := ∃ causes : List Cause, b = causes.foldl Attention.raise a

theorem Attention.Raised.refl (a : Attention) : a.Raised a := ⟨[], rfl⟩

theorem Attention.Raised.raise {a b : Attention} (h : a.Raised b) (c : Cause) : a.Raised (b.raise c) := by
  obtain ⟨causes, rfl⟩ := h
  exact ⟨causes ++ [c], by rw [List.foldl_append]; rfl⟩

/-- What holds of a unit and survives the raising of a cause holds after every raising. -/
theorem Attention.Raised.induct {P : Attention → Prop} (hRaise : ∀ x c, P x → P (x.raise c)) {a b : Attention}
    (h : a.Raised b) (ha : P a) : P b := by
  obtain ⟨causes, rfl⟩ := h
  induction causes generalizing a with
  | nil => exact ha
  | cons c causes ih => exact ih (hRaise a c ha)

/-- Raising causes leaves the latch (R172). -/
theorem Attention.Raised.latch {a b : Attention} (h : a.Raised b) : b.latch = a.latch :=
  h.induct (P := fun x => x.latch = a.latch) (fun _ _ hx => hx) rfl

section
variable {a : Attention} {s : State}

theorem raised_ite {p : Prop} {_ : Decidable p} {t u : State} (ht : a.Raised t.attn) (hu : a.Raised u.attn) :
    a.Raised (if p then t else u).attn := by split <;> assumption

/-- An operation that raises causes for one number raises causes for each number of a list. -/
theorem raised_forEach {f : Nat → State → State} (hf : ∀ k t, a.Raised t.attn → a.Raised (f k t).attn) (l : List Nat)
    (h : a.Raised s.attn) : a.Raised (forEach l f s).attn := by
  induction l generalizing s with
  | nil => exact h
  | cons k l ih => exact ih (hf k s h)

theorem raised_raiseCause (c : Cause) (h : a.Raised s.attn) : a.Raised (raiseCause c s).attn := h.raise c

theorem raised_raiseIf (b : Bool) (c : Cause) (h : a.Raised s.attn) : a.Raised (raiseIf b c s).attn :=
  raised_ite (raised_raiseCause c h) h

/-! ### Writes that leave the unit alone -/

theorem raised_setLane (d : Side) (l : Lane) (h : a.Raised s.attn) : a.Raised (s.setLane d l).attn := by simpa using h

theorem raised_setMon (d : Side) (m : Monitor) (h : a.Raised s.attn) : a.Raised (s.setMon d m).attn := by simpa using h

theorem raised_markKey (d : Side) (key : Nat) (h : a.Raised s.attn) : a.Raised (markKey d key s).attn :=
  raised_ite (raised_setLane d _ h) h

theorem raised_markBoth (key : Nat) (h : a.Raised s.attn) : a.Raised (markBoth key s).attn :=
  raised_markKey .west key (raised_markKey .east key h)

theorem raised_giveConfirm (d : Side) (p : PathConfirm) (h : a.Raised s.attn) : a.Raised (giveConfirm d p s).attn :=
  raised_ite (raised_setLane d _ h) h

theorem raised_sendConfirm (k : Nat) (r : Role) (heard : Bool) (h : a.Raised s.attn) :
    a.Raised (sendConfirm k r heard s).attn := raised_giveConfirm _ _ h

theorem raised_hostTrigger (h : a.Raised s.attn) : a.Raised (hostTrigger s).attn := by rw [hostTrigger_eq]; exact h

/-! ### Records, the digest and the reports -/

theorem raised_markChanged (k : Nat) (h : a.Raised s.attn) : a.Raised (markChanged k s).attn := raised_raiseIf _ _ h

theorem raised_markChangedIf (b : Bool) (k : Nat) (h : a.Raised s.attn) : a.Raised (markChangedIf b k s).attn :=
  raised_ite (raised_markChanged k h) h

theorem raised_compareDigest (d : Side) (h : a.Raised s.attn) : a.Raised (compareDigest d s).attn := by
  unfold compareDigest
  split
  · exact raised_raiseIf _ _ (raised_setLane d _ h)
  · exact h

theorem raised_setDigest (v : BitVec 32) (h : a.Raised s.attn) : a.Raised (setDigest v s).attn :=
  raised_ite h (raised_compareDigest .west (raised_compareDigest .east h))

theorem raised_compareSpans (h : a.Raised s.attn) : a.Raised (compareSpans s).attn := by
  rw [compareSpans_attn, State.compared]
  dsimp only
  split
  · exact h.raise _
  · exact h

theorem raised_refreshReports (h : a.Raised s.attn) : a.Raised (refreshReports s).attn :=
  raised_compareSpans (by simpa using h)

theorem raised_lineEvent (d : Side) (h : a.Raised s.attn) : a.Raised (lineEvent d s).attn :=
  raised_refreshReports (raised_setMon d _ h)

theorem raised_writeResult (k : Nat) (o : Outcome) (w : Reason) (h : a.Raised s.attn) :
    a.Raised (writeResult k o w s).attn := raised_markChangedIf _ k h

/-! ### Lanes -/

theorem raised_joinCheck (h : a.Raised s.attn) : a.Raised (joinCheck s).attn := raised_ite h h

theorem raised_takeGood (d : Side) (h : a.Raised s.attn) : a.Raised (takeGood d s).attn :=
  raised_lineEvent d (raised_setLane d _ h)

theorem raised_enterUp (d : Side) (h : a.Raised s.attn) : a.Raised (enterUp d s).attn :=
  raised_compareDigest d (raised_setLane d _ h)

theorem raised_correctGreeting (d : Side) (g : Greeting) (h : a.Raised s.attn) :
    a.Raised (correctGreeting d g s).attn := by
  unfold correctGreeting
  dsimp only
  split
  · exact raised_setLane d _ h
  · exact raised_setLane d _ h
  · exact raised_ite (raised_enterUp d (raised_setLane d _ h)) (raised_setLane d _ h)
  · exact raised_ite (raised_compareDigest d (raised_setLane d _ h)) (raised_setLane d _ h)

theorem raised_actOnGreeting (d : Side) (g : Greeting) (h : a.Raised s.attn) : a.Raised (actOnGreeting d g s).attn :=
  raised_joinCheck (raised_lineEvent d
    (raised_ite (raised_correctGreeting d g h) (raised_raiseIf _ _ (raised_setLane d _ h))))

theorem raised_takeOther (d : Side) (r : SpanReport) (h : a.Raised s.attn) : a.Raised (takeOther d r s).attn := by
  have hStored (others : Table (Option EndReport)) :
      a.Raised (compareSpans (markKey d.other (reportKey r) { s with map := { s.map with others := others } })).attn :=
    raised_compareSpans (raised_markKey _ _ h)
  unfold takeOther
  dsimp only
  split
  · exact hStored _
  · exact raised_ite (hStored _) h

theorem raised_takeForOwn (o : Side) (r : SpanReport) (h : a.Raised s.attn) : a.Raised (takeForOwn o r s).attn :=
  raised_ite (raised_markBoth _ h) h

theorem raised_actOnSpanReport (d : Side) (r : SpanReport) (h : a.Raised s.attn) :
    a.Raised (actOnSpanReport d r s).attn :=
  raised_ite (raised_ite (raised_ite (raised_takeForOwn .east r h)
    (raised_ite (raised_takeForOwn .west r h) (raised_takeOther d r h))) h) h

theorem raised_takeFrame {act : State → State} (hAct : ∀ t, a.Raised t.attn → a.Raised (act t).attn) (d : Side)
    (inRange : Bool) (h : a.Raised s.attn) : a.Raised (takeFrame d inRange act s).attn :=
  raised_ite (hAct _ (raised_takeGood d h)) (raised_takeGood d h)

/-! ### Exchanges -/

theorem raised_setExchange (k : Nat) (x : Exchange) (h : a.Raised s.attn) : a.Raised (setExchange k x s).attn :=
  raised_markChangedIf _ k h

theorem raised_testLocal (k : Nat) (h : a.Raised s.attn) : a.Raised (testLocal k s).attn := by
  unfold testLocal
  split
  · exact h
  · exact raised_ite (raised_setExchange k _ (raised_sendConfirm k _ _ h)) h

theorem raised_confirmOutcome (k : Nat) (before : Outcome) (h : a.Raised s.attn) :
    a.Raised (confirmOutcome k before s).attn := by
  unfold confirmOutcome
  split
  · exact h
  · exact raised_ite (raised_testLocal k (raised_setExchange k _ h)) (raised_ite (raised_setExchange k _ h) h)

theorem raised_handEntries (old : State) (h : a.Raised s.attn) : a.Raised (handEntries old s).attn :=
  raised_forEach (fun k _ ht => raised_ite (raised_testLocal k ht) ht) _ h

theorem raised_handOutcomes (old : State) (h : a.Raised s.attn) : a.Raised (handOutcomes old s).attn :=
  raised_forEach (fun k _ ht => raised_confirmOutcome k _ ht) _ h

theorem raised_confirmArrives (d : Side) (p : PathConfirm) (h : a.Raised s.attn) :
    a.Raised (confirmArrives d p s).attn := by
  unfold confirmArrives
  split
  · exact h
  · exact raised_ite (raised_ite (raised_sendConfirm _ _ _ (raised_setExchange _ _ h)) (raised_setExchange _ _ h)) h

theorem raised_actOnPathConfirm (d : Side) (p : PathConfirm) (h : a.Raised s.attn) :
    a.Raised (actOnPathConfirm d p s).attn :=
  raised_ite (raised_ite h (raised_ite (raised_confirmArrives d p h) (raised_ite h (raised_giveConfirm _ _ h)))) h

theorem raised_confirmExpires (k : Nat) (r : Role) (h : a.Raised s.attn) : a.Raised (confirmExpires k r s).attn :=
  raised_ite (raised_setExchange k _ h) (raised_ite (raised_setExchange k _ (raised_sendConfirm k r _ h))
    (raised_ite (raised_setExchange k _ h) (raised_raiseCause _ (raised_setExchange k _ h))))

theorem raised_restartSending (k : Nat) (h : a.Raised s.attn) : a.Raised (restartSending k s).attn := by
  unfold restartSending
  dsimp only
  split
  · exact h
  · exact raised_ite (raised_ite (raised_setExchange k _ h) (raised_setExchange k _ (raised_sendConfirm k _ _ h))) h

theorem raised_resumeExchanges (h : a.Raised s.attn) : a.Raised (resumeExchanges s).attn :=
  raised_forEach (fun k _ ht => raised_ite (raised_setExchange k _ ht) (raised_testLocal k ht)) _ h

/-! ### The Fabric Driver -/

theorem raised_refreshConnOf (k : Nat) (h : a.Raised s.attn) : a.Raised (refreshConnOf k s).attn :=
  raised_ite h (raised_markChangedIf _ k h)

theorem raised_refreshConn (h : a.Raised s.attn) : a.Raised (refreshConn s).attn :=
  raised_forEach (fun k _ ht => raised_refreshConnOf k ht) _ h

theorem raised_dispatch (h : a.Raised s.attn) : a.Raised (dispatch s).attn := by
  unfold dispatch
  split
  · exact h
  · split
    · exact h
    · exact raised_ite h h

theorem raised_runningCheck (h : a.Raised s.attn) : a.Raised (runningCheck s).attn :=
  raised_ite (raised_refreshReports h) h

theorem raised_afterCommand (old : State) (h : a.Raised s.attn) : a.Raised (afterCommand old s).attn :=
  raised_runningCheck (raised_refreshConn (raised_dispatch (raised_handEntries old h)))

theorem raised_confirmEntry (c : Command) (h : a.Raised s.attn) : a.Raised (confirmEntry c s).attn := by
  unfold confirmEntry loseOtherPorts
  split <;> exact h

theorem raised_endDone (c : Command) (priorDiffered : Bool) (h : a.Raised s.attn) :
    a.Raised (endDone c priorDiffered s).attn :=
  raised_afterCommand _ (raised_raiseIf _ _ (raised_confirmEntry c h))

theorem raised_endRefused (c : Command) (h : a.Raised s.attn) : a.Raised (endRefused c s).attn :=
  raised_afterCommand _ (raised_raiseCause _ h)

/-! ### The Planner -/

theorem raised_writeResults (h : a.Raised s.attn) : a.Raised (writeResults s).attn :=
  raised_forEach (fun k _ ht => raised_writeResult k _ _ ht) _ h

theorem raised_freeRecord (k : Nat) (h : a.Raised s.attn) : a.Raised (freeRecord k s).attn := h

theorem raised_freeExcluded (h : a.Raised s.attn) : a.Raised (freeExcluded s).attn :=
  raised_setDigest _ (raised_forEach (fun k _ ht => raised_freeRecord k ht) _ h)

theorem raised_deriveMap (h : a.Raised s.attn) : a.Raised (deriveMap s).attn := by
  unfold deriveMap
  exact h

theorem raised_endCommit (h : a.Raised s.attn) : a.Raised (endCommit s).attn := raised_ite h h

theorem raised_commitSweep (h : a.Raised s.attn) : a.Raised (commitSweep s).attn :=
  raised_runningCheck (raised_endCommit (raised_refreshConn (raised_dispatch (raised_handOutcomes _ (raised_deriveMap
    (raised_freeExcluded (raised_writeResults h)))))))

theorem raised_treatCandidate (cls : Nat) (pass : Pass) (e : PlanEntry) (h : a.Raised s.attn) :
    a.Raised (treatCandidate cls pass e s).attn := raised_ite h h

/-! ### The Record Store -/

theorem raised_stageImage (k : Nat) (i : StageImage) (h : a.Raised s.attn) : a.Raised (stageImage k i s).attn := by
  unfold stageImage stageFields
  split
  · exact h
  · dsimp only
    rw [State.setRec_attn, joinBucket, State.setBucket_attn]
    exact raised_ite h (raised_ite h h)

theorem raised_makeActive (k : Nat) (h : a.Raised s.attn) : a.Raised (makeActive k s).attn := raised_ite h h

theorem raised_activateAll (l : List Nat) (h : a.Raised s.attn) : a.Raised (activateAll l s).attn :=
  raised_hostTrigger (raised_setDigest _ (raised_forEach (fun k _ ht => raised_makeActive k ht) l h))

theorem raised_amendPlanning (k : Nat) (p : Planning) (h : a.Raised s.attn) : a.Raised (amendPlanning k p s).attn :=
  raised_ite h (raised_restartSending k (raised_setDigest _ h))

theorem raised_amendFields (k : Nat) (p : Planning) (port : Option Byte) (h : a.Raised s.attn) :
    a.Raised (amendFields k p port s).attn :=
  raised_ite h (raised_hostTrigger (raised_markChanged k (raised_amendPlanning k p h)))

theorem raised_retireFields (k : Nat) (h : a.Raised s.attn) : a.Raised (retireFields k s).attn :=
  raised_ite (raised_setDigest _ (raised_freeRecord k h)) (raised_hostTrigger h)

theorem raised_haltStream (k : Nat) (reason : HaltReason) (status : Option Status) (h : a.Raised s.attn) :
    a.Raised (haltStream k reason status s).attn := raised_raiseCause _ h

theorem raised_completeStream (h : a.Raised s.attn) : a.Raised (completeStream s).attn := raised_raiseCause _ h

theorem raised_stageChunk (l : List StageImage) (n : Nat) (h : a.Raised s.attn) :
    a.Raised (stageChunk l n s).state.attn := by
  induction l generalizing n s with
  | nil => exact h
  | cons i l ih =>
    unfold stageChunk
    dsimp only
    split
    · exact h
    · split
      · exact raised_haltStream _ _ _ h
      · exact ih _ (raised_stageImage _ i h)

theorem raised_finishStream (h : a.Raised s.attn) : a.Raised (finishStream s).1.attn := by
  unfold finishStream
  dsimp only
  split
  · split
    · exact raised_haltStream _ _ _ h
    · exact raised_completeStream (raised_activateAll _ h)
  · exact raised_completeStream h

/-! ### Start, Stop and the settings of the node, the spans and the ring -/

theorem raised_enterJoining (h : a.Raised s.attn) : a.Raised (enterJoining s).attn :=
  raised_joinCheck (raised_refreshConn (raised_dispatch (raised_resumeExchanges h)))

theorem raised_stopNode (h : a.Raised s.attn) : a.Raised (stopNode s).attn := raised_refreshReports h

theorem raised_dropDetour (k : Nat) (h : a.Raised s.attn) : a.Raised (dropDetour k s).attn := by
  unfold dropDetour
  split
  · exact h
  · exact raised_ite (raised_setExchange k _ h) h

theorem raised_unplan (k : Nat) (h : a.Raised s.attn) : a.Raised (unplan k s).attn := by
  unfold unplan
  split
  · exact raised_writeResult k _ _ h
  · exact raised_writeResult k _ _ h
  · exact h

theorem raised_changeRing (ringId ringSize own : Nat) (h : a.Raised s.attn) :
    a.Raised (changeRing ringId ringSize own s).attn :=
  have hDropped : a.Raised (forEach s.handles dropDetour s).attn :=
    raised_forEach (fun k _ ht => raised_dropDetour k ht) _ h
  have hUnplanned (t : State) (ht : a.Raised t.attn) : a.Raised (forEach t.handles unplan t).attn :=
    raised_forEach (fun k _ hu => raised_unplan k hu) _ ht
  raised_refreshReports (raised_setMon .west _ (raised_setMon .east _ (raised_refreshConn (hUnplanned _ hDropped))))

theorem raised_writeDelay (span : Nat) (delay : BitVec 16) (h : a.Raised s.attn) :
    a.Raised (writeDelay span delay s).attn := raised_hostTrigger (raised_setDigest _ h)

theorem raised_setForce (d : Side) (flag : Bool) (h : a.Raised s.attn) : a.Raised (setForce d flag s).attn :=
  raised_refreshReports (raised_setMon d _ h)

end

/-! ### Carrying out a request -/

/-- What carrying out a request other than the three of the Attention Unit does to it: causes are raised (R169). -/
def OnlyRaises (carry : State → Carried) : Prop := ∀ s : State, s.attn.Raised (carry s).state.attn

theorem onlyRaises_start : OnlyRaises carryStart := fun s => by
  unfold carryStart
  split
  · exact .refl _
  · exact raised_enterJoining (.refl _)

theorem onlyRaises_stop : OnlyRaises carryStop := fun s => by
  unfold carryStop
  split
  · exact .refl _
  · show s.attn.Raised (stopNode s).attn
    exact raised_stopNode (.refl _)

theorem onlyRaises_setRing (ringId ringSize own : Nat) : OnlyRaises (carrySetRing ringId ringSize own) := fun s => by
  unfold carrySetRing
  split
  · exact .refl _
  · split
    · exact .refl _
    · split
      · exact .refl _
      · split
        · exact .refl _
        · exact raised_ite (.refl _) (raised_changeRing ringId ringSize own (.refl _))

theorem onlyRaises_setDegrade (side leak declare clear : Nat) : OnlyRaises (carrySetDegrade side leak declare clear) :=
  fun s => by
    unfold carrySetDegrade
    split
    · exact .refl _
    · exact raised_setMon _ _ (.refl _)

theorem onlyRaises_setSpanDelay (span : Nat) (delay : BitVec 16) : OnlyRaises (carrySetSpanDelay span delay) :=
  fun s => by
    unfold carrySetSpanDelay
    split
    · exact .refl _
    · exact raised_ite (.refl _) (raised_writeDelay span delay (.refl _))

theorem onlyRaises_stageRecord (k : Nat) (i : StageImage) : OnlyRaises (carryStage k i) := fun s => by
  unfold carryStage
  split
  · exact .refl _
  · split
    · exact .refl _
    · exact raised_stageImage k i (.refl _)

theorem onlyRaises_amendRecord (k : Nat) (i : StageImage) : OnlyRaises (carryAmend k i) := fun s => by
  unfold carryAmend
  split
  · exact .refl _
  · split
    · exact .refl _
    · split
      · exact .refl _
      · exact raised_amendFields k _ _ (.refl _)

theorem onlyRaises_activateRecord (k : Nat) : OnlyRaises (carryActivate k) := fun s => by
  unfold carryActivate
  split
  · exact .refl _
  · split
    · exact .refl _
    · exact raised_activateAll [k] (.refl _)

theorem onlyRaises_retireRecord (k : Nat) : OnlyRaises (carryRetire k) := fun s => by
  unfold carryRetire
  split
  · exact .refl _
  · split
    · exact .refl _
    · exact raised_retireFields k (.refl _)

theorem onlyRaises_discardRecord (k : Nat) : OnlyRaises (carryDiscard k) := fun s => by
  unfold carryDiscard
  split
  · exact .refl _
  · split
    · exact .refl _
    · exact raised_freeRecord k (.refl _)

theorem onlyRaises_readRecord (k : Nat) : OnlyRaises (carryReadRecord k) := fun s => by
  unfold carryReadRecord
  split <;> exact .refl _

theorem onlyRaises_findCircuit (circuit : Nat) : OnlyRaises (carryFindCircuit circuit) := fun s => by
  unfold carryFindCircuit
  split
  · exact .refl _
  · split <;> exact .refl _

theorem onlyRaises_nextChanged : OnlyRaises carryNextChanged := fun s => by
  unfold carryNextChanged
  split <;> exact .refl _

theorem onlyRaises_streamBegin (first count : Nat) (activate : Bool) :
    OnlyRaises (carryStreamBegin first count activate) := fun s => by
  unfold carryStreamBegin
  split
  · exact .refl _
  · split <;> exact .refl _

theorem onlyRaises_streamChunk (images : List StageImage) : OnlyRaises (carryStreamChunk images) := fun s => by
  have hStaged : s.attn.Raised (stageChunk images 0 s).state.attn := raised_stageChunk images 0 (.refl _)
  unfold carryStreamChunk
  split
  · exact .refl _
  · split
    · exact .refl _
    · dsimp only
      split
      · exact hStaged
      · split
        · exact raised_finishStream hStaged
        · exact hStaged

theorem onlyRaises_force (side : Nat) (flag : Bool) : OnlyRaises (carryForce side flag) := fun s => by
  unfold carryForce
  split
  next => exact .refl _
  next d _ =>
    show s.attn.Raised (setForce d flag s).attn
    exact raised_setForce d flag (.refl _)

theorem onlyRaises_readLane (side : Nat) : OnlyRaises (carryReadLane side) := fun s => by
  unfold carryReadLane
  split <;> exact .refl _

theorem onlyRaises_readSlotGrants (span : Nat) : OnlyRaises (carryReadSlotGrants span) := fun s => by
  unfold carryReadSlotGrants
  split <;> exact .refl _

theorem onlyRaises_readConnections (first count : Nat) : OnlyRaises (carryReadConnections first count) := fun s => by
  unfold carryReadConnections
  split <;> exact .refl _

/-! ### Commands that are no requests -/

/-- What a command other than the resets and the requests does to the Attention Unit: causes are raised (R169). -/
def CommandRaises (i : Instr) : Prop := ∀ s, ∃ t, exec i s = .next t ∧ s.attn.Raised t.attn

/-- A command whose outcome is one of two operations, by a condition. -/
theorem exists_next_ite {a : Attention} {p : Prop} {_ : Decidable p} {t u : State} (ht : a.Raised t.attn)
    (hu : a.Raised u.attn) :
    ∃ v, (if p then Host.Outcome.next t else .next u : Host.Outcome State Fault Refusal) = .next v ∧ a.Raised v.attn := by
  split
  · exact ⟨t, rfl, ht⟩
  · exact ⟨u, rfl, hu⟩

/-- A command whose outcome is one of two operations, by whether a timer runs (entry 3). -/
theorem exists_next_timer {a : Attention} {timer : Option Nat} {t u : State} (ht : a.Raised t.attn)
    (hu : a.Raised u.attn) :
    ∃ v, (match timer with
      | none => Host.Outcome.next t
      | some _ => .next u : Host.Outcome State Fault Refusal) = .next v ∧ a.Raised v.attn := by
  cases timer with
  | none => exact ⟨t, rfl, ht⟩
  | some n => exact ⟨u, rfl, hu⟩

theorem commandRaises_lineFail (d : Side) (active : Bool) : CommandRaises (.lineFail d active) := fun _ =>
  ⟨_, rfl, raised_lineEvent d (raised_setMon d _ (.refl _))⟩

theorem commandRaises_blockCountReport (d : Side) (report : Option (BitVec 16)) :
    CommandRaises (.blockCountReport d report) := fun s => by
  cases report with
  | none => exact ⟨s, rfl, .refl _⟩
  | some e => exact ⟨_, rfl, raised_refreshReports (raised_setMon d _ (.refl _))⟩

/-! Timers: without effect when stopped (entry 3) -/

theorem commandRaises_holdOffTimerExpiry (d : Side) : CommandRaises (.holdOffTimerExpiry d) := fun _ =>
  exists_next_timer (.refl _) (raised_refreshReports (raised_setMon d _ (.refl _)))

theorem commandRaises_wtrTimerExpiry (d : Side) : CommandRaises (.wtrTimerExpiry d) := fun _ =>
  exists_next_timer (.refl _) (raised_refreshReports (raised_setMon d _ (.refl _)))

theorem commandRaises_silenceTimerExpiry (d : Side) : CommandRaises (.silenceTimerExpiry d) := fun _ =>
  exists_next_timer (.refl _) (raised_refreshReports (raised_setMon d _ (.refl _)))

theorem commandRaises_lockWindowTimerExpiry (d : Side) : CommandRaises (.lockWindowTimerExpiry d) := fun _ =>
  exists_next_timer (.refl _) (raised_lineEvent d (raised_setLane d _ (.refl _)))

theorem commandRaises_adjacencyTimerExpiry (d : Side) : CommandRaises (.adjacencyTimerExpiry d) := fun _ =>
  exists_next_timer (.refl _) (raised_lineEvent d (raised_setLane d _ (.refl _)))

theorem commandRaises_greetingTimerExpiry (d : Side) : CommandRaises (.greetingTimerExpiry d) := fun _ =>
  exists_next_timer (.refl _) (raised_setLane d _ (.refl _))

theorem commandRaises_joinTimerExpiry : CommandRaises .joinTimerExpiry := fun _ =>
  exists_next_timer (.refl _) (raised_ite (.refl _) (.refl _))

theorem commandRaises_reassertionTimerExpiry : CommandRaises .reassertionTimerExpiry := fun _ =>
  exists_next_timer (.refl _) (raised_dispatch (.refl _))

theorem commandRaises_responseTimerExpiry : CommandRaises .responseTimerExpiry := fun s => by
  show ∃ t, execResponseTimerExpiry s = .next t ∧ _
  unfold execResponseTimerExpiry
  split
  · exact ⟨_, rfl, .refl _⟩
  · split
    · exact exists_next_ite (.refl _) (raised_endRefused _ (.refl _))
    · exact ⟨s, rfl, .refl _⟩

theorem commandRaises_confirmTimerExpiry (k : Nat) : CommandRaises (.confirmTimerExpiry k) := fun s => by
  show ∃ t, execConfirmTimerExpiry k s = .next t ∧ _
  unfold execConfirmTimerExpiry
  split
  · exact ⟨_, rfl, raised_confirmExpires k _ (.refl _)⟩
  · exact ⟨s, rfl, .refl _⟩

/-! Lanes -/

theorem commandRaises_frameSlot : CommandRaises .frameSlot := fun _ =>
  ⟨_, rfl, raised_setLane .west _ (raised_setLane .east _ (.refl _))⟩

theorem commandRaises_laneBadFrame (d : Side) : CommandRaises (.laneBadFrame d) := fun _ =>
  ⟨_, rfl, raised_lineEvent d (raised_setLane d _ (.refl _))⟩

theorem commandRaises_greeting (d : Side) (g : Greeting) : CommandRaises (.greeting d g) := fun _ =>
  ⟨_, rfl, raised_takeFrame (fun _ ht => raised_actOnGreeting d g ht) d _ (.refl _)⟩

theorem commandRaises_spanReport (d : Side) (r : SpanReport) : CommandRaises (.spanReport d r) := fun _ =>
  ⟨_, rfl, raised_takeFrame (fun _ ht => raised_actOnSpanReport d r ht) d _ (.refl _)⟩

theorem commandRaises_pathConfirm (d : Side) (p : PathConfirm) : CommandRaises (.pathConfirm d p) := fun _ =>
  ⟨_, rfl, raised_takeFrame (fun _ ht => raised_actOnPathConfirm d p ht) d _ (.refl _)⟩

/-! The Planner's own commands -/

theorem commandRaises_gatherHandle : CommandRaises .gatherHandle := fun _ => exists_next_ite (.refl _) (.refl _)

theorem commandRaises_classPassEntry : CommandRaises .classPassEntry := fun s => by
  show ∃ t, execClassPassEntry s = .next t ∧ _
  unfold execClassPassEntry
  dsimp only
  split
  · split
    · exact ⟨_, rfl, raised_treatCandidate _ _ _ (.refl _)⟩
    · exact ⟨_, rfl, .refl _⟩
  · exact ⟨_, rfl, .refl _⟩

theorem commandRaises_extraPassEntry : CommandRaises .extraPassEntry := fun _ => exists_next_ite (.refl _) (.refl _)

theorem commandRaises_sweepCommit : CommandRaises .sweepCommit := fun _ =>
  exists_next_ite (raised_commitSweep (.refl _)) (.refl _)

/-! The Fabric Link -/

theorem commandRaises_fabricDone (tag : Byte) (priorDiffered : Bool) : CommandRaises (.fabricDone tag priorDiffered) :=
  fun s => by
    show ∃ t, execFabricDone tag priorDiffered s = .next t ∧ _
    unfold execFabricDone
    split
    · exact ⟨s, rfl, .refl _⟩
    · exact exists_next_ite (raised_endDone _ _ (.refl _)) (.refl _)

theorem commandRaises_fabricRefused (tag : Byte) : CommandRaises (.fabricRefused tag) := fun s => by
  show ∃ t, execFabricRefused tag s = .next t ∧ _
  unfold execFabricRefused
  split
  · exact ⟨s, rfl, .refl _⟩
  · exact exists_next_ite (raised_endRefused _ (.refl _)) (.refl _)

/-! The port -/

theorem commandRaises_requestDiscarded : CommandRaises .requestDiscarded := fun _ => exists_next_ite (.refl _) (.refl _)

theorem commandRaises_responsePlaced : CommandRaises .responsePlaced := fun s => by
  show ∃ t, execResponsePlaced s = .next t ∧ _
  unfold execResponsePlaced
  split
  · exact ⟨_, rfl, .refl _⟩
  · exact ⟨s, rfl, .refl _⟩

/-! ### What every command does -/

/-- What the command `i` makes of the Attention Unit `a` once no reset takes effect any more: causes are raised, or the unit's own
request does its work. -/
inductive Attention.Moves (i : Instr) (a : Attention) : Attention → Prop
  | raises {b : Attention} (h : a.Raised b) : Moves i a b
  | fills {tag : Byte} (hi : i = .readSummary tag) : Moves i a a.fillLatch
  | acknowledges {tag : Byte} {c : Cause} (hi : i = .acknowledgeCause tag (causeNumber c)) : Moves i a (a.acknowledge c)
  | masks {tag enables : Byte} (hi : i = .setAttentionMask tag enables) : Moves i a (a.setMask enables)

/-- A soft reset has been answered and waits for its response to be read (R36). -/
def State.resetWaits (s : State) : Prop := s.port.state = .answered ∧ s.port.softResetArmed = true

theorem beforeTaking_of_waits {s : State} (h : s.resetWaits) : beforeTaking s = softReset s := if_pos h

theorem beforeTaking_of_not_waits {s : State} (h : ¬ s.resetWaits) : beforeTaking s = s := if_neg h

/-- What the command `i` makes of the Attention Unit of the block: the full reset writes it anew, a soft reset that waits may take
effect first, and then the unit moves (R36, R176). -/
inductive AttnFollows (i : Instr) (s : State) (b : Attention) : Prop
  | moves (h : s.attn.Moves i b)
  | reset (hReset : s.resetWaits) (h : s.attn.softReset.Moves i b)
  | fullReset (hi : i = .fullReset) (h : b = Attention.reset)

@[simp] theorem attn_evalMonitors (s : State) : (evalMonitors s).attn = s.attn := by simp [evalMonitors, evalMonitor]

theorem attn_softReset (s : State) : (softReset s).attn = s.attn.softReset := by
  rw [softReset, attn_evalMonitors]; rfl

theorem attn_fullReset (s : State) : (fullReset s).attn = Attention.reset := by
  rw [fullReset, attn_evalMonitors]; rfl

/-- A request transaction ends: what the unit becomes is what carrying out the request makes of it, after a soft reset that
waits (R36, R156). -/
theorem attnFollows_takeRequest {i : Instr} {carry : State → Carried}
    (hCarry : ∀ u : State, u.attn.Moves i (carry u).state.attn) (tag : Byte) (s : State) :
    AttnFollows i s (takeRequest i tag carry s).attn := by
  unfold takeRequest
  split
  · exact .moves (.raises (.refl _))
  · by_cases hReset : s.resetWaits
    · have hMoves := hCarry (clearHolder (softReset s))
      rw [clearHolder_attn, attn_softReset] at hMoves
      rw [beforeTaking_of_waits hReset]
      exact .reset hReset hMoves
    · rw [beforeTaking_of_not_waits hReset]
      exact .moves (hCarry (clearHolder s))

theorem attnFollows_readTransaction (bits : Nat) (s : State) :
    ∃ t, exec (.readTransaction bits) s = .next t ∧ AttnFollows (.readTransaction bits) s t.attn := by
  show ∃ t, execReadTransaction bits s = .next t ∧ _
  unfold execReadTransaction
  split
  next r hAnswered _ =>
    refine ⟨_, rfl, ?_⟩
    split
    · unfold readWhole
      dsimp only
      split
      next hArmed => exact .reset ⟨hAnswered, hArmed⟩ (.raises (by rw [attn_softReset]; exact .refl _))
      next => exact .moves (.raises (.refl _))
    · exact .moves (.raises (.refl _))
  next => exact ⟨_, rfl, .moves (.raises (.refl _))⟩

theorem moves_acknowledge (tag : Byte) (n : Nat) (u : State) :
    u.attn.Moves (.acknowledgeCause tag n) (carryAcknowledge n u).state.attn := by
  unfold carryAcknowledge
  split
  next => exact .raises (.refl _)
  next c hc => exact .acknowledges (tag := tag) (by rw [causeNumber_of_causeOf hc])

/-- A request that is taken, or a frame that is answered only, as `exec` dispatches it. -/
theorem exists_next_taking {i : Instr} {tag : Byte} {carry : State → Carried}
    (hExec : ∀ s, exec i s = .next (takeRequest i tag carry s)) (hCarry : ∀ u : State, u.attn.Moves i (carry u).state.attn)
    (s : State) : ∃ t, exec i s = .next t ∧ AttnFollows i s t.attn :=
  ⟨_, hExec s, attnFollows_takeRequest hCarry tag s⟩

theorem CommandRaises.follows {i : Instr} (h : CommandRaises i) (s : State) :
    ∃ t, exec i s = .next t ∧ AttnFollows i s t.attn := by
  obtain ⟨t, hNext, hRaised⟩ := h s
  exact ⟨t, hNext, .moves (.raises hRaised)⟩

theorem OnlyRaises.follows {carry : State → Carried} (h : OnlyRaises carry) {i : Instr} {tag : Byte}
    (hExec : ∀ s, exec i s = .next (takeRequest i tag carry s)) (s : State) :
    ∃ t, exec i s = .next t ∧ AttnFollows i s t.attn := exists_next_taking hExec (fun u => .raises (h u)) s

/-- Every command has an outcome, and the Attention Unit follows it. -/
theorem exec_attnFollows (i : Instr) (s : State) : ∃ t, exec i s = .next t ∧ AttnFollows i s t.attn := by
  cases i with
  | fullReset => exact ⟨_, rfl, .fullReset rfl (attn_fullReset s)⟩
  | lineFail d active => exact (commandRaises_lineFail d active).follows s
  | blockCountReport d report => exact (commandRaises_blockCountReport d report).follows s
  | holdOffTimerExpiry d => exact (commandRaises_holdOffTimerExpiry d).follows s
  | wtrTimerExpiry d => exact (commandRaises_wtrTimerExpiry d).follows s
  | silenceTimerExpiry d => exact (commandRaises_silenceTimerExpiry d).follows s
  | frameSlot => exact commandRaises_frameSlot.follows s
  | laneBadFrame d => exact (commandRaises_laneBadFrame d).follows s
  | fill d => exact CommandRaises.follows (fun _ => ⟨_, rfl, raised_takeGood d (.refl _)⟩) s
  | greeting d g => exact (commandRaises_greeting d g).follows s
  | spanReport d r => exact (commandRaises_spanReport d r).follows s
  | pathConfirm d p => exact (commandRaises_pathConfirm d p).follows s
  | lockWindowTimerExpiry d => exact (commandRaises_lockWindowTimerExpiry d).follows s
  | adjacencyTimerExpiry d => exact (commandRaises_adjacencyTimerExpiry d).follows s
  | greetingTimerExpiry d => exact (commandRaises_greetingTimerExpiry d).follows s
  | joinTimerExpiry => exact commandRaises_joinTimerExpiry.follows s
  | gatherHandle => exact commandRaises_gatherHandle.follows s
  | classPassEntry => exact commandRaises_classPassEntry.follows s
  | extraPassEntry => exact commandRaises_extraPassEntry.follows s
  | sweepCommit => exact commandRaises_sweepCommit.follows s
  | fabricDone tag priorDiffered => exact (commandRaises_fabricDone tag priorDiffered).follows s
  | fabricRefused tag => exact (commandRaises_fabricRefused tag).follows s
  | fabricLinkDiscard => exact CommandRaises.follows (fun _ => ⟨_, rfl, .refl _⟩) s
  | responseTimerExpiry => exact commandRaises_responseTimerExpiry.follows s
  | reassertionTimerExpiry => exact commandRaises_reassertionTimerExpiry.follows s
  | confirmTimerExpiry k => exact (commandRaises_confirmTimerExpiry k).follows s
  | readTransaction bits => exact attnFollows_readTransaction bits s
  | requestDiscarded => exact commandRaises_requestDiscarded.follows s
  | badFrame b => exact OnlyRaises.follows (carry := answerOnly .badFrame) (fun _ => .refl _) (fun _ => rfl) s
  | unknownCommand b => exact OnlyRaises.follows (carry := answerOnly .unknownCommand) (fun _ => .refl _) (fun _ => rfl) s
  | responsePlaced => exact commandRaises_responsePlaced.follows s
  | start tag => exact onlyRaises_start.follows (fun _ => rfl) s
  | stop tag => exact onlyRaises_stop.follows (fun _ => rfl) s
  | softReset tag => exact OnlyRaises.follows (carry := carrySoftReset) (fun _ => .refl _) (fun _ => rfl) s
  | setRing tag ringId ringSize own => exact (onlyRaises_setRing ringId ringSize own).follows (fun _ => rfl) s
  | setTimers tag holdOff wtr confirm reassert cadence =>
    exact OnlyRaises.follows (carry := carrySetTimers holdOff wtr confirm reassert cadence) (fun _ => .refl _) (fun _ => rfl) s
  | setDegrade tag side leak declare clear => exact (onlyRaises_setDegrade side _ _ _).follows (fun _ => rfl) s
  | setSpanDelay tag span delay => exact (onlyRaises_setSpanDelay span delay).follows (fun _ => rfl) s
  | readNode tag => exact OnlyRaises.follows (carry := carryReadNode) (fun _ => .refl _) (fun _ => rfl) s
  | stageRecord tag k image => exact (onlyRaises_stageRecord k image).follows (fun _ => rfl) s
  | amendRecord tag k image => exact (onlyRaises_amendRecord k image).follows (fun _ => rfl) s
  | activateRecord tag k => exact (onlyRaises_activateRecord k).follows (fun _ => rfl) s
  | retireRecord tag k => exact (onlyRaises_retireRecord k).follows (fun _ => rfl) s
  | discardRecord tag k => exact (onlyRaises_discardRecord k).follows (fun _ => rfl) s
  | readRecord tag k => exact (onlyRaises_readRecord k).follows (fun _ => rfl) s
  | findCircuit tag circuit => exact (onlyRaises_findCircuit circuit).follows (fun _ => rfl) s
  | nextChanged tag => exact onlyRaises_nextChanged.follows (fun _ => rfl) s
  | streamBegin tag first count activate => exact (onlyRaises_streamBegin first count activate).follows (fun _ => rfl) s
  | streamChunk tag images => exact (onlyRaises_streamChunk images).follows (fun _ => rfl) s
  | streamStatus tag => exact OnlyRaises.follows (carry := withStream .ok) (fun _ => .refl _) (fun _ => rfl) s
  | streamAbort tag => exact OnlyRaises.follows (carry := carryStreamAbort) (fun _ => .refl _) (fun _ => rfl) s
  | forceSpan tag side => exact (onlyRaises_force side true).follows (fun _ => rfl) s
  | releaseSpan tag side => exact (onlyRaises_force side false).follows (fun _ => rfl) s
  | readSpanMap tag => exact OnlyRaises.follows (carry := carryReadSpanMap) (fun _ => .refl _) (fun _ => rfl) s
  | readLane tag side => exact (onlyRaises_readLane side).follows (fun _ => rfl) s
  | readSlotGrants tag span => exact (onlyRaises_readSlotGrants span).follows (fun _ => rfl) s
  | readConnections tag first count => exact (onlyRaises_readConnections first count).follows (fun _ => rfl) s
  | readSummary tag => exact exists_next_taking (fun _ => rfl) (fun _ => .fills rfl) s
  | acknowledgeCause tag n => exact exists_next_taking (fun _ => rfl) (moves_acknowledge tag n) s
  | setAttentionMask tag enables => exact exists_next_taking (fun _ => rfl) (fun _ => .masks rfl) s
  | discardedGoodFrame d => exact CommandRaises.follows (fun _ => ⟨_, rfl, raised_takeGood d (.refl _)⟩) s

/-- A step leaves the Attention Unit where no command waits, and else the unit follows the command at the front. -/
theorem step_attnFollows {s t : State} (h : step s = .next t) :
    t.attn = s.attn ∨ ∃ i, s.pending.head? = some i ∧ AttnFollows i s t.attn := by
  unfold step at h
  split at h
  next => cases h; exact .inl rfl
  next i rest hPending =>
    obtain ⟨u, hNext, hFollows⟩ := exec_attnFollows i { s with pending := rest }
    obtain rfl : u = t := by simpa [hNext] using h
    refine .inr ⟨i, by rw [hPending]; rfl, ?_⟩
    cases hFollows with
    | moves hMoves => exact .moves hMoves
    | reset hReset hMoves => exact .reset hReset hMoves
    | fullReset hi hReset => exact .fullReset hi hReset

/-! ### The level of ATTN_N (R171) -/

/-- The invariant of R171 and R172, said of the unit alone (`AttentionSound`). -/
def Attention.Sound (a : Attention) : Prop :=
  a.asserted = a.calls ∧ ∀ c, a.latch = some c → causeIn a.pending c = true

theorem attentionSound_iff (s : State) : AttentionSound s ↔ s.attn.Sound := Iff.rfl

/-- With the pin driven by R171, a unit is sound where its latched cause is pending. -/
theorem Attention.sound_drive {a : Attention} (h : ∀ c, a.latch = some c → causeIn a.pending c = true) :
    a.drive.Sound := ⟨rfl, h⟩

theorem Attention.Sound.raise {a : Attention} (h : a.Sound) (c : Cause) : (a.raise c).Sound := by
  obtain ⟨-, hLatch⟩ := h
  exact Attention.sound_drive fun b hLatched => by simp [hLatch b hLatched]

theorem Attention.Sound.fillLatch {a : Attention} (h : a.Sound) : a.fillLatch.Sound := by
  obtain ⟨hPin, hLatch⟩ := h
  by_cases hEmpty : a.latch = none
  · rw [Attention.fillLatch_eq, Attention.fillLatch_latch_of_empty hEmpty]
    refine ⟨hPin, fun c hTop => ?_⟩
    obtain ⟨hPending, -, -⟩ := (a.top_eq_some_iff c).1 hTop
    exact hPending
  · rw [Attention.fillLatch_of_full hEmpty]
    exact ⟨hPin, hLatch⟩

theorem Attention.Sound.acknowledge {a : Attention} (h : a.Sound) (c : Cause) : (a.acknowledge c).Sound := by
  cases hPending : causeIn a.pending c with
  | false => rwa [Attention.acknowledge_of_not_pending hPending]
  | true =>
    rw [Attention.acknowledge_of_pending hPending]
    obtain ⟨-, hLatch⟩ := h
    refine Attention.sound_drive fun b hLatched => ?_
    dsimp only at hLatched ⊢
    split at hLatched
    next => cases hLatched
    next hOther =>
      have hNe : b ≠ c := by rintro rfl; exact hOther hLatched
      simp [hLatch b hLatched, hNe]

theorem Attention.Sound.setMask {a : Attention} (h : a.Sound) (enables : Byte) : (a.setMask enables).Sound := by
  obtain ⟨-, hLatch⟩ := h
  exact Attention.sound_drive hLatch

/-- A unit without pending and latched causes whose pin is released is sound, whatever its mask (R176). -/
theorem Attention.sound_softReset (a : Attention) : a.softReset.Sound :=
  ⟨by simp [Attention.softReset, Attention.reset, Attention.calls], fun _ h => by cases h⟩

theorem Attention.Moves.sound {i : Instr} {a b : Attention} (h : a.Moves i b) (ha : a.Sound) : b.Sound := by
  cases h with
  | raises hRaised => exact hRaised.induct (fun _ c hx => hx.raise c) ha
  | fills hi => exact ha.fillLatch
  | acknowledges hi => exact ha.acknowledge _
  | masks hi => exact ha.setMask _

/-- Settles O5: whatever a step does to the Attention Unit, it drives the pin by R171 and leaves a latched cause pending. -/
theorem stepKeepsAttentionPin : Obligations.StepKeepsAttentionPin := by
  intro s t hs hStep
  rw [attentionSound_iff] at hs ⊢
  rcases step_attnFollows hStep with hSame | ⟨i, -, hFollows⟩
  · rwa [hSame]
  · cases hFollows with
    | moves hMoves => exact hMoves.sound hs
    | reset _ hMoves => exact hMoves.sound s.attn.sound_softReset
    | fullReset _ hReset => rw [hReset]; exact Attention.reset.sound_softReset

/-! ### The latch (R172) -/

/-- An acknowledgement empties the latch of the cause it names, and leaves it otherwise (R173). -/
theorem Attention.latch_acknowledge (a : Attention) (c : Cause) :
    (a.acknowledge c).latch = a.latch ∨ a.latch = some c ∧ (a.acknowledge c).latch = none := by
  unfold Attention.acknowledge Attention.drive
  split
  · by_cases hLatch : a.latch = some c
    · exact .inr ⟨hLatch, if_pos hLatch⟩
    · exact .inl (if_neg hLatch)
  · exact .inl rfl

/-- Only Read Summary fills the latch. -/
theorem Attention.Moves.latch_filled {i : Instr} {a b : Attention} (h : a.Moves i b) {c : Cause} (hb : b.latch = some c)
    (ha : a.latch ≠ some c) : ∃ tag, i = .readSummary tag := by
  cases h with
  | raises hRaised => exact absurd (hRaised.latch ▸ hb) ha
  | @fills tag hi => exact ⟨tag, hi⟩
  | @acknowledges tag c' hi =>
    rcases a.latch_acknowledge c' with hSame | ⟨-, hEmpty⟩
    · exact absurd (hSame ▸ hb) ha
    · simp [hEmpty] at hb
  | masks hi => exact absurd hb ha

/-- Only the acknowledgement of the latched cause empties the latch. -/
theorem Attention.Moves.latch_emptied {i : Instr} {a b : Attention} (h : a.Moves i b) {c : Cause} (ha : a.latch = some c)
    (hb : b.latch ≠ some c) : ∃ tag, i = .acknowledgeCause tag (causeNumber c) := by
  cases h with
  | raises hRaised => exact absurd (hRaised.latch.trans ha) hb
  | fills hi => exact absurd (by rw [Attention.fillLatch_of_full (by simp [ha]), ha]) hb
  | @acknowledges tag c' hi =>
    rcases a.latch_acknowledge c' with hSame | ⟨hLatch, -⟩
    · exact absurd (hSame.trans ha) hb
    · obtain rfl : c' = c := by simpa [hLatch] using ha
      exact ⟨tag, hi⟩
  | masks hi => exact absurd ha hb

/-- Settles O59: Read Summary answers from the filled latch, and over a step the latch follows the command at the front. -/
theorem summaryLatchesTheTopCause : Obligations.SummaryLatchesTheTopCause := by
  refine ⟨fun s tag hAccepts => ⟨s.attn.fillLatch.latch, fun hFull => ?_, fun hEmpty c => ?_, ?_⟩,
    fun s t c hStep hLatched hBefore => ?_, fun s t c hStep hBefore hAfter => ?_⟩
  · rw [Attention.fillLatch_of_full hFull]
  · rw [Attention.fillLatch_latch_of_empty hEmpty]
    exact s.attn.top_eq_some_iff c
  · rw [exec_readSummary hAccepts, Attention.summaryBytes, Attention.fillLatch_eq]
    cases s.attn.fillLatch.latch <;> rfl
  · rcases step_attnFollows hStep with hSame | ⟨i, hFront, hFollows⟩
    · exact absurd (hSame ▸ hLatched) hBefore
    · have hSummary : ∃ tag, i = .readSummary tag := by
        cases hFollows with
        | moves hMoves => exact hMoves.latch_filled hLatched hBefore
        | reset _ hMoves => exact hMoves.latch_filled hLatched nofun
        | fullReset _ hReset => rw [hReset] at hLatched; cases hLatched
      obtain ⟨tag, rfl⟩ := hSummary
      exact ⟨tag, hFront⟩
  · rcases step_attnFollows hStep with hSame | ⟨i, hFront, hFollows⟩
    · exact absurd (hSame ▸ hBefore) hAfter
    · cases hFollows with
      | moves hMoves =>
        obtain ⟨tag, rfl⟩ := hMoves.latch_emptied hBefore hAfter
        exact .inl ⟨tag, hFront⟩
      | reset hReset _ => exact .inr (.inr hReset)
      | fullReset hi _ => exact .inr (.inl (hi ▸ hFront))

end Sys2Proof.Machine
end

section
/-!
PROOFS. What a step can do, said once: `Event` lists the events of the block, each with what the command has tested before it, and
`step_events` says that a step is a run of such events. Every invariant is then a case analysis over the events (`step_keeps`).
-/

namespace Sys2Proof.Machine

/-- The events that write what the Line Monitors, the end reports and the held spans hang on. -/
inductive LineEvent (s : State) : State → Prop
  | ticked : LineEvent s (tick s)
  | fullReset : LineEvent s (fullReset s)
  | softReset : LineEvent s (softReset s)
  | lineFail (d : Side) (b : Bool) : LineEvent s (lineEvent d (s.setMon d { s.mon d with lineFail := b }))
  | blockCount (d : Side) (n : Nat) : LineEvent s (refreshReports (s.setMon d ((s.mon d).takeCount n)))
  | holdOff (d : Side) (hTimer : (s.mon d).holdOffTimer ≠ none) :
      LineEvent s (refreshReports (s.setMon d (s.mon d).holdOffExpires))
  | wtr (d : Side) (hTimer : (s.mon d).wtrTimer ≠ none) : LineEvent s (refreshReports (s.setMon d (s.mon d).wtrExpires))
  | silence (d : Side) (hTimer : (s.mon d).silenceTimer ≠ none) :
      LineEvent s (refreshReports (s.setMon d ((s.mon d).silenceExpires s.node.holdOff s.node.wtr)))
  | force (d : Side) (b : Bool) : LineEvent s (setForce d b s)
  | degrade (d : Side) (leak declare clear : Nat) (hLeak : leak ≤ 65535) (hDeclare : declare ≤ 16777215) :
      LineEvent s (s.setMon d { s.mon d with
        leak := leak, declareLevel := clampDeclare declare, clearLevel := clampClear clear (clampDeclare declare) })
  | badFrame (d : Side) : LineEvent s (lineEvent d (s.setLane d (s.lane d).countBad))
  | goodFrame (d : Side) : LineEvent s (takeGood d s)
  | lockWindow (d : Side) (hTimer : (s.lane d).lockWindow ≠ none) :
      LineEvent s (lineEvent d (s.setLane d (s.lane d).loseLock))
  | adjacency (d : Side) (hTimer : (s.lane d).adjTimer ≠ none) : LineEvent s (lineEvent d (s.setLane d (s.lane d).toDown))
  | greeting (d : Side) (g : Greeting) (hLock : (s.lane d).lock = .locked) (hRing : s.node.ringId ≠ 0)
      (hRange : greetingInRange g = true) : LineEvent s (actOnGreeting d g s)
  | spanReport (d : Side) (r : SpanReport) (hLock : (s.lane d).lock = .locked) (hRing : s.node.ringId ≠ 0)
      (hRange : spanReportInRange r = true) : LineEvent s (actOnSpanReport d r s)
  | done (c : Command) (b : Bool) (hOut : s.fabric.outstanding = some c) : LineEvent s (endDone c b s)
  | refused (c : Command) (hOut : s.fabric.outstanding = some c) : LineEvent s (endRefused c s)
  | stop (hState : s.node.state ≠ .configuring) : LineEvent s (stopNode s)

/-- The events, but for the commit, that write what the digest sums. -/
inductive DigestEvent (s : State) : State → Prop
  | setDelay (span : Nat) (delay : BitVec 16) : DigestEvent s (writeDelay span delay s)
  | amend (h : Nat) (i : StageImage) (p : Planning) (hPlan : imagePlanning i = some p) (hCheck : s.amendCheck h i = .pass) :
      DigestEvent s (amendFields h p (imagePort i) s)
  | activate (h : Nat) (hCheck : s.activateCheck h = .pass) : DigestEvent s (activateAll [h] s)
  | retire (h : Nat) (hActive : (s.record h).lifecycle = .active) : DigestEvent s (retireFields h s)

/-- The events of the Stream requests. -/
inductive StreamEvent (s : State) : State → Prop
  | streamBegin (first count : Nat) (activate : Bool) (hCount : 1 ≤ count) (hRun : first + count ≤ 4096) :
      StreamEvent s (s.setStream
        { state := .opened, first := first, count := count, remaining := count, activate := activate, halt := none })
  | streamChunk (images : List StageImage) (hOpen : s.store.stream.state = .opened) :
      StreamEvent s (carryStreamChunk images s).state
  | streamAbort : StreamEvent s (s.setStream { s.store.stream with state := .closed, halt := none })

/-- The events that write none of these. -/
inductive QuietEvent (s : State) : State → Prop
  | pending (l : List Instr) : QuietEvent s { s with pending := l }
  | port (p : Port) : QuietEvent s { s with port := p }
  | attn (a : Attention) : QuietEvent s { s with attn := a }
  | frameSlot : QuietEvent s ((s.setLane .east (s.slotLane .east)).setLane .west (s.slotLane .west))
  | greetingTimer (d : Side) (hTimer : (s.lane d).greetTimer ≠ none) : QuietEvent s (s.setLane d (s.lane d).greetingDue)
  | pathConfirm (d : Side) (p : PathConfirm) (hLock : (s.lane d).lock = .locked) (hRing : s.node.ringId ≠ 0)
      (hRange : confirmInRange p = true) : QuietEvent s (actOnPathConfirm d p s)
  | syncing (hJoining : s.node.state = .joining) : QuietEvent s (enterSyncing s)
  | gather (hPhase : s.planner.phase = .gathering) (hPos : s.planner.gatherPos < 4096) : QuietEvent s (gatherOne s)
  | settle : QuietEvent s { s with planner := { s.planner with phase := s.planner.settledPhase } }
  | candidate (cls : Nat) (pass : Pass) (e : PlanEntry) (hFirst : firstWith (.forClass cls pass) s.planner.buffer = some e) :
      QuietEvent s (treatCandidate cls pass e s)
  | extra : QuietEvent s (treatExtra s)
  | answered (b : Bool) : QuietEvent s (s.setAnswered b)
  | retry (c : Command) (hOut : s.fabric.outstanding = some c) (hTimer : s.fabric.responseTimer ≠ none) :
      QuietEvent s (sendCommand { c with attempt := 2 } s)
  | reassert (hTimer : s.fabric.reassertTimer ≠ none) : QuietEvent s (dispatch { s with fabric := { s.fabric with
      reassertPending := true, reassertTimer := some s.reassertTime } })
  | confirmTimer (h : Nat) (r : Role) (hTimer : (s.record h).exchange.timer ≠ none) (hRole : s.endRole h = some r) :
      QuietEvent s (confirmExpires h r s)
  | start (hState : s.node.state = .configuring) (hRing : s.node.ringId ≠ 0) : QuietEvent s (enterJoining s)
  | setTimers (holdOff wtr confirm reassert cadence : Nat) :
      QuietEvent s (carrySetTimers holdOff wtr confirm reassert cadence s).state
  | stage (h : Nat) (i : StageImage) (hHandle : h < 4096) (hCheck : s.stageCheck h i = .pass) : QuietEvent s (stageImage h i s)
  | discard (h : Nat) (hStaged : (s.record h).lifecycle = .staged) : QuietEvent s (freeRecord h s)
  | nextChanged (h : Nat) : QuietEvent s (unmarkChanged h s)

/-- The events of the block: what a command, or one part of a command, makes of the state. -/
inductive Event (s : State) : State → Prop
  | quiet {t : State} (h : QuietEvent s t) : Event s t
  | line {t : State} (h : LineEvent s t) : Event s t
  | digest {t : State} (h : DigestEvent s t) : Event s t
  | stream {t : State} (h : StreamEvent s t) : Event s t
  | commit (hReady : s.planner.readyToCommit = true) : Event s (commitSweep s)
  | setRing (ringId n own : Nat) (hState : s.node.state = .configuring) (hFields : ringFieldsOk ringId n own = true)
      (hFit : s.unfit n own = none) (hApart : s.clashUnder n = none) : Event s (changeRing ringId n own s)

/-- A run of events. -/
abbrev Events : State → State → Prop := Relation.ReflTransGen Event

theorem Event.run {s t : State} (h : Event s t) : Events s t := .single h

/-! ### Requests -/

/-- Carrying out a request is a run of events. -/
def CarriesEvents (carry : State → Carried) : Prop := ∀ s, Events s (carry s).state

theorem carriesEvents_same {carry : State → Carried} (h : ∀ s, (carry s).state = s) : CarriesEvents carry := fun s => by
  rw [h]

theorem events_ite {p : Prop} {_ : Decidable p} {s t u : State} (ht : p → Events s t) (hu : ¬ p → Events s u) :
    Events s (if p then t else u) := by
  split
  next h => exact ht h
  next h => exact hu h

theorem carriesEvents_start : CarriesEvents carryStart := fun s => by
  unfold carryStart
  split
  · exact .refl
  next h =>
    obtain ⟨hState, hRing⟩ := not_or.1 h
    exact (Event.quiet <| .start (not_not.1 hState) hRing).run

theorem carriesEvents_stop : CarriesEvents carryStop := fun s => by
  unfold carryStop
  split
  · exact .refl
  next h => exact (Event.line <| .stop h).run

theorem carriesEvents_softReset : CarriesEvents carrySoftReset := fun _ => (Event.quiet <| .port _).run

theorem carriesEvents_setRing (ringId n own : Nat) : CarriesEvents (carrySetRing ringId n own) := fun s => by
  unfold carrySetRing
  split
  · exact .refl
  next hState =>
    split
    · exact .refl
    next hFields =>
      split
      · exact .refl
      next hFit =>
        split
        · exact .refl
        next hApart =>
          exact events_ite (fun _ => .refl)
            (fun _ => (Event.setRing ringId n own (not_not.1 hState) (by simpa using hFields) hFit hApart).run)

theorem carriesEvents_setDegrade (side : Nat) (leak : BitVec 16) (declare clear : BitVec 24) :
    CarriesEvents (carrySetDegrade side leak.toNat declare.toNat clear.toNat) := fun s => by
  unfold carrySetDegrade
  split
  · exact .refl
  next d _ =>
    exact (Event.line <| .degrade d _ _ _ (Nat.le_of_lt_succ leak.isLt) (Nat.le_of_lt_succ declare.isLt)).run

theorem carriesEvents_setSpanDelay (span : Nat) (delay : BitVec 16) : CarriesEvents (carrySetSpanDelay span delay) :=
  fun s => by
    unfold carrySetSpanDelay
    split
    · exact .refl
    · exact events_ite (fun _ => .refl) (fun _ => (Event.digest <| .setDelay span delay).run)

theorem badHandle_eq_false {h : Nat} (hBad : ¬ badHandle h = true) : h < 4096 := by
  simpa [badHandle] using hBad

theorem stageCheck_of_request {s : State} {h : Nat} {i : StageImage} (hCheck : s.stageRequestCheck h i = .pass) :
    s.stageCheck h i = .pass := by
  unfold State.stageRequestCheck at hCheck
  split at hCheck
  · cases hCheck
  next => split at hCheck <;> simp_all

theorem carriesEvents_stage (h : Nat) (i : StageImage) : CarriesEvents (carryStage h i) := fun s => by
  unfold carryStage
  split
  · exact .refl
  next hBad =>
    split
    · exact .refl
    next hCheck => exact (Event.quiet <| .stage h i (badHandle_eq_false hBad) (stageCheck_of_request hCheck)).run

theorem carriesEvents_amend (h : Nat) (i : StageImage) : CarriesEvents (carryAmend h i) := fun s => by
  unfold carryAmend
  split
  · exact .refl
  · split
    · exact .refl
    next hCheck =>
      split
      · exact .refl
      next p hPlan => exact (Event.digest <| .amend h i p hPlan hCheck).run

theorem carriesEvents_activate (h : Nat) : CarriesEvents (carryActivate h) := fun s => by
  unfold carryActivate
  split
  · exact .refl
  · split
    · exact .refl
    next hCheck => exact (Event.digest <| .activate h hCheck).run

theorem carriesEvents_retire (h : Nat) : CarriesEvents (carryRetire h) := fun s => by
  unfold carryRetire
  split
  · exact .refl
  · split
    · exact .refl
    next hActive => exact (Event.digest <| .retire h (not_not.1 hActive)).run

theorem carriesEvents_discard (h : Nat) : CarriesEvents (carryDiscard h) := fun s => by
  unfold carryDiscard
  split
  · exact .refl
  · split
    · exact .refl
    next hStaged => exact (Event.quiet <| .discard h (not_not.1 hStaged)).run

theorem carriesEvents_nextChanged : CarriesEvents carryNextChanged := fun s => by
  unfold carryNextChanged
  split
  · exact .refl
  · exact (Event.quiet <| .nextChanged _).run

theorem carriesEvents_streamBegin (first count : Nat) (activate : Bool) :
    CarriesEvents (carryStreamBegin first count activate) := fun s => by
  unfold carryStreamBegin
  split
  · exact .refl
  · split
    · exact .refl
    next hRange =>
      have hCount : 1 ≤ count ∧ first + count ≤ 4096 := by simp only [Config.handleCount] at hRange; omega
      exact (Event.stream <| .streamBegin first count activate hCount.1 hCount.2).run

theorem carriesEvents_streamChunk (images : List StageImage) : CarriesEvents (carryStreamChunk images) := fun s => by
  by_cases hOpen : s.store.stream.state = .opened
  · exact (Event.stream <| .streamChunk images hOpen).run
  · unfold carryStreamChunk
    rw [if_pos hOpen]
    exact .refl

theorem carriesEvents_force (side : Nat) (b : Bool) : CarriesEvents (carryForce side b) := fun s => by
  unfold carryForce
  split
  · exact .refl
  next d _ => exact (Event.line <| .force d b).run

theorem carriesEvents_acknowledge (n : Nat) : CarriesEvents (carryAcknowledge n) := fun s => by
  unfold carryAcknowledge
  split
  · exact .refl
  · exact (Event.quiet <| .attn _).run

theorem events_beforeTaking (s : State) : Events s (beforeTaking s) :=
  events_ite (fun _ => (Event.line .softReset).run) (fun _ => .refl)

/-- A request transaction is a run of events: a soft reset that waits, the writes of the port, and the carrying out. -/
theorem CarriesEvents.taken {carry : State → Carried} (h : CarriesEvents carry) (i : Instr) (tag : Byte) (s : State) :
    Events s (takeRequest i tag carry s) :=
  events_ite (fun _ => (Event.quiet <| .port _).run)
    (fun _ => ((((events_beforeTaking s).tail (Event.quiet <| .port _)).trans (h _)).tail (Event.quiet <| .port _)))

/-! ### Commands -/

/-- A command has an outcome, and it is a run of events. -/
def RunsEvents (i : Instr) : Prop := ∀ s, ∃ t, exec i s = .next t ∧ Events s t

/-- A command without effect on a stopped timer (entry 3). -/
theorem events_timer {timer : Option Nat} {s t : State} (h : timer ≠ none → Events s t) :
    ∃ u, (match timer with
      | none => Host.Outcome.next s
      | some _ => .next t : Host.Outcome State Fault Refusal) = .next u ∧ Events s u := by
  cases timer with
  | none => exact ⟨s, rfl, .refl⟩
  | some n => exact ⟨t, rfl, h (by simp)⟩

theorem events_next_ite {p : Prop} {_ : Decidable p} {s t u : State} (ht : p → Events s t) (hu : ¬ p → Events s u) :
    ∃ v, (if p then Host.Outcome.next t else .next u : Host.Outcome State Fault Refusal) = .next v ∧ Events s v := by
  split
  next h => exact ⟨t, rfl, ht h⟩
  next h => exact ⟨u, rfl, hu h⟩

theorem node_takeGood (d : Side) (s : State) : (takeGood d s).node = s.node := by
  rw [takeGood, lineEvent, refreshReports_node, evalMonitor, State.setMon_node, State.setLane_node]

/-- A frame that is acted on finds the lane Locked still and the ring ID set (R57). -/
theorem events_takeFrame {act : State → State} {d : Side} {inRange : Bool} {s : State}
    (hAct : ∀ u : State, (u.lane d).lock = .locked → u.node.ringId ≠ 0 → inRange = true → Event u (act u)) :
    Events s (takeFrame d inRange act s) := by
  refine events_ite (fun h => ?_) (fun _ => (Event.line <| .goodFrame d).run)
  simp only [State.actsOn, Bool.and_eq_true, decide_eq_true_eq] at h
  obtain ⟨⟨hLock, hRing⟩, hRange⟩ := h
  refine (Event.line <| .goodFrame d).run.tail (hAct _ ?_ ?_ hRange)
  · have hReceiver : ((takeGood d s).lane d).receiver = (s.lane d).countGood.receiver := by
      rw [takeGood, receiver_lineEvent, State.lane_setLane]
    rw [Lane.countGood_keeps hLock] at hReceiver
    exact (congrArg Prod.fst hReceiver).trans hLock
  · rwa [node_takeGood]

theorem runsEvents_classPassEntry : RunsEvents .classPassEntry := fun s => by
  show ∃ t, execClassPassEntry s = .next t ∧ _
  unfold execClassPassEntry
  dsimp only
  split
  next cls pass hPhase =>
    split
    next e hFirst => exact ⟨_, rfl, (Event.quiet .settle).run.tail (Event.quiet <| .candidate cls pass e hFirst)⟩
    next => exact ⟨_, rfl, (Event.quiet .settle).run⟩
  next => exact ⟨_, rfl, (Event.quiet .settle).run⟩

theorem runsEvents_extraPassEntry : RunsEvents .extraPassEntry := fun s =>
  events_next_ite (fun hPhase => by
    have hSettle := (Event.quiet <| .settle (s := s)).run
    rw [hPhase] at hSettle
    exact hSettle.tail (.quiet .extra)) (fun _ => .refl)

theorem runsEvents_fabricDone (tag : Byte) (b : Bool) : RunsEvents (.fabricDone tag b) := fun s => by
  show ∃ t, execFabricDone tag b s = .next t ∧ _
  unfold execFabricDone
  split
  · exact ⟨s, rfl, .refl⟩
  next c hOut =>
    exact events_next_ite (fun _ => (Event.quiet <| .answered true).run.tail (Event.line <| .done c b hOut)) (fun _ => .refl)

theorem runsEvents_fabricRefused (tag : Byte) : RunsEvents (.fabricRefused tag) := fun s => by
  show ∃ t, execFabricRefused tag s = .next t ∧ _
  unfold execFabricRefused
  split
  · exact ⟨s, rfl, .refl⟩
  next c hOut => exact events_next_ite (fun _ => (Event.quiet <| .answered true).run.tail (Event.line <| .refused c hOut)) (fun _ => .refl)

theorem runsEvents_responseTimerExpiry : RunsEvents .responseTimerExpiry := fun s => by
  show ∃ t, execResponseTimerExpiry s = .next t ∧ _
  unfold execResponseTimerExpiry
  split
  · exact ⟨_, rfl, (Event.quiet <| .answered false).run⟩
  · split
    next n c hTimer hOut =>
      exact events_next_ite (fun _ => (Event.quiet <| .retry c hOut (by simp [hTimer])).run) (fun _ => (Event.line <| .refused c hOut).run)
    next => exact ⟨s, rfl, .refl⟩

theorem runsEvents_confirmTimerExpiry (h : Nat) : RunsEvents (.confirmTimerExpiry h) := fun s => by
  show ∃ t, execConfirmTimerExpiry h s = .next t ∧ _
  unfold execConfirmTimerExpiry
  split
  next n r hTimer hRole => exact ⟨_, rfl, (Event.quiet <| .confirmTimer h r (by simp [hTimer]) hRole).run⟩
  next => exact ⟨s, rfl, .refl⟩

theorem runsEvents_readTransaction (bits : Nat) : RunsEvents (.readTransaction bits) := fun s => by
  show ∃ t, execReadTransaction bits s = .next t ∧ _
  unfold execReadTransaction
  split
  next r hAnswered _ =>
    refine ⟨_, rfl, events_ite (fun _ => ?_) (fun _ => (Event.quiet <| .port _).run)⟩
    exact events_ite (fun _ => ((Event.quiet <| .port _).run.tail (Event.quiet <| .port _)).tail (.line .softReset))
      (fun _ => (Event.quiet <| .port _).run.tail (Event.quiet <| .port _))
  next => exact ⟨_, rfl, (Event.quiet <| .port _).run⟩

theorem runsEvents_responsePlaced : RunsEvents .responsePlaced := fun s => by
  show ∃ t, execResponsePlaced s = .next t ∧ _
  unfold execResponsePlaced
  split
  · exact ⟨_, rfl, (Event.quiet <| .port _).run⟩
  · exact ⟨s, rfl, .refl⟩

theorem runsEvents_joinTimerExpiry : RunsEvents .joinTimerExpiry := fun _ =>
  events_timer fun _ => events_ite (fun hJoining => (Event.quiet <| .syncing hJoining).run) (fun _ => .refl)

theorem runsEvents_blockCountReport (d : Side) (report : Option (BitVec 16)) : RunsEvents (.blockCountReport d report) :=
  fun s => by
    cases report with
    | none => exact ⟨s, rfl, .refl⟩
    | some e => exact ⟨_, rfl, (Event.line <| .blockCount d e.toNat).run⟩

/-- A request runs as its carrying out does. -/
theorem CarriesEvents.runs {carry : State → Carried} (h : CarriesEvents carry) {i : Instr} {tag : Byte}
    (hExec : ∀ s, exec i s = .next (takeRequest i tag carry s)) : RunsEvents i := fun s =>
  ⟨_, hExec s, h.taken i tag s⟩

/-- A request that reads, or that is refused whatever the state, changes nothing but the port. -/
theorem runsEvents_reading {carry : State → Carried} (h : ∀ s, (carry s).state = s) {i : Instr} {tag : Byte}
    (hExec : ∀ s, exec i s = .next (takeRequest i tag carry s)) : RunsEvents i := (carriesEvents_same h).runs hExec

/-- Every command runs as events. -/
theorem runsEvents (i : Instr) : RunsEvents i := by
  cases i with
  | fullReset => exact fun s => ⟨_, rfl, (Event.line .fullReset).run⟩
  | lineFail d active => exact fun s => ⟨_, rfl, (Event.line <| .lineFail d active).run⟩
  | blockCountReport d report => exact runsEvents_blockCountReport d report
  | holdOffTimerExpiry d => exact fun s => events_timer fun h => (Event.line <| .holdOff d h).run
  | wtrTimerExpiry d => exact fun s => events_timer fun h => (Event.line <| .wtr d h).run
  | silenceTimerExpiry d => exact fun s => events_timer fun h => (Event.line <| .silence d h).run
  | frameSlot => exact fun s => ⟨_, rfl, (Event.quiet .frameSlot).run⟩
  | laneBadFrame d => exact fun s => ⟨_, rfl, (Event.line <| .badFrame d).run⟩
  | fill d => exact fun s => ⟨_, rfl, (Event.line <| .goodFrame d).run⟩
  | greeting d g => exact fun s => ⟨_, rfl, events_takeFrame fun _ hLock hRing hRange => .line (.greeting d g hLock hRing hRange)⟩
  | spanReport d r => exact fun s => ⟨_, rfl, events_takeFrame fun _ hLock hRing hRange => .line (.spanReport d r hLock hRing hRange)⟩
  | pathConfirm d p => exact fun s => ⟨_, rfl, events_takeFrame fun _ hLock hRing hRange => .quiet (.pathConfirm d p hLock hRing hRange)⟩
  | lockWindowTimerExpiry d => exact fun s => events_timer fun h => (Event.line <| .lockWindow d h).run
  | adjacencyTimerExpiry d => exact fun s => events_timer fun h => (Event.line <| .adjacency d h).run
  | greetingTimerExpiry d => exact fun s => events_timer fun h => (Event.quiet <| .greetingTimer d h).run
  | joinTimerExpiry => exact runsEvents_joinTimerExpiry
  | gatherHandle => exact fun s => events_next_ite (fun h => (Event.quiet <| .gather h.1 h.2).run) (fun _ => .refl)
  | classPassEntry => exact runsEvents_classPassEntry
  | extraPassEntry => exact runsEvents_extraPassEntry
  | sweepCommit => exact fun s => events_next_ite (fun h => (Event.commit h).run) (fun _ => .refl)
  | fabricDone tag b => exact runsEvents_fabricDone tag b
  | fabricRefused tag => exact runsEvents_fabricRefused tag
  | fabricLinkDiscard => exact fun s => ⟨s, rfl, .refl⟩
  | responseTimerExpiry => exact runsEvents_responseTimerExpiry
  | reassertionTimerExpiry => exact fun s => events_timer fun h => (Event.quiet <| .reassert h).run
  | confirmTimerExpiry h => exact runsEvents_confirmTimerExpiry h
  | readTransaction bits => exact runsEvents_readTransaction bits
  | requestDiscarded => exact fun s => events_next_ite (fun _ => (Event.quiet <| .port _).run) (fun _ => .refl)
  | badFrame b => exact runsEvents_reading (carry := answerOnly .badFrame) (fun _ => rfl) (fun _ => rfl)
  | unknownCommand b => exact runsEvents_reading (carry := answerOnly .unknownCommand) (fun _ => rfl) (fun _ => rfl)
  | responsePlaced => exact runsEvents_responsePlaced
  | start tag => exact carriesEvents_start.runs (fun _ => rfl)
  | stop tag => exact carriesEvents_stop.runs (fun _ => rfl)
  | softReset tag => exact carriesEvents_softReset.runs (fun _ => rfl)
  | setRing tag ringId n own => exact (carriesEvents_setRing ringId n own).runs (fun _ => rfl)
  | setTimers tag a b c d e =>
    exact CarriesEvents.runs (carry := carrySetTimers a b c d e) (fun _ => (Event.quiet <| .setTimers a b c d e).run) (fun _ => rfl)
  | setDegrade tag side leak declare clear => exact (carriesEvents_setDegrade side leak declare clear).runs (fun _ => rfl)
  | setSpanDelay tag span delay => exact (carriesEvents_setSpanDelay span delay).runs (fun _ => rfl)
  | readNode tag => exact runsEvents_reading (carry := carryReadNode) (fun _ => rfl) (fun _ => rfl)
  | stageRecord tag h image => exact (carriesEvents_stage h image).runs (fun _ => rfl)
  | amendRecord tag h image => exact (carriesEvents_amend h image).runs (fun _ => rfl)
  | activateRecord tag h => exact (carriesEvents_activate h).runs (fun _ => rfl)
  | retireRecord tag h => exact (carriesEvents_retire h).runs (fun _ => rfl)
  | discardRecord tag h => exact (carriesEvents_discard h).runs (fun _ => rfl)
  | readRecord tag h =>
    exact runsEvents_reading (carry := carryReadRecord h) (fun s => by unfold carryReadRecord; split <;> rfl) (fun _ => rfl)
  | findCircuit tag circuit =>
    exact runsEvents_reading (carry := carryFindCircuit circuit)
      (fun s => by
        unfold carryFindCircuit
        split
        · rfl
        · split <;> rfl) (fun _ => rfl)
  | nextChanged tag => exact carriesEvents_nextChanged.runs (fun _ => rfl)
  | streamBegin tag first count activate => exact (carriesEvents_streamBegin first count activate).runs (fun _ => rfl)
  | streamChunk tag images => exact (carriesEvents_streamChunk images).runs (fun _ => rfl)
  | streamStatus tag => exact runsEvents_reading (carry := withStream .ok) (fun _ => rfl) (fun _ => rfl)
  | streamAbort tag => exact CarriesEvents.runs (carry := carryStreamAbort) (fun _ => (Event.stream .streamAbort).run) (fun _ => rfl)
  | forceSpan tag side => exact (carriesEvents_force side true).runs (fun _ => rfl)
  | releaseSpan tag side => exact (carriesEvents_force side false).runs (fun _ => rfl)
  | readSpanMap tag => exact runsEvents_reading (carry := carryReadSpanMap) (fun _ => rfl) (fun _ => rfl)
  | readLane tag side =>
    exact runsEvents_reading (carry := carryReadLane side) (fun s => by unfold carryReadLane; split <;> rfl) (fun _ => rfl)
  | readSlotGrants tag span =>
    exact runsEvents_reading (carry := carryReadSlotGrants span)
      (fun s => by unfold carryReadSlotGrants; split <;> rfl) (fun _ => rfl)
  | readConnections tag first count =>
    exact runsEvents_reading (carry := carryReadConnections first count)
      (fun s => by unfold carryReadConnections; split <;> rfl) (fun _ => rfl)
  | readSummary tag => exact CarriesEvents.runs (carry := carryReadSummary) (fun _ => (Event.quiet <| .attn _).run) (fun _ => rfl)
  | acknowledgeCause tag n => exact (carriesEvents_acknowledge n).runs (fun _ => rfl)
  | setAttentionMask tag enables =>
    exact CarriesEvents.runs (carry := carrySetMask enables) (fun _ => (Event.quiet <| .attn _).run) (fun _ => rfl)
  | discardedGoodFrame d => exact fun s => ⟨_, rfl, (Event.line <| .goodFrame d).run⟩

/-! ### The step -/

/-- A step is a run of events. -/
theorem step_events {s t : State} (h : step s = .next t) : Events s t := by
  unfold step at h
  split at h
  next => cases h; exact (Event.line .ticked).run
  next i rest _ =>
    obtain ⟨u, hNext, hEvents⟩ := runsEvents i { s with pending := rest }
    obtain rfl : u = t := by simpa [hNext] using h
    exact hEvents.head (Event.quiet <| .pending rest)

/-- What every event keeps, every step keeps. -/
theorem step_keeps {P : State → Prop} (hKeeps : ∀ s t, Event s t → P s → P t) {s t : State} (hs : P s)
    (h : step s = .next t) : P t := by
  have hRun := step_events h
  clear h
  induction hRun with
  | refl => exact hs
  | tail _ hEvent ih => exact hKeeps _ _ hEvent ih

/-- What every event keeps under an invariant that every event keeps, every step keeps under it. -/
theorem step_keeps_under {Q P : State → Prop} (hUnder : ∀ s t, Event s t → Q s → Q t)
    (hKeeps : ∀ s t, Event s t → Q s → P s → P t) {s t : State} (hQ : Q s) (hP : P s) (h : step s = .next t) : P t :=
  (step_keeps (P := fun u => Q u ∧ P u) (fun u v hEvent hu => ⟨hUnder u v hEvent hu.1, hKeeps u v hEvent hu.1 hu.2⟩)
    ⟨hQ, hP⟩ h).2

end Sys2Proof.Machine
end

section
/-!
PROOFS. The writes that touch only what a record holds at run time: its outcome, reason, connection status and exchange, with the
changed set, the Path Confirm queues and the Attention Unit. The Confirmation Unit, the connection statuses and the commit's
outcomes are such writes; `DynStep` says what they keep.
-/

namespace Sys2Proof.Machine

/-- From `s` to `t` only run-time fields of the records for which `w` holds are written, with the changed set, the Path Confirm
queues of lanes that are Up, and the Attention Unit. -/
structure DynStep (w : Nat → Prop) (s t : State) : Prop where
  frame : t = { s with
    store := { s.store with records := t.store.records, changed := t.store.changed },
    laneEast := { s.laneEast with queue := t.laneEast.queue }, laneWest := { s.laneWest with queue := t.laneWest.queue },
    attn := t.attn }
  fields : ∀ h, t.record h = { s.record h with
    outcome := (t.record h).outcome, reason := (t.record h).reason, conn := (t.record h).conn,
    exchange := (t.record h).exchange }
  others : ∀ h, ¬ w h → t.record h = s.record h
  canonical : Table.wf Record.free s.store.records = true → Table.wf Record.free t.store.records = true
  queue : ∀ d, (t.lane d).queue = (s.lane d).queue ∨
    (s.lane d).adjacency = .up ∧ ((s.lane d).queue.length ≤ 16 → (t.lane d).queue.length ≤ 16)

namespace DynStep

variable {w : Nat → Prop} {s t u : State}

theorem refl (w : Nat → Prop) (s : State) : DynStep w s s :=
  ⟨rfl, fun _ => rfl, fun _ _ => rfl, id, fun _ => .inl rfl⟩

theorem lane (h : DynStep w s t) (d : Side) : t.lane d = { s.lane d with queue := (t.lane d).queue } := by
  rw [h.frame]; cases d <;> rfl

theorem node (h : DynStep w s t) : t.node = s.node := by rw [h.frame]

theorem map (h : DynStep w s t) : t.map = s.map := by rw [h.frame]

theorem planner (h : DynStep w s t) : t.planner = s.planner := by rw [h.frame]

theorem fabric (h : DynStep w s t) : t.fabric = s.fabric := by rw [h.frame]

theorem mon (h : DynStep w s t) (d : Side) : t.mon d = s.mon d := by rw [h.frame]; cases d <;> rfl

theorem digest (h : DynStep w s t) : t.store.digest = s.store.digest := by rw [h.frame]

theorem labelIndex (h : DynStep w s t) : t.store.labelIndex = s.store.labelIndex := by rw [h.frame]

theorem stream (h : DynStep w s t) : t.store.stream = s.store.stream := by rw [h.frame]

theorem port (h : DynStep w s t) : t.port = s.port := by rw [h.frame]

theorem pending (h : DynStep w s t) : t.pending = s.pending := by rw [h.frame]

theorem entry (h : DynStep w s t) (i : Nat) : t.entry i = s.entry i := by rw [h.frame]; rfl

theorem lifecycle (h : DynStep w s t) (k : Nat) : (t.record k).lifecycle = (s.record k).lifecycle := by rw [h.fields k]

theorem plan (h : DynStep w s t) (k : Nat) : (t.record k).plan = (s.record k).plan := by rw [h.fields k]

theorem recPort (h : DynStep w s t) (k : Nat) : (t.record k).port = (s.record k).port := by rw [h.fields k]

theorem code (h : DynStep w s t) (k : Nat) : (t.record k).code = (s.record k).code := by rw [h.fields k]

theorem endRole (h : DynStep w s t) (k : Nat) : t.endRole k = s.endRole k := by
  rw [State.endRole, State.endRole, h.plan, h.node]

theorem trans (h : DynStep w s t) (k : DynStep w t u) : DynStep w s u where
  frame := by rw [k.frame, h.frame]
  fields j := by rw [k.fields j, h.fields j]
  others j hj := (k.others j hj).trans (h.others j hj)
  canonical hs := k.canonical (h.canonical hs)
  queue d := by
    have hUp : (t.lane d).adjacency = (s.lane d).adjacency := by rw [h.lane d]
    rcases k.queue d with hSame | ⟨hk, hLength⟩
    · rw [hSame]; exact h.queue d
    · rcases h.queue d with hSame | ⟨hs, hBefore⟩
      · rw [hSame] at hLength; exact .inr ⟨hUp ▸ hk, hLength⟩
      · exact .inr ⟨hs, fun hq => hLength (hBefore hq)⟩

theorem mono {w' : Nat → Prop} (h : DynStep w s t) (hw : ∀ k, w k → w' k) : DynStep w' s t :=
  { h with others := fun k hk => h.others k fun hwk => hk (hw k hwk) }

theorem ite {p : Prop} {_ : Decidable p} (ht : p → DynStep w s t) (hu : ¬ p → DynStep w s u) :
    DynStep w s (if p then t else u) := by
  split
  next h => exact ht h
  next h => exact hu h

/-- An operation that writes run-time fields for one number of a list writes them for each. -/
theorem forEach {f : Nat → State → State} {l : List Nat} (hf : ∀ h ∈ l, ∀ s, DynStep w s (f h s)) (s : State) :
    DynStep w s (forEach l f s) := by
  induction l generalizing s with
  | nil => exact refl w s
  | cons h l ih =>
    exact (hf h (by simp) s).trans (ih (fun k hk => hf k (List.mem_cons_of_mem _ hk)) (f h s))

end DynStep

variable {w : Nat → Prop} {s : State}

theorem dynStep_raiseCause (w : Nat → Prop) (c : Cause) (s : State) : DynStep w s (raiseCause c s) :=
  ⟨rfl, fun _ => rfl, fun _ _ => rfl, id, fun d => .inl (by cases d <;> rfl)⟩

theorem dynStep_markChanged (w : Nat → Prop) (h : Nat) (s : State) : DynStep w s (markChanged h s) := by
  rw [markChanged_eq]
  exact ⟨rfl, fun _ => rfl, fun _ _ => rfl, id, fun d => .inl (by cases d <;> rfl)⟩

theorem dynStep_markChangedIf (w : Nat → Prop) (b : Bool) (h : Nat) (s : State) : DynStep w s (markChangedIf b h s) :=
  .ite (fun _ => dynStep_markChanged w h s) (fun _ => .refl w s)

/-- Writing run-time fields of one record. -/
theorem dynStep_setRec {h : Nat} {r : Record} (hw : w h)
    (hr : r = { s.record h with
      outcome := r.outcome, reason := r.reason, conn := r.conn, exchange := r.exchange }) :
    DynStep w s (s.setRec h r) where
  frame := rfl
  fields k := by
    rw [record_setRec]
    split
    next hk => rw [hk]; exact hr
    next => rfl
  others k hk := by rw [record_setRec, if_neg (by rintro rfl; exact hk hw)]
  canonical hs := Table.set_wf _ _ hs
  queue d := .inl (by cases d <;> rfl)

theorem dynStep_giveConfirm (w : Nat → Prop) (d : Side) (p : PathConfirm) (s : State) :
    DynStep w s (giveConfirm d p s) := by
  refine ⟨?_, fun h => ?_, fun h _ => ?_, ?_, fun e => ?_⟩
  · rw [giveConfirm_eq]; cases d <;> rfl
  · rw [giveConfirm_eq]; cases d <;> rfl
  · rw [giveConfirm_eq]; cases d <;> rfl
  · rw [giveConfirm_eq, State.setLane_store]; exact id
  · rw [giveConfirm_eq]
    obtain rfl | rfl := Side.eq_or_eq_other e d
    · rw [State.lane_setLane]
      dsimp only
      split
      next hUp => exact .inr ⟨hUp.1, fun _ => by rw [List.length_append]; exact hUp.2⟩
      next => exact .inl rfl
    · rw [State.lane_setLane_other]; exact .inl rfl

theorem dynStep_sendConfirm (w : Nat → Prop) (h : Nat) (r : Role) (heard : Bool) (s : State) :
    DynStep w s (sendConfirm h r heard s) := dynStep_giveConfirm w _ _ s

/-! ### The Confirmation Unit -/

theorem dynStep_setExchange {h : Nat} (hw : w h) (x : Exchange) (s : State) : DynStep w s (setExchange h x s) :=
  (dynStep_setRec hw rfl).trans (dynStep_markChangedIf w _ h _)

theorem dynStep_setExchange_self (h : Nat) (x : Exchange) (s : State) : DynStep (· = h) s (setExchange h x s) :=
  dynStep_setExchange (w := (· = h)) rfl x s

theorem dynStep_enterAwaiting {h : Nat} (hw : w h) (r : Role) (s : State) : DynStep w s (enterAwaiting h r s) :=
  (dynStep_sendConfirm w h r _ s).trans (dynStep_setExchange hw _ _)

theorem dynStep_testLocal {h : Nat} (hw : w h) (s : State) : DynStep w s (testLocal h s) := by
  unfold testLocal
  split
  · exact .refl w s
  · exact .ite (fun _ => dynStep_enterAwaiting hw _ s) (fun _ => .refl w s)

theorem dynStep_confirmOutcome {h : Nat} (hw : w h) (before : Outcome) (s : State) :
    DynStep w s (confirmOutcome h before s) := by
  unfold confirmOutcome
  split
  · exact .refl w s
  · exact .ite (fun _ => (dynStep_setExchange hw _ s).trans (dynStep_testLocal hw _))
      (fun _ => .ite (fun _ => dynStep_setExchange hw _ s) (fun _ => .refl w s))

theorem dynStep_handEntries (old s : State) : DynStep (· ∈ s.handles) s (handEntries old s) :=
  .forEach (fun _ hh t => .ite (fun _ => dynStep_testLocal hh t) (fun _ => .refl _ t)) s

theorem dynStep_handOutcomes (old s : State) : DynStep (· ∈ s.handles) s (handOutcomes old s) :=
  .forEach (fun _ hh t => dynStep_confirmOutcome hh _ t) s

theorem dynStep_confirmArrives (d : Side) (p : PathConfirm) (s : State) :
    DynStep (· = p.handle) s (confirmArrives d p s) := by
  unfold confirmArrives
  split
  · exact .refl _ s
  · refine .ite (fun _ => ?_) (fun _ => .refl _ s)
    exact .ite (fun _ => (dynStep_setExchange_self _ _ s).trans (dynStep_sendConfirm _ _ _ _ _))
      (fun _ => dynStep_setExchange_self _ _ s)

theorem dynStep_actOnPathConfirm (d : Side) (p : PathConfirm) (s : State) :
    DynStep (· = p.handle) s (actOnPathConfirm d p s) :=
  .ite (fun _ => .ite (fun _ => .refl _ s) fun _ => .ite (fun _ => dynStep_confirmArrives d p s)
    fun _ => .ite (fun _ => .refl _ s) fun _ => dynStep_giveConfirm _ _ _ s) (fun _ => .refl _ s)

theorem dynStep_confirmExpires (h : Nat) (r : Role) (s : State) : DynStep (· = h) s (confirmExpires h r s) :=
  .ite (fun _ => dynStep_setExchange_self _ _ s) fun _ =>
    .ite (fun _ => (dynStep_sendConfirm _ h r _ s).trans (dynStep_setExchange_self _ _ _)) fun _ =>
      .ite (fun _ => dynStep_setExchange_self _ _ s)
        fun _ => (dynStep_setExchange_self _ _ s).trans (dynStep_raiseCause _ _ _)

theorem dynStep_restartSending (h : Nat) (s : State) : DynStep (· = h) s (restartSending h s) := by
  unfold restartSending
  dsimp only
  split
  · exact .refl _ s
  · refine .ite (fun _ => ?_) (fun _ => .refl _ s)
    exact .ite (fun _ => dynStep_setExchange_self _ _ s)
      (fun _ => (dynStep_sendConfirm _ h _ _ s).trans (dynStep_setExchange_self _ _ _))

theorem dynStep_resumeExchange {h : Nat} (hw : w h) (s : State) : DynStep w s (resumeExchange h s) :=
  .ite (fun _ => dynStep_setExchange hw _ s) (fun _ => dynStep_testLocal hw s)

theorem dynStep_resumeExchanges (s : State) : DynStep (· ∈ s.handles) s (resumeExchanges s) :=
  .forEach (fun _ hh t => dynStep_resumeExchange hh t) s

theorem dynStep_dropDetour {h : Nat} (hw : w h) (s : State) : DynStep w s (dropDetour h s) := by
  unfold dropDetour
  split
  · exact .refl w s
  · exact .ite (fun _ => dynStep_setExchange hw _ s) (fun _ => .refl w s)

/-! ### Outcomes and connection statuses -/

theorem dynStep_writeResult {h : Nat} (hw : w h) (o : Outcome) (v : Reason) (s : State) :
    DynStep w s (writeResult h o v s) := (dynStep_setRec hw rfl).trans (dynStep_markChangedIf w _ h _)

theorem dynStep_writeResults (s : State) : DynStep (· ∈ s.handles) s (writeResults s) :=
  .forEach (fun _ hh t => dynStep_writeResult hh _ _ t) s

theorem dynStep_unplan {h : Nat} (hw : w h) (s : State) : DynStep w s (unplan h s) := by
  unfold unplan
  split
  · exact dynStep_writeResult hw _ _ s
  · exact dynStep_writeResult hw _ _ s
  · exact .refl w s

theorem dynStep_refreshConnOf {h : Nat} (hw : w h) (s : State) : DynStep w s (refreshConnOf h s) :=
  .ite (fun _ => .refl w s) (fun _ => (dynStep_setRec hw rfl).trans (dynStep_markChangedIf w _ h _))

theorem dynStep_refreshConn (s : State) : DynStep (· ∈ s.handles) s (refreshConn s) :=
  .forEach (fun _ hh t => dynStep_refreshConnOf hh t) s

end Sys2Proof.Machine
end

section
/-!
PROOFS. The writes that the events are made of. An `Atom` writes one unit of the block, with what is known of the value written;
`Event.atoms` says that every event is a run of atoms. An invariant that holds also between the writes of one event is then a case
analysis over the atoms (`step_keeps_atoms`), in most of which the invariant's own fields are not written at all.
-/

namespace Sys2Proof.Machine

/-- The writes of a lane, but for its Path Confirm queue. -/
inductive LaneWrite (s : State) (d : Side) : Lane → Prop
  | mark (span : Nat) (e : SpanEnd) (hUp : (s.lane d).adjacency = .up) (hSpan : span < s.node.ringSize) :
      LaneWrite s d { s.lane d with pendingKeys := setInsert (s.lane d).pendingKeys (keyOf span e) }
  | markOwn (o : Side) (hUp : (s.lane d).adjacency = .up) (hRing : s.node.ringSize ≠ 0) :
      LaneWrite s d { s.lane d with
        pendingKeys := setInsert (s.lane d).pendingKeys (ownKey s.node.ringSize s.node.own o) }
  | countGood : LaneWrite s d (s.lane d).countGood
  | countBad : LaneWrite s d (s.lane d).countBad
  | loseLock : LaneWrite s d (s.lane d).loseLock
  | toDown : LaneWrite s d (s.lane d).toDown
  | greetingDue (hTimer : (s.lane d).greetTimer ≠ none) : LaneWrite s d (s.lane d).greetingDue
  | slot (u : State) (hLane : u.lane d = s.lane d) : LaneWrite s d (u.slotLane d)
  | correct (g : Greeting) (hLock : (s.lane d).lock = .locked) : LaneWrite s d ((correctGreeting d g s).lane d)
  | incorrect (g : Greeting) (hLock : (s.lane d).lock = .locked) : LaneWrite s d ((incorrectGreeting d g s).lane d)

/-- The writes of the Planner. -/
inductive PlannerWrite (s : State) : Planner → Prop
  | sweep (snapshot : List SnapSpan) (n : Nat) (hn : n = s.planner.abandonCount ∨ n ≤ 4) :
      PlannerWrite s { s.planner.sweepOn snapshot with abandonCount := n }
  | keep (phase : Phase) (late : List Nat) (replan : Bool) (n : Nat) (committed : Table (Option Nat)) (k : BitVec 16)
      (hn : n = s.planner.abandonCount ∨ n = 0)
      (hCommitted : committed = s.planner.committed ∨ committed = s.planner.nextGrants ∨ committed = []) :
      PlannerWrite s { s.planner with
        phase := phase, late := late, replan := replan, abandonCount := n, committed := committed, commitNumber := k }
  | discard (snapshot : List SnapSpan) :
      PlannerWrite s { s.planner with snapshot := snapshot, buffer := [], excluded := [], nextGrants := [] }
  | gather (hPos : s.planner.gatherPos < 4096) : PlannerWrite s (gatherOne s).planner
  | candidate (cls : Nat) (pass : Pass) (e : PlanEntry) (hFirst : firstWith (.forClass cls pass) s.planner.buffer = some e) :
      PlannerWrite s (treatCandidate cls pass e s).planner
  | extra : PlannerWrite s (treatExtra s).planner

/-- What some runs of atoms do not write: what the Line Monitors, the end reports and the held spans hang on; what the digest
sums; the exchanges, in a way that breaks their law; the Stream. -/
inductive Region where
  | line
  | digest
  | exchange
  | stream

/-- The writes of one record that are more than run-time fields. -/
inductive RecordWrite (w : Region → Prop) (s : State) (h : Nat) : Record → Prop
  | active (hDigest : w .digest) (hStaged : (s.record h).lifecycle = .staged)
      (hApart : ∀ k, k ≠ h → (s.record k).lifecycle = .active →
        slotClash s.node.ringSize (s.record k).plan (s.record h).plan = false ∧
          ((s.record h).port = none ∨ (s.record k).port ≠ (s.record h).port)) :
      RecordWrite w s h { s.record h with lifecycle := .active }
  | retiring (hActive : (s.record h).lifecycle = .active) : RecordWrite w s h { s.record h with lifecycle := .retiring }
  | port (p : Option Byte) (hActive : (s.record h).lifecycle = .active)
      (hApart : ∀ k, k ≠ h → (s.record k).lifecycle = .active → p = none ∨ (s.record k).port ≠ p) :
      RecordWrite w s h { s.record h with port := p }
  | planning (hDigest : w .digest) (i : StageImage) (p : Planning) (hPlan : imagePlanning i = some p)
      (hActive : (s.record h).lifecycle = .active)
      (hSame : p = { (s.record h).plan with prio := p.prio, ceiling := p.ceiling, lockout := p.lockout }) :
      RecordWrite w s h { s.record h with plan := p, code := recordCode h p }

/-- The cadence scale is one of the four (R29). -/
def IsCadence (n : Nat) : Prop := n = 1 ∨ n = 2 ∨ n = 4 ∨ n = 8

/-- The writes of the Fabric Driver that a command of its own or a setting makes. -/
inductive FabricWrite (s : State) : Fabric → Prop
  | cadence (n : Nat) (hn : IsCadence n) : FabricWrite s { s.fabric with cadence := n }
  | answered (b : Bool) : FabricWrite s { s.fabric with answered := b }
  | resync (b : Bool) : FabricWrite s { s.fabric with resyncDone := b }
  | request (n : Nat) (hTimer : s.fabric.reassertTimer ≠ none) :
      FabricWrite s { s.fabric with reassertPending := true, reassertTimer := some n }
  | dispatch : FabricWrite s (dispatch s).fabric
  | retry (c : Command) (hOut : s.fabric.outstanding = some c) :
      FabricWrite s (sendCommand { c with attempt := 2 } s).fabric
  | done (c : Command) (hOut : s.fabric.outstanding = some c) : FabricWrite s (confirmEntry c (retireCommand c s)).fabric
  | failed (c : Command) (hOut : s.fabric.outstanding = some c) : FabricWrite s (failEntry c (retireCommand c s)).fabric
  | derive : FabricWrite s (deriveMap s).fabric

/-- An Open Stream has no more images to come than it has handles, none beyond handle 4095 (R21). -/
def Stream.InRange (x : Stream) : Prop := x.state = .opened → x.remaining ≤ x.count ∧ x.first + x.count ≤ 4096

/-- The law of the exchanges is kept. -/
def KeepsExchanges (s t : State) : Prop := ExchangesSound s → ExchangesSound t

/-- The writes that the events are made of, in runs that write the regions of which `w` holds. -/
inductive Atom (w : Region → Prop) (s : State) : State → Prop
  | pending (l : List Instr) : Atom w s { s with pending := l }
  | port (p : Port) : Atom w s { s with port := p }
  | attn (a : Attention) : Atom w s { s with attn := a }
  | changed (l : List Nat) : Atom w s { s with store := { s.store with changed := l } }
  | stream (hStream : w .stream) (x : Stream) (hRange : s.store.stream.InRange → x.InRange) : Atom w s (s.setStream x)
  | ticked (hLine : w .line) : Atom w s (tick s)
  | timersStopped : Atom w s (stopConfirmTimers s)
  | fullReset (hLine : w .line) : Atom w s (fullReset s)
  | softReset (hLine : w .line) : Atom w s (softReset s)
  | mon (hLine : w .line) (d : Side) (m : Monitor) (hRange : (s.mon d).degradeInRange → m.degradeInRange) :
      Atom w s (s.setMon d m)
  | lane (d : Side) (l : Lane) (hWrite : LaneWrite s d l)
      (hReceiver : w .line ∨ l.lock = (s.lane d).lock ∧ l.adjacency = (s.lane d).adjacency) : Atom w s (s.setLane d l)
  | own (d : Side) (r : EndReport) (hContent : w .line ∨ r.content = (s.map.own d).content) :
      Atom w s { s with map := s.map.setOwn d r }
  | other (hLine : w .line) (key : Nat) (e : EndReport) :
      Atom w s { s with map := { s.map with others := Table.set none s.map.others key (some e) } }
  | spans (hLine : w .line) : Atom w s { s with map := { s.map with spans := s.workedOutSpans } }
  | delay (hDigest : w .digest) (span : Nat) (delay : BitVec 16) :
      Atom w s { s with map := { s.map with delays := Table.set 0 s.map.delays span delay } }
  | planner (p : Planner) (hWrite : PlannerWrite s p) : Atom w s { s with planner := p }
  | fabric (f : Fabric) (hWrite : FabricWrite s f) : Atom w s { s with fabric := f }
  | settings (holdOff wtr confirm reassert : Nat) :
      Atom w s { s with node := { s.node with
        holdOff := holdOff, wtr := wtr, confirmInterval := confirm, reassertInterval := reassert } }
  | syncing (hState : s.node.state = .joining) :
      Atom w s { s with node := { s.node with state := .syncing, joinTimer := none } }
  | joining (hState : s.node.state = .configuring) (hRing : s.node.ringId ≠ 0) (n : Nat) :
      Atom w s { s with node := { s.node with state := .joining, joinTimer := some n } }
  | running (hLine : w .line) (hState : s.node.state = .syncing) (n : Nat) :
      Atom w s { s with
        node := { s.node with state := .running },
        fabric := { s.fabric with reassertTimer := some n, reassertPending := false } }
  | stopped (hLine : w .line) : Atom w s { s with
      node := { s.node with state := .configuring, joinTimer := none }, fabric := s.fabric.stop }
  | newRing (hLine : w .line) (hExchange : w .exchange) (ringId n own : Nat) (hState : s.node.state = .configuring)
      (hFields : ringFieldsOk ringId n own = true)
      (hApart : ∀ h k, h ≠ k → (s.record h).lifecycle = .active → (s.record k).lifecycle = .active →
        slotClash n (s.record h).plan (s.record k).plan = false) : Atom w s (emptyPlan (newRing ringId n own s))
  | dyn {t : State} (v : Nat → Prop) (hStep : DynStep v s t) (hListed : ∀ h, v h → h ∈ s.handles)
      (hExchange : w .exchange ∨ KeepsExchanges s t) : Atom w s t
  | record (h : Nat) (r : Record) (hWrite : RecordWrite w s h r) : Atom w s (s.setRec h r)
  | stage (h : Nat) (i : StageImage) (p : Planning) (hPlan : imagePlanning i = some p)
      (hRange : s.store.stream.InRange → h < 4096) (hCheck : s.stageCheck h i = .pass) :
      Atom w s (stageFields h p (imagePort i) s)
  | free (h : Nat) (hDigest : w .digest ∨ (s.record h).lifecycle = .staged) : Atom w s (freeRecord h s)
  | digest (hDigest : w .digest) (v : BitVec 32) : Atom w s (setDigest v s)

/-- A run of atoms. -/
abbrev Atoms (w : Region → Prop) : State → State → Prop := Relation.ReflTransGen (Atom w)

variable {w : Region → Prop}

theorem Atom.run {s t : State} (h : Atom w s t) : Atoms w s t := .single h

theorem atoms_ite {p : Prop} {_ : Decidable p} {s t u : State} (ht : p → Atoms w s t) (hu : ¬ p → Atoms w s u) :
    Atoms w s (if p then t else u) := by
  split
  next h => exact ht h
  next h => exact hu h

theorem atoms_forEach {f : Nat → State → State} (hf : ∀ h s, Atoms w s (f h s)) (l : List Nat) (s : State) :
    Atoms w s (forEach l f s) := by
  induction l generalizing s with
  | nil => exact .refl
  | cons h l ih => exact (hf h s).trans (ih (f h s))

theorem atoms_raiseIf (b : Bool) (c : Cause) (s : State) : Atoms w s (raiseIf b c s) :=
  atoms_ite (fun _ => (Atom.attn _).run) (fun _ => .refl)

/-! ### Sweeps and reports -/

theorem atoms_startSweep (s : State) : Atoms w s (startSweep s) :=
  (Atom.planner _ (.sweep s.takeSnapshot s.planner.abandonCount (.inl rfl))).run

/-- Setting re-plan pending. -/
theorem atoms_replan (s : State) : Atoms w s { s with planner := { s.planner with replan := true } } :=
  (Atom.planner _ (.keep s.planner.phase s.planner.late true _ _ s.planner.commitNumber (.inl rfl) (.inl rfl))).run

theorem atoms_hostTrigger (s : State) : Atoms w s (hostTrigger s) :=
  atoms_ite (fun _ => .refl) fun _ => atoms_ite (fun _ => atoms_startSweep s) (fun _ => atoms_replan s)

theorem atoms_spanTrigger (s : State) : Atoms w s (spanTrigger s) :=
  atoms_ite (fun _ => .refl) fun _ => atoms_ite (fun _ => atoms_startSweep s) fun _ =>
    atoms_ite (fun hFew => (Atom.planner _ (.sweep s.takeSnapshot (s.planner.abandonCount + 1) (.inr hFew))).run)
      (fun _ => atoms_replan s)

theorem atoms_compared (hLine : w .line) (s : State) : Atoms w s s.compared := by
  have hSpans : Atoms w s { s with map := { s.map with spans := s.workedOutSpans } } := (Atom.spans hLine).run
  unfold State.compared
  by_cases hLost : s.anySpan becameUnusable = true
  · simp only [hLost, if_true]
    exact (hSpans.tail (.fabric { s.fabric with cadence := 1 } (.cadence 1 (.inl rfl)))).tail (Atom.attn _)
  · simp only [hLost]
    exact hSpans.tail (Atom.attn _)

theorem atoms_compareSpans (hLine : w .line) (s : State) : Atoms w s (compareSpans s) := by
  rw [compareSpans_eq_compared]
  exact atoms_ite (fun _ => (atoms_compared hLine s).trans (atoms_spanTrigger _)) (fun _ => atoms_compared hLine s)

theorem atoms_markOwn (d o : Side) (s : State) (hRing : s.node.ringSize ≠ 0) :
    Atoms w s (markKey d (ownKey s.node.ringSize s.node.own o) s) :=
  atoms_ite (fun hUp => (Atom.lane d _ (.markOwn o hUp hRing) (.inr ⟨rfl, rfl⟩)).run) (fun _ => .refl)

@[simp] theorem markKey_node (d : Side) (key : Nat) (s : State) : (markKey d key s).node = s.node := by
  rw [markKey_eq, State.setLane_node]

theorem atoms_markBothOwn (o : Side) (s : State) (hRing : s.node.ringSize ≠ 0) :
    Atoms w s (markBoth (ownKey s.node.ringSize s.node.own o) s) := by
  have hWest := atoms_markOwn (w := w) .west o (markKey .east (ownKey s.node.ringSize s.node.own o) s) (by simpa using hRing)
  rw [markKey_node] at hWest
  exact (atoms_markOwn .east o s hRing).trans hWest

/-- Writing an own report. -/
theorem atoms_setOwn (o : Side) (r : EndReport) (s : State) (hContent : w .line ∨ r.content = (s.map.own o).content) :
    Atoms w s { s with map := s.map.setOwn o r } := (Atom.own o r hContent).run

theorem atoms_takeOwn (hLine : w .line) (d : Side) (s : State) : Atoms w s (takeOwn d s) :=
  atoms_ite (fun _ => .refl) fun _ =>
    atoms_ite (fun _ => atoms_setOwn d _ s (.inl hLine))
      (fun hRing => (atoms_setOwn d _ s (.inl hLine)).trans (atoms_markBothOwn d _ hRing))

theorem atoms_refreshReports (hLine : w .line) (s : State) : Atoms w s (refreshReports s) :=
  ((atoms_takeOwn hLine .east s).trans (atoms_takeOwn hLine .west _)).trans (atoms_compareSpans hLine _)

/-! ### The Line Monitor -/

/-- The settings and the integrator of a monitor are those of another, or the integrator is zeroed. -/
theorem Monitor.degradeInRange_of {m m' : Monitor} (hLeak : m'.leak = m.leak) (hDeclare : m'.declareLevel = m.declareLevel)
    (hClear : m'.clearLevel = m.clearLevel) (hInt : m'.integrator = m.integrator ∨ m'.integrator ≤ 16777215)
    (h : m.degradeInRange) : m'.degradeInRange := by
  unfold Monitor.degradeInRange at *
  rw [hLeak, hDeclare, hClear]
  exact ⟨hInt.elim (fun he => he ▸ h.1) id, h.2⟩

theorem Monitor.integrator_setDefects (m : Monitor) (new : Defects) (holdOff wtr : Nat) :
    (m.setDefects new holdOff wtr).integrator = m.integrator ∨ (m.setDefects new holdOff wtr).integrator ≤ 16777215 := by
  have hHit : ∀ (m : Monitor) ret, (m.hit holdOff ret).integrator = 0 := by
    intro m ret; unfold Monitor.hit; split <;> rfl
  unfold Monitor.setDefects
  dsimp only
  split
  · refine .inr (le_of_eq_of_le (b := 0) ?_ (Nat.zero_le _))
    unfold Monitor.defectAppears
    split
    · exact hHit _ _
    · exact hHit _ _
    · exact hHit _ _
    · rfl
    · rfl
  · split
    · rw [Monitor.defectClears_eq]; exact .inl rfl
    · exact .inl rfl

theorem Monitor.degradeInRange_setDefects {m : Monitor} (new : Defects) (holdOff wtr : Nat) (h : m.degradeInRange) :
    (m.setDefects new holdOff wtr).degradeInRange :=
  degradeInRange_of (by rw [setDefects_eq]) (by rw [setDefects_eq]) (by rw [setDefects_eq])
    (integrator_setDefects m new holdOff wtr) h

theorem atoms_evalMonitor (hLine : w .line) (d : Side) (s : State) : Atoms w s (evalMonitor d s) :=
  (Atom.mon hLine d _ fun h =>
    Monitor.degradeInRange_setDefects (m := { s.mon d with silenceTimer := s.silenceNow d }) _ _ _
      (Monitor.degradeInRange_of (m := s.mon d) rfl rfl rfl (.inl rfl) h)).run

theorem atoms_lineEvent (hLine : w .line) (d : Side) (s : State) : Atoms w s (lineEvent d s) :=
  (atoms_evalMonitor hLine d s).trans (atoms_refreshReports hLine _)

end Sys2Proof.Machine
end

section
/-!
PROOFS. Every event is a run of atoms: unit by unit, and then `Event.atoms`, with the induction over a step that it gives
(`step_keeps_atoms`).
-/

namespace Sys2Proof.Machine

variable {w : Region → Prop}

/-! ### Line Monitors -/

theorem Monitor.integrate_le (m : Monitor) (count : Nat) : m.integrate count ≤ 16777215 := Nat.min_le_right _ _

theorem Monitor.degradeInRange_takeCount {m : Monitor} (count : Nat) (h : m.degradeInRange) :
    (m.takeCount count).degradeInRange := by
  unfold Monitor.takeCount
  split
  · exact h
  · dsimp only
    split <;> exact degradeInRange_of (m := m) rfl rfl rfl (.inr (m.integrate_le count)) h

theorem Monitor.degradeInRange_holdOffExpires {m : Monitor} (h : m.degradeInRange) : m.holdOffExpires.degradeInRange := by
  unfold Monitor.holdOffExpires; split <;> exact h

theorem Monitor.degradeInRange_wtrExpires {m : Monitor} (h : m.degradeInRange) : m.wtrExpires.degradeInRange := by
  unfold Monitor.wtrExpires; split <;> exact h

theorem Monitor.degradeInRange_silenceExpires {m : Monitor} (holdOff wtr : Nat) (h : m.degradeInRange) :
    (m.silenceExpires holdOff wtr).degradeInRange :=
  degradeInRange_setDefects (m := { m with silenceTimer := none }) _ _ _ h

/-- The degrade settings as they are taken are in range (R51). -/
theorem Monitor.degradeInRange_settings {m : Monitor} {leak declare clear : Nat} (hLeak : leak ≤ 65535)
    (hDeclare : declare ≤ 16777215) (h : m.degradeInRange) :
    Monitor.degradeInRange { m with
      leak := leak, declareLevel := clampDeclare declare, clearLevel := clampClear clear (clampDeclare declare) } := by
  have hLow : 1 ≤ clampDeclare declare := by unfold clampDeclare; split <;> omega
  have hHigh : clampDeclare declare ≤ 16777215 := by unfold clampDeclare; split <;> omega
  have hClear : clampClear clear (clampDeclare declare) < clampDeclare declare := by unfold clampClear; split <;> omega
  obtain ⟨hInt, -⟩ := h
  exact ⟨hInt, hLeak, hLow, hHigh, hClear⟩

/-- An event that writes a Line Monitor and composes the reports. -/
theorem atoms_monEvent (hLine : w .line) {d : Side} {m : Monitor} {s : State} (h : (s.mon d).degradeInRange → m.degradeInRange) :
    Atoms w s (refreshReports (s.setMon d m)) :=
  (Atom.mon hLine d m h).run.trans (atoms_refreshReports hLine _)

/-- An event that writes a lane and reaches its Line Monitor. -/
theorem atoms_laneEvent (hLine : w .line) {d : Side} {l : Lane} {s : State} (h : LaneWrite s d l) :
    Atoms w s (lineEvent d (s.setLane d l)) :=
  (Atom.lane d l h (.inl hLine)).run.trans (atoms_lineEvent hLine d _)

/-! ### Lanes -/

/-- What a lane sends changes neither its lock nor its adjacency. -/
theorem receiver_slotLane (s : State) (d : Side) :
    (s.slotLane d).lock = (s.lane d).lock ∧ (s.slotLane d).adjacency = (s.lane d).adjacency := by
  have hRest : ∀ (l : Lane) f, (l.sendRest f).lock = l.lock ∧ (l.sendRest f).adjacency = l.adjacency := by
    intro l f
    unfold Lane.sendRest
    split
    · exact ⟨rfl, rfl⟩
    · split <;> exact ⟨rfl, rfl⟩
  unfold State.slotLane
  dsimp only
  split
  · exact ⟨rfl, rfl⟩
  · split
    · exact ⟨rfl, rfl⟩
    · split
      · split
        · exact ⟨rfl, rfl⟩
        · exact hRest _ _
      · exact hRest _ _

theorem atoms_frameSlot (s : State) :
    Atoms w s ((s.setLane .east (s.slotLane .east)).setLane .west (s.slotLane .west)) :=
  (Atom.lane .east _ (.slot s rfl) (.inr (receiver_slotLane s .east))).run.tail
    (Atom.lane .west _ (.slot s rfl) (.inr (receiver_slotLane s .west)))

/-- A write of one lane and of the Attention Unit. -/
theorem atoms_lane_attn (hLine : w .line) {d : Side} {l : Lane} {a : Attention} {s t : State} (h : LaneWrite s d l)
    (ht : t = { s.setLane d l with attn := a }) : Atoms w s t := by
  subst ht
  exact (Atom.lane d l h (.inl hLine)).run.tail (Atom.attn a)

theorem compareDigest_setLane (d : Side) (l : Lane) (s : State) :
    compareDigest d (s.setLane d l) =
      { s.setLane d ((compareDigest d (s.setLane d l)).lane d) with attn := (compareDigest d (s.setLane d l)).attn } := by
  have h := compareDigest_eq d (s.setLane d l)
  generalize compareDigest d (s.setLane d l) = t at h ⊢
  cases d <;> exact h ▸ rfl

/-- A correct Greeting writes its lane and may raise Table Disagreement. -/
theorem correctGreeting_eq (d : Side) (g : Greeting) (s : State) :
    correctGreeting d g s =
      { s.setLane d ((correctGreeting d g s).lane d) with attn := (correctGreeting d g s).attn } := by
  have hUp : ∀ l, enterUp d (s.setLane d l) =
      { s.setLane d ((enterUp d (s.setLane d l)).lane d) with attn := (enterUp d (s.setLane d l)).attn } := by
    intro l
    unfold enterUp
    rw [State.lane_setLane, State.setLane_node]
    have hTwice : ∀ m, (s.setLane d l).setLane d m = s.setLane d m := by intro m; cases d <;> rfl
    rw [hTwice]
    exact compareDigest_setLane d _ s
  unfold correctGreeting
  dsimp only
  split
  · cases d <;> rfl
  · cases d <;> rfl
  · split
    · exact hUp _
    · cases d <;> rfl
  · split
    · exact compareDigest_setLane d _ s
    · cases d <;> rfl

/-- An incorrect Greeting writes its lane and may raise Misconnection. -/
theorem incorrectGreeting_eq (d : Side) (g : Greeting) (s : State) :
    incorrectGreeting d g s =
      { s.setLane d ((incorrectGreeting d g s).lane d) with attn := (incorrectGreeting d g s).attn } := by
  unfold incorrectGreeting
  rw [raiseIf_eq]
  cases d <;> rfl

theorem atoms_enterSyncing (s : State) (hState : s.node.state = .joining) : Atoms w s (enterSyncing s) :=
  (Atom.syncing hState).run.tail (Atom.planner _ (.sweep s.takeSnapshot 0 (.inr (Nat.zero_le _))))

theorem atoms_joinCheck (s : State) : Atoms w s (joinCheck s) :=
  atoms_ite (fun h => atoms_enterSyncing s h.1) (fun _ => .refl)

theorem atoms_actOnGreeting (hLine : w .line) (d : Side) (g : Greeting) (s : State) (hLock : (s.lane d).lock = .locked) :
    Atoms w s (actOnGreeting d g s) := by
  have hGreeting : Atoms w s (if s.correct d g then correctGreeting d g s else incorrectGreeting d g s) :=
    atoms_ite (fun _ => atoms_lane_attn hLine (.correct g hLock) (correctGreeting_eq d g s))
      (fun _ => atoms_lane_attn hLine (.incorrect g hLock) (incorrectGreeting_eq d g s))
  exact (hGreeting.trans (atoms_lineEvent hLine d _)).trans (atoms_joinCheck _)

theorem atoms_markKey (d : Side) (span : Nat) (e : SpanEnd) (s : State) (hSpan : span < s.node.ringSize) :
    Atoms w s (markKey d (keyOf span e) s) :=
  atoms_ite (fun hUp => (Atom.lane d _ (.mark span e hUp hSpan) (.inr ⟨rfl, rfl⟩)).run) (fun _ => .refl)

/-- Storing the report of a key. -/
def State.setOther (s : State) (key : Nat) (e : EndReport) : State :=
  { s with map := { s.map with others := Table.set none s.map.others key (some e) } }

theorem atoms_setOther (hLine : w .line) (key : Nat) (e : EndReport) (s : State) : Atoms w s (s.setOther key e) :=
  (Atom.other hLine key e).run

/-- A report is stored, marked on the other lane and compared, or discarded (R72). -/
theorem takeOther_cases (d : Side) (r : SpanReport) (s : State) :
    takeOther d r s = s ∨ takeOther d r s = compareSpans (markKey d.other (reportKey r)
      (s.setOther (reportKey r) { content := reportContent r, epoch := r.epoch })) := by
  unfold takeOther
  dsimp only
  split
  · exact .inr rfl
  · split
    · exact .inr rfl
    · exact .inl rfl

theorem atoms_takeOther (hLine : w .line) (d : Side) (r : SpanReport) (s : State) (hSpan : r.span < s.node.ringSize) :
    Atoms w s (takeOther d r s) := by
  rcases takeOther_cases d r s with hSame | hStored
  · rw [hSame]
  · rw [hStored]
    exact ((atoms_setOther hLine _ _ s).trans (atoms_markKey d.other r.span r.spanEnd _ hSpan)).trans
      (atoms_compareSpans hLine _)

theorem atoms_markBoth (span : Nat) (e : SpanEnd) (s : State) (hSpan : span < s.node.ringSize) :
    Atoms w s (markBoth (keyOf span e) s) :=
  (atoms_markKey .east span e s hSpan).trans (atoms_markKey .west span e _ (by rwa [markKey_node]))

theorem atoms_takeForOwn (o : Side) (r : SpanReport) (s : State) (hSpan : r.span < s.node.ringSize) :
    Atoms w s (takeForOwn o r s) :=
  atoms_ite (fun _ => (atoms_setOwn o { s.map.own o with epoch := r.epoch + 1 } s (.inr rfl)).trans
    (atoms_markBoth r.span r.spanEnd _ hSpan)) (fun _ => .refl)

theorem atoms_actOnSpanReport (hLine : w .line) (d : Side) (r : SpanReport) (s : State) : Atoms w s (actOnSpanReport d r s) :=
  atoms_ite (fun _ => atoms_ite (fun hSpan => atoms_ite (fun _ => atoms_takeForOwn .east r s hSpan) fun _ =>
    atoms_ite (fun _ => atoms_takeForOwn .west r s hSpan) (fun _ => atoms_takeOther hLine d r s hSpan)) (fun _ => .refl))
    (fun _ => .refl)

/-! ### Exchanges -/

/-- A record that is not free is listed. -/
theorem mem_handles_of_ne {s : State} {h : Nat} (hNe : s.record h ≠ Record.free) : h ∈ s.handles := by
  by_contra hNot
  exact hNe (Table.get_of_not_mem Record.free hNot)

namespace KeepsExchanges

theorem refl (s : State) : KeepsExchanges s s := id

theorem trans {s t u : State} (h : KeepsExchanges s t) (k : KeepsExchanges t u) : KeepsExchanges s u := fun hs => k (h hs)

theorem ite {p : Prop} {_ : Decidable p} {s t u : State} (ht : p → KeepsExchanges s t) (hu : ¬ p → KeepsExchanges s u) :
    KeepsExchanges s (if p then t else u) := by
  split
  next h => exact ht h
  next h => exact hu h

theorem forEach {f : Nat → State → State} {l : List Nat} (hf : ∀ h s, KeepsExchanges s (f h s)) (s : State) :
    KeepsExchanges s (forEach l f s) := by
  induction l generalizing s with
  | nil => exact refl s
  | cons h l ih => exact (hf h s).trans (ih (f h s))

/-- The law hangs on what each record has for outcome, lifecycle and exchange, and on where this node is its end. -/
theorem of_records {s t : State} (hRole : ∀ h, t.endRole h = s.endRole h)
    (hRecord : ∀ h, (t.record h).outcome = (s.record h).outcome ∧ (t.record h).lifecycle = (s.record h).lifecycle ∧
      (t.record h).exchange = (s.record h).exchange) : KeepsExchanges s t := fun hs h => by
  obtain ⟨hOutcome, hLife, hExchange⟩ := hRecord h
  rw [hRole, hOutcome, hLife, hExchange]
  exact hs h

theorem of_same {s t : State} (hNode : t.node = s.node) (hRecord : ∀ h, t.record h = s.record h) : KeepsExchanges s t :=
  of_records (fun h => by rw [State.endRole, State.endRole, hNode, hRecord])
    (fun h => by rw [hRecord]; exact ⟨rfl, rfl, rfl⟩)

theorem giveConfirm (d : Side) (p : PathConfirm) (s : State) : KeepsExchanges s (giveConfirm d p s) :=
  have hStep := dynStep_giveConfirm (fun _ => False) d p s
  of_same hStep.node (fun h => hStep.others h id)

theorem sendConfirm (h : Nat) (r : Role) (heard : Bool) (s : State) : KeepsExchanges s (sendConfirm h r heard s) :=
  giveConfirm _ _ s

theorem raiseCause (c : Cause) (s : State) : KeepsExchanges s (raiseCause c s) := of_same rfl fun _ => rfl

/-- An exchange that is written is idle, or is that of a detour that ends here, with at most eight attempts. -/
theorem setExchange {h : Nat} {x : Exchange} {s : State}
    (hx : ExchangesSound s → (x ≠ Exchange.idle → (s.record h).outcome = .detour ∧ (s.endRole h).isSome = true) ∧
      x.attempts ≤ 8) : KeepsExchanges s (setExchange h x s) := fun hs k => by
  have hRole := (dynStep_setExchange_self h x s).endRole k
  obtain ⟨hBusy, hAttempts, hLaw⟩ := hs k
  obtain ⟨hNew, hEight⟩ := hx hs
  rw [hRole, record_setExchange]
  split
  next hk => subst hk; exact ⟨hNew, hEight, hLaw⟩
  next => exact ⟨hBusy, hAttempts, hLaw⟩

/-- An exchange that is not idle moves on with at most eight attempts. -/
theorem setExchange_busy {h : Nat} {x : Exchange} {s : State} (hBusy : (s.record h).exchange ≠ Exchange.idle)
    (hAttempts : (s.record h).exchange.attempts ≤ 8 → x.attempts ≤ 8) : KeepsExchanges s (Machine.setExchange h x s) :=
  setExchange fun hs => ⟨fun _ => (hs h).1 hBusy, hAttempts (hs h).2.1⟩

theorem setExchange_idle (h : Nat) (s : State) : KeepsExchanges s (Machine.setExchange h Exchange.idle s) :=
  setExchange fun _ => ⟨fun hNe => absurd rfl hNe, Nat.zero_le _⟩

end KeepsExchanges

theorem record_giveConfirm (d : Side) (p : PathConfirm) (s : State) (h : Nat) : (giveConfirm d p s).record h = s.record h :=
  (dynStep_giveConfirm (fun _ => False) d p s).others h id

@[simp] theorem record_sendConfirm (k : Nat) (r : Role) (heard : Bool) (s : State) (h : Nat) :
    (sendConfirm k r heard s).record h = s.record h := record_giveConfirm _ _ s h

theorem exchange_ne_idle {x : Exchange} {st : ConfirmState} (hState : x.state = st) (hNe : st ≠ .none) :
    x ≠ Exchange.idle := fun hx => hNe (hState ▸ hx ▸ rfl)

theorem keepsExchanges_enterAwaiting {h : Nat} {r : Role} {s : State} (hBusy : (s.record h).exchange ≠ Exchange.idle) :
    KeepsExchanges s (enterAwaiting h r s) :=
  (KeepsExchanges.sendConfirm h r _ s).trans
    (.setExchange_busy (by rw [record_sendConfirm]; exact hBusy) fun _ => Nat.le_of_ble_eq_true rfl)

theorem keepsExchanges_testLocal (h : Nat) (s : State) : KeepsExchanges s (testLocal h s) := by
  unfold testLocal
  split
  · exact .refl s
  · exact .ite (fun hTest => keepsExchanges_enterAwaiting (exchange_ne_idle hTest.2.1 (by decide))) (fun _ => .refl s)

theorem keepsExchanges_handEntries (old s : State) : KeepsExchanges s (handEntries old s) :=
  .forEach (fun h t => .ite (fun _ => keepsExchanges_testLocal h t) (fun _ => .refl t)) s

theorem keepsExchanges_confirmArrives (d : Side) (p : PathConfirm) (s : State) : KeepsExchanges s (confirmArrives d p s) := by
  unfold confirmArrives
  split
  · exact .refl s
  next r hRole =>
    refine .ite (fun hTakes => ?_) (fun _ => .refl s)
    simp only [State.takesConfirm, hRole, Bool.and_eq_true, decide_eq_true_eq] at hTakes
    obtain ⟨⟨⟨⟨-, hDetour⟩, -⟩, -⟩, -⟩ := hTakes
    have hSet : KeepsExchanges s (setExchange p.handle ((s.record p.handle).exchange.heardConfirm p.heard) s) :=
      .setExchange fun hs => ⟨fun _ => ⟨hDetour, by rw [hRole]; rfl⟩, (hs p.handle).2.1⟩
    exact .ite (fun _ => hSet.trans (.sendConfirm _ _ _ _)) (fun _ => hSet)

theorem keepsExchanges_actOnPathConfirm (d : Side) (p : PathConfirm) (s : State) :
    KeepsExchanges s (actOnPathConfirm d p s) :=
  .ite (fun _ => .ite (fun _ => .refl s) fun _ => .ite (fun _ => keepsExchanges_confirmArrives d p s) fun _ =>
    .ite (fun _ => .refl s) fun _ => .giveConfirm _ _ s) (fun _ => .refl s)

theorem keepsExchanges_confirmExpires {h : Nat} {r : Role} {s : State} (hTimer : (s.record h).exchange.timer ≠ none) :
    KeepsExchanges s (confirmExpires h r s) := by
  have hBusy : (s.record h).exchange ≠ Exchange.idle := fun hIdle => hTimer (by rw [hIdle]; rfl)
  refine .ite (fun _ => .setExchange_busy hBusy id) fun _ => .ite (fun hFew => ?_) fun _ =>
    .ite (fun _ => .setExchange_busy hBusy id) fun _ => ?_
  · exact (KeepsExchanges.sendConfirm h r _ s).trans
      (.setExchange_busy (by rw [record_sendConfirm]; exact hBusy) fun _ => hFew)
  · have hStop : ∀ x : Exchange, x.attempts = (s.record h).exchange.attempts → KeepsExchanges s (setExchange h x s) :=
      fun x hx => .setExchange_busy hBusy (by rw [hx]; exact id)
    exact (hStop { (s.record h).exchange with state := .unconfirmed, sending := false, timer := none } rfl).trans
      (.raiseCause _ _)

theorem keepsExchanges_restartSending (h : Nat) (s : State) : KeepsExchanges s (restartSending h s) := by
  unfold restartSending
  dsimp only
  split
  · exact .refl s
  · refine .ite (fun hState => ?_) (fun _ => .refl s)
    have hBusy : (s.record h).exchange ≠ Exchange.idle :=
      hState.elim (fun h => exchange_ne_idle h (by decide)) (fun h => exchange_ne_idle h (by decide))
    exact .ite (fun _ => .setExchange_busy hBusy fun _ => Nat.zero_le _)
      (fun _ => (KeepsExchanges.sendConfirm h _ _ s).trans
        (.setExchange_busy (by rw [record_sendConfirm]; exact hBusy) fun _ => Nat.le_of_ble_eq_true rfl))

theorem keepsExchanges_resumeExchange (h : Nat) (s : State) : KeepsExchanges s (resumeExchange h s) :=
  .ite (fun hSending => .setExchange_busy (fun hIdle => by rw [hIdle] at hSending; cases hSending) fun h => h)
    (fun _ => keepsExchanges_testLocal h s)

theorem keepsExchanges_resumeExchanges (s : State) : KeepsExchanges s (resumeExchanges s) :=
  .forEach keepsExchanges_resumeExchange s

theorem keepsExchanges_markChangedIf (b : Bool) (h : Nat) (s : State) : KeepsExchanges s (markChangedIf b h s) :=
  have hStep := dynStep_markChangedIf (fun _ => False) b h s
  .of_same hStep.node (fun k => hStep.others k id)

theorem keepsExchanges_refreshConnOf (h : Nat) (s : State) : KeepsExchanges s (refreshConnOf h s) := by
  refine .ite (fun _ => .refl s) (fun _ => KeepsExchanges.trans (t := s.setRec h _) ?_ (keepsExchanges_markChangedIf _ h _))
  have hStep := dynStep_setRec (w := (· = h)) (s := s) (r := { s.record h with conn := s.connNow h }) rfl rfl
  refine .of_records hStep.endRole fun k => ?_
  rw [record_setRec]
  split
  next hk => subst hk; exact ⟨rfl, rfl, rfl⟩
  next => exact ⟨rfl, rfl, rfl⟩

theorem keepsExchanges_refreshConn (s : State) : KeepsExchanges s (refreshConn s) :=
  .forEach keepsExchanges_refreshConnOf s

theorem keepsExchanges_dropDetour (h : Nat) (s : State) : KeepsExchanges s (dropDetour h s) := by
  unfold dropDetour
  split
  · exact .refl s
  · exact .ite (fun _ => .setExchange_idle h s) (fun _ => .refl s)

theorem atoms_giveConfirm (d : Side) (p : PathConfirm) (s : State) : Atoms w s (giveConfirm d p s) :=
  (Atom.dyn (fun _ => False) (dynStep_giveConfirm _ d p s) (fun _ => False.elim) (.inr (.giveConfirm d p s))).run

/-- A write of run-time fields of one record that is not free. -/
theorem atoms_dyn_one {h : Nat} {s t : State} (hStep : DynStep (· = h) s t) (hNe : s.record h ≠ Record.free)
    (hExchange : w .exchange ∨ KeepsExchanges s t) : Atoms w s t :=
  (Atom.dyn _ hStep (by rintro _ rfl; exact mem_handles_of_ne hNe) hExchange).run

theorem atoms_confirmArrives (d : Side) (p : PathConfirm) (s : State) : Atoms w s (confirmArrives d p s) := by
  by_cases hTakes : s.takesConfirm d p = true
  · refine atoms_dyn_one (dynStep_confirmArrives d p s) (fun hFree => ?_) (.inr (keepsExchanges_confirmArrives d p s))
    unfold State.takesConfirm at hTakes
    split at hTakes
    · cases hTakes
    · rw [hFree] at hTakes; simp [Record.free] at hTakes
  · unfold confirmArrives
    split
    · exact .refl
    · rw [if_neg hTakes]

theorem atoms_actOnPathConfirm (d : Side) (p : PathConfirm) (s : State) : Atoms w s (actOnPathConfirm d p s) :=
  atoms_ite (fun _ => atoms_ite (fun _ => .refl) fun _ => atoms_ite (fun _ => atoms_confirmArrives d p s) fun _ =>
    atoms_ite (fun _ => .refl) fun _ => atoms_giveConfirm _ _ s) (fun _ => .refl)

theorem atoms_confirmExpires (h : Nat) (r : Role) (s : State) (hTimer : (s.record h).exchange.timer ≠ none) :
    Atoms w s (confirmExpires h r s) :=
  atoms_dyn_one (dynStep_confirmExpires h r s) (fun hFree => hTimer (by rw [hFree]; rfl))
    (.inr (keepsExchanges_confirmExpires hTimer))

theorem atoms_restartSending (h : Nat) (s : State) (hActive : (s.record h).lifecycle = .active) :
    Atoms w s (restartSending h s) :=
  atoms_dyn_one (dynStep_restartSending h s) (fun hFree => by rw [hFree] at hActive; cases hActive)
    (.inr (keepsExchanges_restartSending h s))

/-- A write of run-time fields of the listed records. -/
theorem atoms_dyn_listed {s t : State} (hStep : DynStep (· ∈ s.handles) s t)
    (hExchange : w .exchange ∨ KeepsExchanges s t) : Atoms w s t :=
  (Atom.dyn _ hStep (fun _ => id) hExchange).run

theorem atoms_refreshConn (s : State) : Atoms w s (refreshConn s) :=
  atoms_dyn_listed (dynStep_refreshConn s) (.inr (keepsExchanges_refreshConn s))

theorem atoms_handEntries (old s : State) : Atoms w s (handEntries old s) :=
  atoms_dyn_listed (dynStep_handEntries old s) (.inr (keepsExchanges_handEntries old s))

/-! ### The Fabric Driver -/

/-- A choice of the driver writes the driver alone, and neither the Reassertion Timer nor the request. -/
theorem dispatch_eq (s : State) : dispatch s = { s with fabric := { s.fabric with
    entries := (dispatch s).fabric.entries, outstanding := (dispatch s).fabric.outstanding,
    responseTimer := (dispatch s).fabric.responseTimer, tagCounter := (dispatch s).fabric.tagCounter,
    tx := (dispatch s).fabric.tx } } := by
  unfold dispatch
  split
  · rfl
  · split
    · rfl
    · split <;> rfl

theorem canonical_dispatch {s : State} (h : Table.wf Entry.untouched s.fabric.entries = true) :
    Table.wf Entry.untouched (dispatch s).fabric.entries = true := by
  unfold dispatch
  split
  · exact h
  · split
    · exact Table.set_wf _ _ h
    · split <;> exact h

theorem atoms_dispatch (s : State) : Atoms w s (dispatch s) := by
  have h := (Atom.fabric (w := w) _ (FabricWrite.dispatch (s := s))).run
  have hEq : dispatch s = { s with fabric := (dispatch s).fabric } := by rw [dispatch_eq]
  rwa [← hEq] at h

theorem atoms_runningCheck (hLine : w .line) (s : State) : Atoms w s (runningCheck s) :=
  atoms_ite (fun h => (Atom.running hLine h.1 _).run.trans (atoms_refreshReports hLine _)) (fun _ => .refl)

/-- The writes that follow the end of a command, but for the entry to Running. -/
def settleCommand (old s : State) : State := refreshConn (dispatch (handEntries old s))

theorem afterCommand_eq (old s : State) : afterCommand old s = runningCheck (settleCommand old s) := rfl

theorem atoms_settleCommand (old s : State) : Atoms w s (settleCommand old s) :=
  ((atoms_handEntries old s).trans (atoms_dispatch _)).trans (atoms_refreshConn _)

theorem canonical_confirmEntry (c : Command) {s : State} (h : Table.wf Entry.untouched s.fabric.entries = true) :
    Table.wf Entry.untouched (confirmEntry c s).fabric.entries = true := by
  have hSet : Table.wf Entry.untouched (s.setEntry c.entry ((s.entry c.entry).confirm c.value)).fabric.entries = true :=
    Table.set_wf _ _ h
  unfold confirmEntry loseOtherPorts
  split
  · dsimp only
    exact Table.mapValues_wf _ hSet
  · exact hSet

theorem confirmEntry_eq (c : Command) (s : State) :
    confirmEntry c s = { s with fabric := { s.fabric with entries := (confirmEntry c s).fabric.entries } } := by
  unfold confirmEntry loseOtherPorts; split <;> rfl

theorem failEntry_eq (c : Command) (s : State) :
    failEntry c s = { s with fabric := (failEntry c s).fabric, attn := (failEntry c s).attn } := rfl

theorem retireCommand_eq (c : Command) (s : State) : retireCommand c s = { s with fabric := (retireCommand c s).fabric } := rfl

theorem atoms_confirmEntry {c : Command} {s : State} (hOut : s.fabric.outstanding = some c) :
    Atoms w s (confirmEntry c (retireCommand c s)) := by
  have h := (Atom.fabric (w := w) _ (.done c hOut)).run
  have hEq : confirmEntry c (retireCommand c s) =
      { s with fabric := (confirmEntry c (retireCommand c s)).fabric } := by rw [confirmEntry_eq, retireCommand_eq]
  rwa [← hEq] at h

/-- The writes of a Done, but for the entry to Running. -/
def doneSettled (c : Command) (b : Bool) (s : State) : State :=
  settleCommand s (raiseIf b .fabricDrift (confirmEntry c (retireCommand c s)))

theorem endDone_eq (c : Command) (b : Bool) (s : State) : endDone c b s = runningCheck (doneSettled c b s) := rfl

theorem atoms_doneSettled {c : Command} (b : Bool) {s : State} (hOut : s.fabric.outstanding = some c) :
    Atoms w s (doneSettled c b s) :=
  ((atoms_confirmEntry hOut).trans (atoms_raiseIf b _ _)).trans (atoms_settleCommand s _)

theorem atoms_endDone (hLine : w .line) {c : Command} (b : Bool) {s : State} (hOut : s.fabric.outstanding = some c) :
    Atoms w s (endDone c b s) := (atoms_doneSettled b hOut).trans (atoms_runningCheck hLine _)

theorem atoms_failEntry {c : Command} {s : State} (hOut : s.fabric.outstanding = some c) :
    Atoms w s (failEntry c (retireCommand c s)) := by
  have h := (Atom.fabric (w := w) _ (.failed c hOut)).run.tail (Atom.attn (failEntry c (retireCommand c s)).attn)
  have hEq : failEntry c (retireCommand c s) =
      { s with fabric := (failEntry c (retireCommand c s)).fabric, attn := (failEntry c (retireCommand c s)).attn } := by
    rw [failEntry_eq, retireCommand_eq]
  rwa [← hEq] at h

/-- The writes of a Refused, but for the entry to Running. -/
def refusedSettled (c : Command) (s : State) : State := settleCommand s (failEntry c (retireCommand c s))

theorem endRefused_eq (c : Command) (s : State) : endRefused c s = runningCheck (refusedSettled c s) := rfl

theorem atoms_refusedSettled {c : Command} {s : State} (hOut : s.fabric.outstanding = some c) :
    Atoms w s (refusedSettled c s) := (atoms_failEntry hOut).trans (atoms_settleCommand s _)

theorem atoms_endRefused (hLine : w .line) {c : Command} {s : State} (hOut : s.fabric.outstanding = some c) :
    Atoms w s (endRefused c s) := (atoms_refusedSettled hOut).trans (atoms_runningCheck hLine _)

/-! ### The commit -/

theorem atoms_freeExcluded (hDigest : w .digest) (s : State) : Atoms w s (freeExcluded s) :=
  (atoms_forEach (fun h u => (Atom.free (s := u) h (.inl hDigest)).run) _ s).tail (Atom.digest hDigest _)

/-- Deriving the desired map writes the driver's entries and the mark of the resync commit. -/
theorem deriveMap_eq (s : State) : deriveMap s = { s with fabric := { s.fabric with
    entries := (deriveMap s).fabric.entries, resyncDone := (deriveMap s).fabric.resyncDone } } := by
  simp only [deriveMap]

theorem canonical_deriveMap (s : State) : Table.wf Entry.untouched (deriveMap s).fabric.entries = true := by
  unfold deriveMap
  dsimp only
  exact Table.ofFun_wf _ _ _

theorem atoms_deriveMap (s : State) : Atoms w s (deriveMap s) := by
  have h := (Atom.fabric (w := w) _ (FabricWrite.derive (s := s))).run
  have hEq : deriveMap s = { s with fabric := (deriveMap s).fabric } := by rw [deriveMap_eq]
  rwa [← hEq] at h

theorem atoms_endCommit (s : State) : Atoms w s (endCommit s) := by
  have hCount : Atoms w s { s with planner := { s.planner with abandonCount := 0 } } :=
    (Atom.planner _ (.keep s.planner.phase s.planner.late s.planner.replan 0 _ s.planner.commitNumber (.inr rfl)
      (.inl rfl))).run
  exact atoms_ite (fun _ => hCount.trans (atoms_startSweep _)) fun _ =>
    (Atom.planner _ (.keep .idle s.planner.late s.planner.replan 0 _ s.planner.commitNumber (.inr rfl) (.inl rfl))).run

theorem atoms_installPlan (s : State) : Atoms w s (installPlan s) :=
  (Atom.planner _ (.keep s.planner.phase s.planner.late s.planner.replan _ _ _ (.inl rfl) (.inr (.inl rfl)))).run

/-- The commit's writes of the records and of the desired map, up to where the Confirmation Unit is handed the outcomes. -/
def commitWritten (s : State) : State := deriveMap (freeExcluded (writeResults (installPlan s)))

/-- The commit's writes, but for the entry to Running. -/
def commitSettled (s : State) : State := endCommit (refreshConn (dispatch (handOutcomes s (commitWritten s))))

theorem commitSweep_eq (s : State) : commitSweep s = runningCheck (commitSettled s) := rfl

theorem atoms_commitWritten (hDigest : w .digest) (hExchange : w .exchange) (s : State) : Atoms w s (commitWritten s) :=
  (((atoms_installPlan s).trans (atoms_dyn_listed (dynStep_writeResults _) (.inl hExchange))).trans
    (atoms_freeExcluded hDigest _)).trans (atoms_deriveMap _)

theorem atoms_commitSettled (hDigest : w .digest) (hExchange : w .exchange) (s : State) : Atoms w s (commitSettled s) :=
  ((((atoms_commitWritten hDigest hExchange s).trans
    (atoms_dyn_listed (dynStep_handOutcomes s _) (.inl hExchange))).trans (atoms_dispatch _)).trans
    (atoms_refreshConn _)).trans (atoms_endCommit _)

theorem atoms_commitSweep (hLine : w .line) (hDigest : w .digest) (hExchange : w .exchange) (s : State) :
    Atoms w s (commitSweep s) :=
  (atoms_commitSettled hDigest hExchange s).trans (atoms_runningCheck hLine _)

/-! ### Start, Stop and the settings -/

theorem atoms_enterJoining (s : State) (hState : s.node.state = .configuring) (hRing : s.node.ringId ≠ 0) :
    Atoms w s (enterJoining s) :=
  (((((Atom.joining hState hRing Config.joinTime).run.tail
    (Atom.fabric { s.fabric with resyncDone := false } (.resync false))).trans
    (atoms_dyn_listed (dynStep_resumeExchanges _) (.inr (keepsExchanges_resumeExchanges _)))).trans
    (atoms_dispatch _)).trans (atoms_refreshConn _)).trans (atoms_joinCheck _)

theorem atoms_stopPlanner (s : State) : Atoms w s (stopPlanner s) := by
  have hStop : ∀ u : State, u.planner = s.planner.discardSweep → Atoms w u { u with planner := { s.planner.discardSweep with
      phase := .idle, replan := false, abandonCount := 0 } } := fun u hu => hu ▸
    (Atom.planner _ (.keep .idle u.planner.late false 0 _ u.planner.commitNumber (.inr rfl) (.inl rfl))).run
  by_cases hIdle : s.planner.phase = .idle
  · exact hStop s (discardSweep_idle _ hIdle).symm
  · exact (Atom.planner _ (.discard [])).run.trans
      (hStop { s with planner := _ } (discardSweep_running _ hIdle).symm)

theorem atoms_stopNode (hLine : w .line) (s : State) : Atoms w s (stopNode s) :=
  (((atoms_stopPlanner s).tail Atom.timersStopped).tail (Atom.stopped hLine)).trans (atoms_refreshReports hLine _)

theorem dynStep_dropDetours (s : State) : DynStep (· ∈ s.handles) s (forEach s.handles dropDetour s) :=
  .forEach (fun _ hh t => dynStep_dropDetour hh t) s

theorem dynStep_unplans (s : State) : DynStep (· ∈ s.handles) s (forEach s.handles unplan s) :=
  .forEach (fun _ hh t => dynStep_unplan hh t) s

/-- No two Active records clash under an N that Set Ring has checked (R8). -/
theorem slotClash_of_clashUnder {s : State} {n : Nat} (hNone : s.clashUnder n = none) {h k : Nat} (hNe : h ≠ k)
    (hh : (s.record h).lifecycle = .active) (hk : (s.record k).lifecycle = .active) :
    slotClash n (s.record h).plan (s.record k).plan = false := by
  have hListed : ∀ j, (s.record j).lifecycle = .active → j ∈ s.handles := fun j hj =>
    mem_handles_of_ne fun hFree => by rw [hFree] at hj; cases hj
  have hClear := List.find?_eq_none.1 hNone k (hListed k hk)
  rw [decide_eq_true hk, Bool.true_and, Bool.not_eq_true, Option.isSome_eq_false_iff, Option.isNone_iff_eq_none] at hClear
  have hPair := List.find?_eq_none.1 hClear h (hListed h hh)
  simpa [hNe, hh] using hPair

theorem keepsExchanges_dropDetours (s : State) : KeepsExchanges s (forEach s.handles dropDetour s) :=
  .forEach keepsExchanges_dropDetour s

/-- The new ring values are written, with the exchanges dropped before and the plan emptied after (R26, R117). -/
def ringWritten (ringId n own : Nat) (s : State) : State :=
  emptyPlan (newRing ringId n own (forEach s.handles dropDetour s))

/-- The writes of a Set Ring before the Line Monitors work out their defects. -/
def ringSettled (ringId n own : Nat) (s : State) : State :=
  refreshConn (forEach (ringWritten ringId n own s).handles unplan (ringWritten ringId n own s))

theorem changeRing_eq (ringId n own : Nat) (s : State) :
    changeRing ringId n own s = refreshReports (evalMonitor .west (evalMonitor .east (ringSettled ringId n own s))) := rfl

theorem atoms_ringWritten (hLine : w .line) (hExchange : w .exchange) (ringId n own : Nat) (s : State)
    (hState : s.node.state = .configuring) (hFields : ringFieldsOk ringId n own = true) (hApart : s.clashUnder n = none) :
    Atoms w s (ringWritten ringId n own s) := by
  have hDrop := dynStep_dropDetours s
  exact (atoms_dyn_listed hDrop (.inl hExchange)).tail
    (.newRing hLine hExchange ringId n own (by rw [hDrop.node]; exact hState) hFields
    fun h k hNe hh hk => by
      rw [hDrop.lifecycle] at hh hk
      rw [hDrop.plan, hDrop.plan]
      exact slotClash_of_clashUnder hApart hNe hh hk)

theorem atoms_changeRing (hLine : w .line) (hExchange : w .exchange) (ringId n own : Nat) (s : State)
    (hState : s.node.state = .configuring) (hFields : ringFieldsOk ringId n own = true) (hApart : s.clashUnder n = none) :
    Atoms w s (changeRing ringId n own s) := by
  have hNew := atoms_ringWritten hLine hExchange ringId n own s hState hFields hApart
  exact ((((hNew.trans (atoms_dyn_listed (dynStep_unplans _) (.inl hExchange))).trans (atoms_refreshConn _)).trans
    (atoms_evalMonitor hLine .east _)).trans (atoms_evalMonitor hLine .west _)).trans (atoms_refreshReports hLine _)

theorem isCadence_clampCadence (n : Nat) : IsCadence (clampCadence n) := by
  unfold clampCadence IsCadence
  split
  · exact .inl rfl
  · split
    · exact .inr (.inl rfl)
    · split
      · exact .inr (.inr (.inl rfl))
      · exact .inr (.inr (.inr rfl))

theorem atoms_setTimers (a b c d e : Nat) (s : State) : Atoms w s (carrySetTimers a b c d e s).state :=
  (Atom.settings (clampHoldOff a) (clampWtr b) (clampConfirm c) (clampReassert d)).run.tail
    (Atom.fabric { s.fabric with cadence := clampCadence e } (.cadence _ (isCadence_clampCadence e)))

theorem atoms_writeDelay (hDigest : w .digest) (span : Nat) (delay : BitVec 16) (s : State) : Atoms w s (writeDelay span delay s) :=
  ((Atom.delay hDigest span delay).run.tail (Atom.digest hDigest _)).trans (atoms_hostTrigger _)

/-! ### The Record Store -/

theorem atoms_makeActive (hDigest : w .digest) {h : Nat} {s : State} (hStaged : (s.record h).lifecycle = .staged)
    (hApart : ∀ k, k ≠ h → (s.record k).lifecycle = .active →
      slotClash s.node.ringSize (s.record k).plan (s.record h).plan = false ∧
        ((s.record h).port = none ∨ (s.record k).port ≠ (s.record h).port)) : Atoms w s (makeActive h s) := by
  have hRecord := (Atom.record (w := w) h _ (.active hDigest hStaged hApart)).run
  unfold makeActive
  exact atoms_ite (fun _ => hRecord) fun _ =>
    hRecord.tail (Atom.planner _ (.keep s.planner.phase (setInsert s.planner.late h) s.planner.replan _ _
      s.planner.commitNumber (.inl rfl) (.inl rfl)))

theorem atoms_retireFields (hDigest : w .digest) (h : Nat) (s : State) (hActive : (s.record h).lifecycle = .active) :
    Atoms w s (retireFields h s) :=
  atoms_ite (fun _ => (Atom.free h (.inl hDigest)).run.tail (Atom.digest hDigest _))
    (fun _ => (Atom.record h _ (.retiring hActive)).run.trans (atoms_hostTrigger _))

end Sys2Proof.Machine
end

section
/-!
PROOFS. The checks of the Record Store (R9, R12, R14, R23), by what passing them says, the requests of the store as runs of atoms,
and the induction over the atoms of a step (`step_keeps_atoms`).
-/

namespace Sys2Proof.Machine

variable {w : Region → Prop}

/-! ### Looking for another record -/

/-- No other record satisfies `f`, for an `f` that no Free record satisfies. -/
theorem findOther_eq_none {s : State} {h : Nat} {f : Record → Bool} (hf : f Record.free = false) :
    s.findOther h f = none ↔ ∀ k, k ≠ h → f (s.record k) = false := by
  rw [State.findOther, List.find?_eq_none]
  refine ⟨fun hNone k hk => ?_, fun hAll k _ => ?_⟩
  · by_cases hListed : k ∈ s.handles
    · simpa [hk] using hNone k hListed
    · have hFree : s.record k = Record.free := Table.get_of_not_mem _ hListed
      rwa [hFree]
  · by_cases hk : k = h
    · simp [hk]
    · simp [hAll k hk]

theorem slotClashWith_eq_none {s : State} {h : Nat} {p : Planning} :
    s.slotClashWith h p = none ↔
      ∀ k, k ≠ h → (s.record k).lifecycle = .active → slotClash s.node.ringSize (s.record k).plan p = false := by
  rw [State.slotClashWith, findOther_eq_none (by simp [Record.free])]
  simp

theorem portClashWith_eq_none {s : State} {h : Nat} {p : Option Byte} :
    s.portClashWith h p = none ↔ ∀ k, k ≠ h → (s.record k).lifecycle = .active → p = none ∨ (s.record k).port ≠ p := by
  rw [State.portClashWith, findOther_eq_none (by simp [Record.free])]
  cases p <;> simp

theorem portHeld_eq_false {s : State} {h : Nat} {p : Option Byte} :
    s.portHeld h p = false ↔ ∀ k, k ≠ h → (s.record k).lifecycle = .active ∨ (s.record k).lifecycle = .retiring →
      p = none ∨ (s.record k).port ≠ p := by
  rw [State.portHeld, Option.isSome_eq_false_iff, Option.isNone_iff_eq_none, findOther_eq_none (by simp [Record.free])]
  cases p <;> simp

theorem labelHolder_eq_none {s : State} {h c : Nat} :
    s.labelHolder h c = none ↔ ∀ k, k ≠ h → s.inUse k → (s.record k).plan.circuit ≠ c := by
  rw [State.labelHolder, findOther_eq_none (by simp [Record.free])]
  simp [State.inUse]

/-! ### Checks that pass -/

/-- What the checks 2 to 5 of R12 find in order. -/
theorem activateCheck_pass_iff {s : State} {h : Nat} :
    s.activateCheck h = .pass ↔
      (s.record h).lifecycle = .staged ∧
        ((s.record h).plan.endsFit s.node.ringSize = true ∧
          portPresenceOk (s.record h).plan (s.record h).port s.node.own = true) ∧
        s.slotClashWith h (s.record h).plan = none ∧ s.portClashWith h (s.record h).port = none := by
  unfold State.activateCheck
  dsimp only
  by_cases hStaged : (s.record h).lifecycle = .staged
  · by_cases hFits : (s.record h).plan.endsFit s.node.ringSize = true ∧
        portPresenceOk (s.record h).plan (s.record h).port s.node.own = true
    · cases hSlot : s.slotClashWith h (s.record h).plan <;> cases hPort : s.portClashWith h (s.record h).port <;>
        simp [hStaged, hFits]
    · have hFails : (!(s.record h).plan.endsFit s.node.ringSize ||
          !portPresenceOk (s.record h).plan (s.record h).port s.node.own) = true := by
        by_contra hNot
        exact hFits (by simpa using hNot)
      simp [hStaged, hFits, hFails]
  · simp [hStaged]

/-- Passing R12 keeps a record apart from every Active one. -/
theorem apart_of_activateCheck {s : State} {h : Nat} (hCheck : s.activateCheck h = .pass) (k : Nat) (hk : k ≠ h)
    (hActive : (s.record k).lifecycle = .active) :
    slotClash s.node.ringSize (s.record k).plan (s.record h).plan = false ∧
      ((s.record h).port = none ∨ (s.record k).port ≠ (s.record h).port) := by
  obtain ⟨-, -, hSlot, hPort⟩ := activateCheck_pass_iff.1 hCheck
  exact ⟨slotClashWith_eq_none.1 hSlot k hk hActive, portClashWith_eq_none.1 hPort k hk hActive⟩

/-- What the checks of R9 from step 2 on find. -/
theorem stageCheck_pass_iff {s : State} {h : Nat} {i : StageImage} :
    s.stageCheck h i = .pass ↔
      ((s.record h).lifecycle = .free ∨ (s.record h).lifecycle = .staged) ∧
        ∃ p, imagePlanning i = some p ∧ s.labelHolder h p.circuit = none := by
  unfold State.stageCheck
  cases hLife : (s.record h).lifecycle with
  | active => simp
  | retiring => simp
  | free | staged =>
    cases hPlan : imagePlanning i with
    | none => simp
    | some p => cases hLabel : s.labelHolder h p.circuit <;> simp [hLabel]

/-- What the checks of R14 from step 2 on find. -/
theorem amendCheck_pass_iff {s : State} {h : Nat} {i : StageImage} {p : Planning} (hPlan : imagePlanning i = some p) :
    s.amendCheck h i = .pass ↔
      (s.record h).lifecycle = .active ∧ i.handle = h ∧ s.amendFits h p (imagePort i) = true ∧
        s.portHeld h (imagePort i) = false := by
  unfold State.amendCheck
  rw [hPlan]
  dsimp only
  split
  next hState => simp [hState]
  next hActive =>
    split
    next hFails =>
      simp only [Bool.or_eq_true, decide_eq_true_eq, Bool.not_eq_true'] at hFails
      rcases hFails with hHandle | hFits
      · simp [hHandle]
      · simp [hFits]
    next hFits =>
      simp only [Bool.or_eq_true, decide_eq_true_eq, Bool.not_eq_true', not_or, not_not, Bool.not_eq_false] at hFits hActive
      obtain ⟨hHandle, hFields⟩ := hFits
      split
      next hHeld => simp [hHeld]
      next hHeld => simp [hActive, hHandle, hFields, hHeld]

/-- An accepted Amend changes priority, ceiling and lockout alone among the planning fields (R14). -/
theorem plan_of_amendFits {s : State} {h : Nat} {p : Planning} {port : Option Byte}
    (hFits : s.amendFits h p port = true) :
    p = { (s.record h).plan with prio := p.prio, ceiling := p.ceiling, lockout := p.lockout } := by
  simp only [State.amendFits, Bool.and_eq_true, decide_eq_true_eq] at hFits
  obtain ⟨⟨⟨⟨⟨⟨⟨hCircuit, hKind⟩, hA⟩, hB⟩, hDir⟩, hWork⟩, hProt⟩, -⟩ := hFits
  cases p
  dsimp only at *
  subst hCircuit hKind hA hB hDir hWork hProt
  rfl

/-- What the check of a handle of the set finds, where it passes (R23). -/
theorem setCheck_pass_iff {s : State} {run : List Nat} {h : Nat} :
    s.setCheck run h = .pass ↔ s.activateCheck h = .pass ∧
      ∀ k ∈ run, k < h → slotClash s.node.ringSize (s.record k).plan (s.record h).plan = false ∧
        ((s.record h).port = none ∨ (s.record k).port ≠ (s.record h).port) := by
  have hBelow : ∀ f : Record → Bool, s.setBelow run h f = false ↔ ∀ k ∈ run, k < h → f (s.record k) = false := by
    intro f; simp [State.setBelow]
  have hSlot := hBelow fun q => slotClash s.node.ringSize q.plan (s.record h).plan
  have hPort := hBelow fun q => (s.record h).port.isSome && decide (q.port = (s.record h).port)
  have hPort' : s.setBelow run h (fun q => (s.record h).port.isSome && decide (q.port = (s.record h).port)) = false ↔
      ∀ k ∈ run, k < h → ((s.record h).port = none ∨ (s.record k).port ≠ (s.record h).port) := by
    rw [hPort]; cases (s.record h).port <;> simp
  simp only [forall_and, ← hSlot, ← hPort']
  unfold State.setCheck
  dsimp only
  cases hCheck : s.activateCheck h with
  | pass =>
    cases s.setBelow run h (fun q => slotClash s.node.ringSize q.plan (s.record h).plan) <;>
      cases s.setBelow run h (fun q => (s.record h).port.isSome && decide (q.port = (s.record h).port)) <;> simp
  | fail status k =>
    cases status <;> simp
    split <;> simp

/-- No handle of the set fails exactly when each passes (R23). -/
theorem setFailure_eq_none {s : State} {run : List Nat} :
    s.setFailure run = none ↔ ∀ h ∈ run, s.setCheck run h = .pass := by
  rw [State.setFailure, List.findSome?_eq_none_iff]
  refine forall₂_congr fun h _ => ?_
  cases s.setCheck run h <;> simp

/-! ### Activation -/

@[simp] theorem makeActive_node (h : Nat) (s : State) : (makeActive h s).node = s.node := by
  unfold makeActive
  dsimp only
  split <;> rfl

/-- Making a record Active writes the record, and the late set while a sweep runs (R13, R96). -/
theorem record_makeActive (h k : Nat) (s : State) :
    (makeActive h s).record k = if k = h then { s.record h with lifecycle := .active } else s.record k := by
  have hEq : (makeActive h s).record k = (s.setRec h { s.record h with lifecycle := .active }).record k := by
    unfold makeActive
    dsimp only
    split <;> rfl
  rw [hEq, record_setRec]

@[simp] theorem record_setDigest (v : BitVec 32) (s : State) (h : Nat) : (setDigest v s).record h = s.record h := by
  rw [setDigest_eq]; rfl

/-- Handles that are Staged, apart from every Active record, and each apart from those of the list before it. -/
def ActivatesInOrder (s : State) (l : List Nat) : Prop :=
  ∀ h ∈ l, (s.record h).lifecycle = .staged ∧ ∀ k, k ≠ h → (s.record k).lifecycle = .active ∨ (k ∈ l ∧ k < h) →
    slotClash s.node.ringSize (s.record k).plan (s.record h).plan = false ∧
      ((s.record h).port = none ∨ (s.record k).port ≠ (s.record h).port)

/-- After the first handle of the list is Active, the rest can be. -/
theorem ActivatesInOrder.tail {s : State} {h : Nat} {l : List Nat} (hAll : ActivatesInOrder s (h :: l))
    (hOrder : (h :: l).Pairwise (· < ·)) : ActivatesInOrder (makeActive h s) l := by
  intro j hj
  have hLt : h < j := (List.pairwise_cons.1 hOrder).1 j hj
  obtain ⟨hStaged, hApart⟩ := hAll j (List.mem_cons_of_mem _ hj)
  have hPlan : ∀ k, ((makeActive h s).record k).plan = (s.record k).plan := fun k => by
    rw [record_makeActive]; split <;> simp_all
  have hPort : ∀ k, ((makeActive h s).record k).port = (s.record k).port := fun k => by
    rw [record_makeActive]; split <;> simp_all
  refine ⟨by rw [record_makeActive, if_neg (by omega)]; exact hStaged, fun k hk hBefore => ?_⟩
  rw [makeActive_node, hPlan, hPlan, hPort, hPort]
  refine hApart k hk ?_
  by_cases hkh : k = h
  · exact .inr ⟨by simp [hkh], by omega⟩
  · rw [record_makeActive, if_neg hkh] at hBefore
    exact hBefore.imp_right fun hLater => ⟨List.mem_cons_of_mem _ hLater.1, hLater.2⟩

theorem atoms_makeActives (hDigest : w .digest) {l : List Nat} {s : State} (hAll : ActivatesInOrder s l) (hOrder : l.Pairwise (· < ·)) :
    Atoms w s (forEach l makeActive s) := by
  induction l generalizing s with
  | nil => exact .refl
  | cons h l ih =>
    obtain ⟨hStaged, hApart⟩ := hAll h (by simp)
    exact (atoms_makeActive hDigest hStaged fun k hk hActive => hApart k hk (.inl hActive)).trans
      (ih (hAll.tail hOrder) (List.pairwise_cons.1 hOrder).2)

theorem atoms_activateAll (hDigest : w .digest) {l : List Nat} {s : State} (hAll : ActivatesInOrder s l) (hOrder : l.Pairwise (· < ·)) :
    Atoms w s (activateAll l s) :=
  ((atoms_makeActives hDigest hAll hOrder).tail (Atom.digest hDigest _)).trans (atoms_hostTrigger _)

theorem activatesInOrder_single {s : State} {h : Nat} (hCheck : s.activateCheck h = .pass) : ActivatesInOrder s [h] := by
  intro j hj
  obtain rfl := List.mem_singleton.1 hj
  refine ⟨(activateCheck_pass_iff.1 hCheck).1, fun k hk hBefore => ?_⟩
  rcases hBefore with hActive | ⟨hMem, hLt⟩
  · exact apart_of_activateCheck hCheck k hk hActive
  · exact absurd (List.mem_singleton.1 hMem) hk

theorem activatesInOrder_run {s : State} {run : List Nat} (hNone : s.setFailure run = none) : ActivatesInOrder s run := by
  intro h hh
  obtain ⟨hCheck, hBelow⟩ := setCheck_pass_iff.1 (setFailure_eq_none.1 hNone h hh)
  refine ⟨(activateCheck_pass_iff.1 hCheck).1, fun k hk hBefore => ?_⟩
  rcases hBefore with hActive | ⟨hMem, hLt⟩
  · exact apart_of_activateCheck hCheck k hk hActive
  · exact hBelow k hMem hLt

/-! ### Amend -/

theorem atoms_amendFields (hDigest : w .digest) {h : Nat} {i : StageImage} {p : Planning} {s : State} (hPlan : imagePlanning i = some p)
    (hCheck : s.amendCheck h i = .pass) : Atoms w s (amendFields h p (imagePort i) s) := by
  obtain ⟨hActive, -, hFits, hHeld⟩ := (amendCheck_pass_iff hPlan).1 hCheck
  refine atoms_ite (fun _ => .refl) fun _ => ?_
  have hPort : Atoms w s (amendPort h (imagePort i) s) :=
    (Atom.record h _ (.port (imagePort i) hActive fun k hk hk' => portHeld_eq_false.1 hHeld k hk (.inl hk'))).run
  have hRecord : (amendPort h (imagePort i) s).record h = { s.record h with port := imagePort i } := by
    rw [amendPort, record_setRec, if_pos rfl]
  have hPlanning : Atoms w s (amendPlanning h p (amendPort h (imagePort i) s)) := by
    refine atoms_ite (fun _ => hPort) fun _ => ?_
    have hWrite := (Atom.record (w := w) h _ (.planning hDigest i p hPlan (s := amendPort h (imagePort i) s) (by rw [hRecord]; exact hActive)
      (by rw [hRecord]; exact plan_of_amendFits hFits))).run
    refine ((hPort.trans hWrite).tail (Atom.digest hDigest _)).trans (atoms_restartSending h _ ?_)
    rw [record_setDigest, record_setRec, if_pos rfl, hRecord]
    exact hActive
  exact ((hPlanning.tail (Atom.changed _)).trans (atoms_raiseIf _ _ _)).trans (atoms_hostTrigger _)

/-! ### The Stream -/

@[simp] theorem stream_stageImage (h : Nat) (i : StageImage) (s : State) :
    (stageImage h i s).store.stream = s.store.stream := by
  unfold stageImage stageFields
  split
  · rfl
  · dsimp only
    split
    · rfl
    · split <;> rfl

theorem atoms_stageImage {h : Nat} {i : StageImage} {s : State} (hRange : s.store.stream.InRange → h < 4096)
    (hCheck : s.stageCheck h i = .pass) : Atoms w s (stageImage h i s) := by
  obtain ⟨-, p, hPlan, -⟩ := stageCheck_pass_iff.1 hCheck
  have hAtom := (Atom.stage (w := w) h i p hPlan hRange hCheck).run
  unfold stageImage
  rwa [hPlan]

/-- The handle that the next image is staged at is a handle, while images are to come (R22). -/
theorem Stream.next_lt {x : Stream} (hRange : x.InRange) (hOpen : x.state = .opened) (hMore : x.remaining ≠ 0) :
    x.next < 4096 := by
  obtain ⟨hCount, hRun⟩ := hRange hOpen
  unfold Stream.next
  omega

theorem atoms_haltStream (hStream : w .stream) (h : Nat) (reason : HaltReason) (status : Option Status) (s : State) :
    Atoms w s (haltStream h reason status s) :=
  (Atom.stream hStream _ fun _ hOpen => by cases hOpen).run.tail (Atom.attn _)

theorem atoms_completeStream (hStream : w .stream) (s : State) : Atoms w s (completeStream s) :=
  (Atom.stream hStream _ fun _ hOpen => by cases hOpen).run.tail (Atom.attn _)

theorem atoms_stageChunk (hStream : w .stream) (l : List StageImage) (n : Nat) (s : State) (hOpen : s.store.stream.state = .opened) :
    Atoms w s (stageChunk l n s).state := by
  induction l generalizing n s with
  | nil => exact .refl
  | cons i l ih =>
    unfold stageChunk
    dsimp only
    split
    · exact .refl
    next hMore =>
      split
      · exact atoms_haltStream hStream _ _ none s
      next hCheck =>
        have hStage := atoms_stageImage (w := w) (fun hRange => Stream.next_lt hRange hOpen hMore) hCheck
        refine (hStage.tail (Atom.stream hStream _ fun hRange hOpened => ?_)).trans (ih _ _ ?_)
        · obtain ⟨hCount, hRun⟩ := hRange hOpened
          exact ⟨by dsimp only; omega, hRun⟩
        · show (stageImage _ i s).store.stream.state = .opened
          rw [stream_stageImage]; exact hOpen

theorem atoms_finishStream (hDigest : w .digest) (hStream : w .stream) (s : State) : Atoms w s (finishStream s).1 := by
  unfold finishStream
  dsimp only
  split
  · split
    · exact atoms_haltStream hStream _ _ _ s
    next hNone =>
      exact (atoms_activateAll hDigest (activatesInOrder_run hNone) List.pairwise_lt_range').trans (atoms_completeStream hStream _)
  · exact atoms_completeStream hStream s

theorem atoms_streamChunk (hDigest : w .digest) (hStream : w .stream) (images : List StageImage) (s : State)
    (hOpen : s.store.stream.state = .opened) :
    Atoms w s (carryStreamChunk images s).state := by
  unfold carryStreamChunk
  split
  · exact .refl
  · split
    · exact .refl
    · dsimp only
      have hStaged := atoms_stageChunk hStream images 0 s hOpen
      split
      · exact hStaged
      · split
        · exact hStaged.trans (atoms_finishStream hDigest hStream _)
        · exact hStaged

/-! ### The Planner's passes -/

/-- Gathering one handle writes the Planner alone. -/
theorem gatherOne_eq (s : State) : gatherOne s = { s with planner := (gatherOne s).planner } := by
  unfold gatherOne
  dsimp only

/-- Treating a candidate writes the Planner alone. -/
theorem treatCandidate_eq (cls : Nat) (pass : Pass) (e : PlanEntry) (s : State) :
    treatCandidate cls pass e s = { s with planner := (treatCandidate cls pass e s).planner } := by
  unfold treatCandidate
  dsimp only
  split <;> rfl

/-- Treating an entry of the Extra pass writes the Planner alone. -/
theorem treatExtra_eq (s : State) : treatExtra s = { s with planner := (treatExtra s).planner } := rfl

theorem atoms_gatherOne {s : State} (hPos : s.planner.gatherPos < 4096) : Atoms w s (gatherOne s) := by
  have h := (Atom.planner (w := w) _ (.gather hPos)).run
  rwa [← gatherOne_eq] at h

theorem atoms_treatCandidate {s : State} {cls : Nat} {pass : Pass} {e : PlanEntry}
    (hFirst : firstWith (.forClass cls pass) s.planner.buffer = some e) : Atoms w s (treatCandidate cls pass e s) := by
  have h := (Atom.planner (w := w) _ (.candidate cls pass e hFirst)).run
  rwa [← treatCandidate_eq] at h

theorem atoms_treatExtra (s : State) : Atoms w s (treatExtra s) := by
  have h := (Atom.planner (w := w) _ (PlannerWrite.extra (s := s))).run
  rwa [← treatExtra_eq] at h

/-! ### Every event -/

theorem atoms_lineFail (hLine : w .line) (d : Side) (b : Bool) (s : State) :
    Atoms w s (lineEvent d (s.setMon d { s.mon d with lineFail := b })) :=
  (Atom.mon hLine d { s.mon d with lineFail := b } fun h =>
    Monitor.degradeInRange_of (m := s.mon d) rfl rfl rfl (.inl rfl) h).run.trans (atoms_lineEvent hLine d _)

theorem atoms_force (hLine : w .line) (d : Side) (b : Bool) (s : State) : Atoms w s (setForce d b s) :=
  atoms_monEvent hLine fun h => Monitor.degradeInRange_of (m := s.mon d) rfl rfl rfl (.inl rfl) h

theorem atoms_reassert {s : State} (hTimer : s.fabric.reassertTimer ≠ none) :
    Atoms w s (dispatch { s with fabric := { s.fabric with reassertPending := true, reassertTimer := some s.reassertTime } }) :=
  (Atom.fabric { s.fabric with reassertPending := true, reassertTimer := some s.reassertTime }
    (.request _ hTimer)).run.trans (atoms_dispatch _)

theorem atoms_retry {c : Command} {s : State} (hOut : s.fabric.outstanding = some c) :
    Atoms w s (sendCommand { c with attempt := 2 } s) := (Atom.fabric _ (.retry c hOut)).run

theorem LineEvent.atoms (hLine : w .line) {s t : State} (h : LineEvent s t) : Atoms w s t := by
  cases h with
  | ticked => exact (Atom.ticked hLine).run
  | fullReset => exact (Atom.fullReset hLine).run
  | softReset => exact (Atom.softReset hLine).run
  | lineFail d b => exact atoms_lineFail hLine d b s
  | blockCount d n => exact atoms_monEvent hLine (Monitor.degradeInRange_takeCount n)
  | holdOff d hTimer => exact atoms_monEvent hLine Monitor.degradeInRange_holdOffExpires
  | wtr d hTimer => exact atoms_monEvent hLine Monitor.degradeInRange_wtrExpires
  | silence d hTimer => exact atoms_monEvent hLine (Monitor.degradeInRange_silenceExpires _ _)
  | force d b => exact atoms_force hLine d b s
  | degrade d leak declare clear hLeak hDeclare =>
    exact (Atom.mon hLine d _ (Monitor.degradeInRange_settings (m := s.mon d) hLeak hDeclare)).run
  | badFrame d => exact atoms_laneEvent hLine .countBad
  | goodFrame d => exact atoms_laneEvent hLine .countGood
  | lockWindow d hTimer => exact atoms_laneEvent hLine .loseLock
  | adjacency d hTimer => exact atoms_laneEvent hLine .toDown
  | greeting d g hLock hRing hRange => exact atoms_actOnGreeting hLine d g s hLock
  | spanReport d r hLock hRing hRange => exact atoms_actOnSpanReport hLine d r s
  | done c b hOut => exact atoms_endDone hLine b hOut
  | refused c hOut => exact atoms_endRefused hLine hOut
  | stop hState => exact atoms_stopNode hLine s

theorem DigestEvent.atoms (hDigest : w .digest) {s t : State} (h : DigestEvent s t) : Atoms w s t := by
  cases h with
  | setDelay span delay => exact atoms_writeDelay hDigest span delay s
  | amend h i p hPlan hCheck => exact atoms_amendFields hDigest hPlan hCheck
  | activate h hCheck => exact atoms_activateAll hDigest (activatesInOrder_single hCheck) (by simp)
  | retire h hActive => exact atoms_retireFields hDigest h s hActive

theorem StreamEvent.atoms (hDigest : w .digest) (hStream : w .stream) {s t : State} (h : StreamEvent s t) :
    Atoms w s t := by
  cases h with
  | streamBegin first count activate hCount hRun => exact (Atom.stream hStream _ fun _ _ => ⟨le_refl _, hRun⟩).run
  | streamChunk images hOpen => exact atoms_streamChunk hDigest hStream images s hOpen
  | streamAbort => exact (Atom.stream hStream _ fun _ hOpen => by cases hOpen).run

theorem QuietEvent.atoms {s t : State} (h : QuietEvent s t) : Atoms w s t := by
  cases h with
  | pending l => exact (Atom.pending l).run
  | port p => exact (Atom.port p).run
  | attn a => exact (Atom.attn a).run
  | frameSlot => exact atoms_frameSlot s
  | greetingTimer d hTimer => exact (Atom.lane d _ (.greetingDue hTimer) (.inr ⟨rfl, rfl⟩)).run
  | pathConfirm d p hLock hRing hRange => exact atoms_actOnPathConfirm d p s
  | syncing hJoining => exact atoms_enterSyncing s hJoining
  | gather hPhase hPos => exact atoms_gatherOne hPos
  | settle =>
    exact (Atom.planner _ (.keep _ s.planner.late s.planner.replan _ _ s.planner.commitNumber (.inl rfl) (.inl rfl))).run
  | candidate cls pass e hFirst => exact atoms_treatCandidate hFirst
  | extra => exact atoms_treatExtra s
  | answered b => exact (Atom.fabric { s.fabric with answered := b } (.answered b)).run
  | retry c hOut hTimer => exact atoms_retry hOut
  | reassert hTimer => exact atoms_reassert hTimer
  | confirmTimer h r hTimer hRole => exact atoms_confirmExpires h r s hTimer
  | start hState hRing => exact atoms_enterJoining s hState hRing
  | setTimers a b c d e => exact atoms_setTimers a b c d e s
  | stage h i hHandle hCheck => exact atoms_stageImage (fun _ => hHandle) hCheck
  | discard h hStaged => exact (Atom.free h (.inr hStaged)).run
  | nextChanged h => exact (Atom.changed _).run

/-- The run that writes every region. -/
def everyRegion : Region → Prop := fun _ => True

/-- Every event is a run of atoms. -/
theorem Event.atoms {s t : State} (h : Event s t) : Atoms everyRegion s t := by
  have hAll : ∀ r, everyRegion r := fun _ => trivial
  cases h with
  | quiet h => exact h.atoms
  | line h => exact h.atoms (hAll _)
  | digest h => exact h.atoms (hAll _)
  | stream h => exact h.atoms (hAll _) (hAll _)
  | commit hReady => exact atoms_commitSweep (hAll _) (hAll _) (hAll _) s
  | setRing ringId n own hState hFields hFit hApart =>
    exact atoms_changeRing (hAll _) (hAll _) ringId n own s hState hFields hApart

/-- What every atom of a run keeps, the run keeps. -/
theorem Atoms.keeps {P : State → Prop} (hKeeps : ∀ s t, Atom w s t → P s → P t) {s t : State} (h : Atoms w s t)
    (hs : P s) : P t := by
  induction h with
  | refl => exact hs
  | tail _ hAtom ih => exact hKeeps _ _ hAtom ih

/-- What every atom keeps, every step keeps. -/
theorem step_keeps_atoms {P : State → Prop} (hKeeps : ∀ s t, Atom everyRegion s t → P s → P t) {s t : State} (hs : P s)
    (h : step s = .next t) : P t := step_keeps (fun _ _ hEvent => hEvent.atoms.keeps hKeeps) hs h

/-- What every atom keeps under an invariant that every atom keeps, every step keeps under it. -/
theorem step_keeps_atoms_under {Q P : State → Prop} (hUnder : ∀ s t, Atom everyRegion s t → Q s → Q t)
    (hKeeps : ∀ s t, Atom everyRegion s t → Q s → P s → P t) {s t : State} (hQ : Q s) (hP : P s) (h : step s = .next t) :
    P t :=
  (step_keeps_atoms (P := fun u => Q u ∧ P u)
    (fun u v hAtom hu => ⟨hUnder u v hAtom hu.1, hKeeps u v hAtom hu.1 hu.2⟩) ⟨hQ, hP⟩ h).2

end Sys2Proof.Machine
end

section
/-!
PROOFS. The tables in their canonical form (O6): each table is written by the operations of the sparse tables alone.
-/

namespace Sys2Proof.Machine

variable {w : Region → Prop} {s : State}

/-- What a write of tables has to show for one that it leaves alone. -/
theorem canonical_grantArc {t : Table (Option Nat)} (arc : List Nat) (slot h : Nat) (ht : Table.wf none t = true) :
    Table.wf none (grantArc t arc slot h) = true := by
  unfold grantArc
  induction arc generalizing t with
  | nil => exact ht
  | cons k arc ih => exact ih (Table.set_wf _ _ ht)

/-- The Planner's writes keep the canonical form of its grant tables. -/
theorem PlannerWrite.canonical {p : Planner} (h : PlannerWrite s p) (hNext : Table.wf none s.planner.nextGrants = true)
    (hCommitted : Table.wf none s.planner.committed = true) :
    Table.wf none p.nextGrants = true ∧ Table.wf none p.committed = true := by
  cases h with
  | sweep snapshot n hn => exact ⟨rfl, hCommitted⟩
  | keep phase late replan n committed k hn hTable =>
    refine ⟨hNext, ?_⟩
    rcases hTable with rfl | rfl | rfl
    · exact hCommitted
    · exact hNext
    · rfl
  | discard snapshot => exact ⟨rfl, hCommitted⟩
  | gather hPos =>
    have hSame : (gatherOne s).planner.nextGrants = s.planner.nextGrants ∧
        (gatherOne s).planner.committed = s.planner.committed := by
      unfold gatherOne
      dsimp only
      split
      · split <;> exact ⟨rfl, rfl⟩
      · exact ⟨rfl, rfl⟩
      · exact ⟨rfl, rfl⟩
      · exact ⟨rfl, rfl⟩
    rw [hSame.1, hSame.2]
    exact ⟨hNext, hCommitted⟩
  | candidate cls pass e hFirst =>
    unfold treatCandidate
    dsimp only
    split
    · exact ⟨canonical_grantArc _ _ _ hNext, hCommitted⟩
    · exact ⟨hNext, hCommitted⟩
  | extra => exact ⟨hNext, hCommitted⟩

/-- The driver's writes keep the canonical form of the Connection Map. -/
theorem FabricWrite.canonical {f : Fabric} (h : FabricWrite s f)
    (hEntries : Table.wf Entry.untouched s.fabric.entries = true) : Table.wf Entry.untouched f.entries = true := by
  cases h with
  | dispatch => exact canonical_dispatch hEntries
  | done c hOut => exact canonical_confirmEntry c hEntries
  | failed c hOut => exact Table.set_wf _ _ hEntries
  | derive => exact canonical_deriveMap s
  | _ => exact hEntries

theorem canonical_setRec {h : Nat} {r : Record} (hRecords : Table.wf Record.free s.store.records = true) :
    Table.wf Record.free (s.setRec h r).store.records = true := Table.set_wf h r hRecords

theorem canonical_setBucket {b : Nat} {l : List Nat} (hLabels : Table.wf [] s.store.labelIndex = true) :
    Table.wf [] (s.setBucket b l).store.labelIndex = true := Table.set_wf b l hLabels

/-- Staging writes the record and at most two buckets of the Label Index. -/
theorem stageFields_eq (h : Nat) (p : Planning) (port : Option Byte) (s : State) :
    stageFields h p port s = { s with store := { s.store with
      records := (stageFields h p port s).store.records, labelIndex := (stageFields h p port s).store.labelIndex } } := by
  unfold stageFields
  dsimp only
  split
  · rfl
  · split <;> rfl

theorem canonical_stageFields {h : Nat} {p : Planning} {port : Option Byte}
    (hRecords : Table.wf Record.free s.store.records = true) (hLabels : Table.wf [] s.store.labelIndex = true) :
    Table.wf Record.free (stageFields h p port s).store.records = true ∧
      Table.wf [] (stageFields h p port s).store.labelIndex = true := by
  have hJoin : ∀ u : State, Table.wf Record.free u.store.records = true → Table.wf [] u.store.labelIndex = true →
      ∀ r, Table.wf Record.free ((joinBucket p.circuit h u).setRec h r).store.records = true ∧
        Table.wf [] ((joinBucket p.circuit h u).setRec h r).store.labelIndex = true := fun u hr hl r =>
    ⟨canonical_setRec (s := joinBucket p.circuit h u) hr, canonical_setBucket hl⟩
  unfold stageFields
  dsimp only
  split
  · exact hJoin s hRecords hLabels _
  · split
    · exact hJoin s hRecords hLabels _
    · exact hJoin (leaveBucket _ h s) hRecords (canonical_setBucket hLabels) _

/-- Every atom keeps every table in its canonical form. -/
theorem Atom.tablesCanonical {t : State} (h : Atom w s t) (hs : TablesCanonical s) : TablesCanonical t := by
  obtain ⟨hRecords, hLabels, hOthers, hSpans, hDelays, hNext, hCommitted, hEntries⟩ := hs
  have hMapped : ∀ f, Table.wf Record.free (Table.mapValues Record.free f s.store.records) = true := fun f =>
    Table.mapValues_wf f hRecords
  cases h with
  | ticked => exact ⟨hMapped fun _ r => r.tick, hLabels, hOthers, hSpans, hDelays, hNext, hCommitted, hEntries⟩
  | timersStopped =>
    exact ⟨hMapped fun _ r => { r with exchange := { r.exchange with timer := none } }, hLabels, hOthers, hSpans,
      hDelays, hNext, hCommitted, hEntries⟩
  | fullReset => exact ⟨rfl, rfl, rfl, rfl, rfl, rfl, rfl, rfl⟩
  | softReset =>
    have hMap : Table.wf Entry.untouched (Table.mapValues Entry.untouched
        (fun _ e => { Entry.untouched with desired := e.desired }) s.fabric.entries) = true := Table.mapValues_wf _ hEntries
    exact ⟨hMapped fun _ r => r.softReset, hLabels, rfl, Table.ofFun_wf _ _ _, hDelays, rfl, rfl, hMap⟩
  | mon hLine d m hRange => cases d <;> exact ⟨hRecords, hLabels, hOthers, hSpans, hDelays, hNext, hCommitted, hEntries⟩
  | lane d l hWrite => cases d <;> exact ⟨hRecords, hLabels, hOthers, hSpans, hDelays, hNext, hCommitted, hEntries⟩
  | own d r hContent => cases d <;> exact ⟨hRecords, hLabels, hOthers, hSpans, hDelays, hNext, hCommitted, hEntries⟩
  | other hLine key e =>
    have hSet := Table.set_wf key (some e) hOthers
    exact ⟨hRecords, hLabels, hSet, hSpans, hDelays, hNext, hCommitted, hEntries⟩
  | spans => exact ⟨hRecords, hLabels, hOthers, Table.ofFun_wf _ _ _, hDelays, hNext, hCommitted, hEntries⟩
  | delay hDigest span delay =>
    have hSet := Table.set_wf span delay hDelays
    exact ⟨hRecords, hLabels, hOthers, hSpans, hSet, hNext, hCommitted, hEntries⟩
  | planner p hWrite =>
    obtain ⟨hNext', hCommitted'⟩ := hWrite.canonical hNext hCommitted
    exact ⟨hRecords, hLabels, hOthers, hSpans, hDelays, hNext', hCommitted', hEntries⟩
  | fabric f hWrite => exact ⟨hRecords, hLabels, hOthers, hSpans, hDelays, hNext, hCommitted, hWrite.canonical hEntries⟩
  | newRing => exact ⟨hRecords, hLabels, rfl, hSpans, hDelays, rfl, rfl, hEntries⟩
  | dyn v hStep hListed hExchange =>
    have hRecords' := hStep.canonical hRecords
    have hLabels' := hStep.labelIndex ▸ hLabels
    unfold TablesCanonical
    rw [hStep.map, hStep.planner, hStep.fabric]
    exact ⟨hRecords', hLabels', hOthers, hSpans, hDelays, hNext, hCommitted, hEntries⟩
  | record h r hWrite => exact ⟨canonical_setRec hRecords, hLabels, hOthers, hSpans, hDelays, hNext, hCommitted, hEntries⟩
  | stage h i p hPlan hRange hCheck =>
    obtain ⟨hRecords', hLabels'⟩ := canonical_stageFields (h := h) (p := p) (port := imagePort i) hRecords hLabels
    refine ⟨hRecords', hLabels', ?_⟩
    rw [stageFields_eq]
    exact ⟨hOthers, hSpans, hDelays, hNext, hCommitted, hEntries⟩
  | free h =>
    exact ⟨canonical_setRec (s := leaveBucket (s.record h).plan.circuit h s) (h := h) (r := Record.free) hRecords,
      canonical_setBucket hLabels, hOthers, hSpans, hDelays, hNext,
      hCommitted, hEntries⟩
  | digest hDigest v =>
    rw [setDigest_eq]
    exact ⟨hRecords, hLabels, hOthers, hSpans, hDelays, hNext, hCommitted, hEntries⟩
  | _ => exact ⟨hRecords, hLabels, hOthers, hSpans, hDelays, hNext, hCommitted, hEntries⟩

/-- Settles O6: the tables are written by the operations of the sparse tables alone, by induction over the atoms of a step. -/
theorem stepKeepsCanonicalTables : Obligations.StepKeepsCanonicalTables := fun _ _ hs h =>
  step_keeps_atoms (fun _ _ hAtom => hAtom.tablesCanonical) hs h

end Sys2Proof.Machine
end

section
/-!
PROOFS. The counts and ranges that every step keeps (O7), and Node Control with the timers that follow the node state (O10).
-/

namespace Sys2Proof.Machine

variable {w : Region → Prop} {s t : State}

/-! ### What an atom leaves of the Planner, the Stream and the Line Monitors -/

/-- An atom leaves the Planner alone, or is a write of the Planner, or empties it. -/
theorem Atom.planner_cases (h : Atom w s t) :
    t.planner = s.planner ∨ PlannerWrite s t.planner ∨ t.planner = Planner.reset ∨ t.planner =
      { s.planner with committed := [], buffer := [], excluded := [], nextGrants := [], abandonCount := 0 } := by
  cases h with
  | planner p hWrite => exact .inr (.inl hWrite)
  | fullReset => exact .inr (.inr (.inl rfl))
  | softReset => exact .inr (.inr (.inl rfl))
  | newRing => exact .inr (.inr (.inr rfl))
  | mon hLine d m => exact .inl (by rw [State.setMon_planner])
  | lane d l => exact .inl (by rw [State.setLane_planner])
  | dyn v hStep => exact .inl hStep.planner
  | stage h i p => exact .inl (by rw [stageFields_eq])
  | digest hDigest v => exact .inl (by rw [setDigest_eq])
  | _ => exact .inl rfl

/-- An atom leaves the Stream alone, or writes one in range, or closes it. -/
theorem Atom.stream_cases (h : Atom w s t) :
    t.store.stream = s.store.stream ∨ t.store.stream = Stream.closed ∨
      w .stream ∧ (s.store.stream.InRange → t.store.stream.InRange) := by
  cases h with
  | stream hStream x hRange => exact .inr (.inr ⟨hStream, hRange⟩)
  | fullReset => exact .inr (.inl rfl)
  | softReset => exact .inr (.inl rfl)
  | mon hLine d m => exact .inl (by rw [State.setMon_store])
  | lane d l => exact .inl (by rw [State.setLane_store])
  | dyn v hStep => exact .inl hStep.stream
  | stage h i p => exact .inl (by rw [stageFields_eq])
  | digest hDigest v => exact .inl (by rw [setDigest_eq])
  | _ => exact .inl rfl

/-- An atom leaves the Line Monitors alone, or writes one, or lets them tick or reset. -/
theorem Atom.mon_cases (h : Atom w s t) :
    (∀ d, t.mon d = s.mon d) ∨ w .line ∧
      ((∃ d m, t = s.setMon d m ∧ ((s.mon d).degradeInRange → m.degradeInRange)) ∨ t = tick s ∨ t = Machine.fullReset s ∨
        t = Machine.softReset s) := by
  cases h with
  | mon hLine d m hRange => exact .inr ⟨hLine, .inl ⟨d, m, rfl, hRange⟩⟩
  | ticked hLine => exact .inr ⟨hLine, .inr (.inl rfl)⟩
  | fullReset hLine => exact .inr ⟨hLine, .inr (.inr (.inl rfl))⟩
  | softReset hLine => exact .inr ⟨hLine, .inr (.inr (.inr rfl))⟩
  | lane d l => exact .inl fun e => by cases d <;> cases e <;> rfl
  | dyn v hStep => exact .inl hStep.mon
  | stage h i p => exact .inl fun d => by rw [stageFields_eq]; cases d <;> rfl
  | digest hDigest v => exact .inl fun d => by rw [setDigest_eq]; cases d <;> rfl
  | _ => exact .inl fun d => by cases d <;> rfl

theorem degradeInRange_evalMonitors {u : State} (h : ∀ d, (u.mon d).degradeInRange) (d : Side) :
    ((evalMonitors u).mon d).degradeInRange := by
  have hEval : ∀ (e : Side) (v : State), (∀ d, (v.mon d).degradeInRange) → ∀ d, ((evalMonitor e v).mon d).degradeInRange := by
    intro e v hv d
    unfold evalMonitor
    obtain rfl | rfl := Side.eq_or_eq_other d e
    · rw [State.mon_setMon]
      exact Monitor.degradeInRange_setDefects (m := { v.mon d with silenceTimer := v.silenceNow d }) _ _ _
        (Monitor.degradeInRange_of (m := v.mon d) rfl rfl rfl (.inl rfl) (hv d))
    · rw [State.mon_setMon_other]; exact hv _
  exact hEval .west _ (hEval .east u h) d

/-! ### Counts and ranges -/

/-- The counts of the Planner's writes stay in range. -/
theorem PlannerWrite.abandonCount_le {p : Planner} (h : PlannerWrite s p) (hs : s.planner.abandonCount ≤ 4) :
    p.abandonCount ≤ 4 := by
  cases h with
  | sweep snapshot n hn => exact hn.elim (fun h => h ▸ hs) id
  | keep phase late replan n committed k hn hTable => exact hn.elim (fun h => h ▸ hs) fun h => h ▸ Nat.zero_le _
  | discard snapshot => exact hs
  | gather hPos =>
    have hSame : (gatherOne s).planner.abandonCount = s.planner.abandonCount := by
      unfold gatherOne
      dsimp only
      split
      · split <;> rfl
      · rfl
      · rfl
      · rfl
    rw [hSame]; exact hs
  | candidate cls pass e hFirst => unfold treatCandidate; dsimp only; split <;> exact hs
  | extra => exact hs

theorem Atom.abandonCount_le (h : Atom w s t) (hs : s.planner.abandonCount ≤ 4) : t.planner.abandonCount ≤ 4 := by
  rcases h.planner_cases with hSame | hWrite | hReset | hNew
  · rw [hSame]; exact hs
  · exact hWrite.abandonCount_le hs
  · rw [hReset]; exact Nat.zero_le _
  · rw [hNew]; exact Nat.zero_le _

theorem degradeInRange_fullReset (m : Monitor) : m.fullReset.degradeInRange := by
  refine ⟨Nat.zero_le _, Nat.zero_le _, ?_, ?_, ?_⟩ <;> simp [Monitor.fullReset, Monitor.reset]

theorem degradeInRange_softReset {m : Monitor} (h : m.degradeInRange) : m.softReset.degradeInRange := by
  obtain ⟨-, hLeak, hDeclare⟩ := h
  exact ⟨Nat.zero_le _, hLeak, hDeclare⟩

theorem Atom.degradeInRange (h : Atom w s t) (hs : ∀ d, (s.mon d).degradeInRange) (d : Side) :
    (t.mon d).degradeInRange := by
  rcases h.mon_cases with hSame | ⟨-, ⟨e, m, rfl, hRange⟩ | rfl | rfl | rfl⟩
  · rw [hSame]; exact hs d
  · obtain rfl | rfl := Side.eq_or_eq_other d e
    · rw [State.mon_setMon]; exact hRange (hs d)
    · rw [State.mon_setMon_other]; exact hs _
  · cases d with
    | east => exact hs .east
    | west => exact hs .west
  · refine degradeInRange_evalMonitors (fun e => ?_) d
    cases e <;> exact degradeInRange_fullReset _
  · refine degradeInRange_evalMonitors (fun e => ?_) d
    cases e with
    | east => exact degradeInRange_softReset (hs .east)
    | west => exact degradeInRange_softReset (hs .west)

/-! ### The Stream and the handles in use -/

theorem StreamSound.inRange (h : StreamSound s) : s.store.stream.InRange := fun hOpen => (h hOpen).2

theorem Atoms.inRange (h : Atoms w s t) : s.store.stream.InRange → t.store.stream.InRange :=
  h.keeps (P := fun u => u.store.stream.InRange) fun u v hAtom hu => by
    rcases hAtom.stream_cases with hSame | hClosed | ⟨-, hWrite⟩
    · rw [hSame]; exact hu
    · rw [hClosed]; intro hOpen; cases hOpen
    · exact hWrite hu

/-- A run that does not write the Stream leaves it, or closes it. -/
theorem Atoms.stream_same (hNot : ¬ w .stream) (h : Atoms w s t) :
    t.store.stream = s.store.stream ∨ t.store.stream = Stream.closed :=
  h.keeps (P := fun u => u.store.stream = s.store.stream ∨ u.store.stream = Stream.closed) (fun u v hAtom hu => by
    rcases hAtom.stream_cases with hSame | hClosed | ⟨hStream, -⟩
    · rwa [hSame]
    · exact .inr hClosed
    · exact absurd hStream hNot) (.inl rfl)

/-- A Chunk that halts leaves the Stream Halted (R22). -/
theorem stream_of_halted {images : List StageImage} {n : Nat} {u : State} {status : Status}
    (h : (stageChunk images n u).halted = some status) : (stageChunk images n u).state.store.stream.state = .halted := by
  induction images generalizing n u with
  | nil => cases h
  | cons i images ih =>
    unfold stageChunk at h ⊢
    dsimp only at h ⊢
    split
    next hNone => rw [if_pos hNone] at h; cases h
    next hMore =>
      rw [if_neg hMore] at h
      split
      · rfl
      next hCheck => rw [hCheck] at h; exact ih h

/-- A Chunk ends with images to come, or with a Stream that is no longer Open (R22, R23). -/
theorem remaining_streamChunk (images : List StageImage) (hs : StreamSound s) :
    (carryStreamChunk images s).state.store.stream.state = .opened →
      1 ≤ (carryStreamChunk images s).state.store.stream.remaining := by
  have hFinish : ∀ u : State, (finishStream u).1.store.stream.state ≠ .opened := by
    intro u
    unfold finishStream
    dsimp only
    split
    · split <;> simp [haltStream, completeStream, raiseCause, State.setStream]
    · simp [completeStream, raiseCause, State.setStream]
  unfold carryStreamChunk
  split
  · exact fun hOpen => (hs hOpen).1
  · split
    · exact fun hOpen => (hs hOpen).1
    · dsimp only
      split
      next hHalted =>
        intro hOpen
        exact absurd ((stream_of_halted hHalted).symm.trans hOpen) (by decide)
      · split
        · exact fun hOpen => absurd hOpen (hFinish _)
        next hMore => exact fun _ => Nat.one_le_iff_ne_zero.2 hMore

theorem StreamEvent.streamSound (h : StreamEvent s t) (hs : StreamSound s) : StreamSound t := by
  have hRange : t.store.stream.InRange := (h.atoms (w := everyRegion) trivial trivial).inRange hs.inRange
  cases h with
  | streamBegin first count activate hCount hRun => exact fun _ => ⟨hCount, le_refl _, hRun⟩
  | streamChunk images hOpen => exact fun hOpen => ⟨remaining_streamChunk images hs hOpen, hRange hOpen⟩
  | streamAbort => exact fun hOpen => by cases hOpen

/-- The regions but the Stream. -/
def notStream : Region → Prop := fun r => r ≠ .stream

theorem Event.streamSound (h : Event s t) (hs : StreamSound s) : StreamSound t := by
  have hSame : ∀ {u}, Atoms notStream s u → StreamSound u := fun hRun => by
    rcases hRun.stream_same (fun hNot => hNot rfl) with hSame | hClosed
    · unfold StreamSound; rw [hSame]; exact hs
    · unfold StreamSound; rw [hClosed]; intro hOpen; cases hOpen
  cases h with
  | quiet h => exact hSame h.atoms
  | line h => exact hSame (h.atoms (by simp [notStream]))
  | digest h => exact hSame (h.atoms (by simp [notStream]))
  | stream h => exact h.streamSound hs
  | commit hReady => exact hSame (atoms_commitSweep (by simp [notStream]) (by simp [notStream]) (by simp [notStream]) s)
  | setRing ringId n own hState hFields hFit hApart =>
    exact hSame (atoms_changeRing (by simp [notStream]) (by simp [notStream]) ringId n own s hState hFields hApart)

/-! ### Listed values -/

/-- A listed value is the one that is read. -/
theorem Table.get_of_mem {α : Type} {d : α} {t : Table α} (hKeys : (Table.keys t).Pairwise (· < ·)) {e : Nat × α}
    (he : e ∈ t) : Table.get d t e.1 = e.2 := by
  induction t with
  | nil => cases he
  | cons f t ih =>
    obtain ⟨j, v⟩ := f
    have hOrder : (j :: Table.keys t).Pairwise (· < ·) := hKeys
    obtain ⟨hFirst, hRest⟩ := List.pairwise_cons.1 hOrder
    rcases List.mem_cons.1 he with rfl | he
    · simp [Table.get]
    · have hLt : j < e.1 := hFirst e.1 (List.mem_map_of_mem he)
      rw [Table.get, if_neg (by omega)]
      exact ih hRest he

/-- In the canonical form the listed numbers are those with another value than the default. -/
theorem Table.mem_keys_iff {α : Type} [DecidableEq α] {d : α} {t : Table α} (h : Table.wf d t = true) {k : Nat} :
    k ∈ Table.keys t ↔ Table.get d t k ≠ d := by
  refine ⟨fun hk => ?_, fun hk => by_contra fun hNot => hk (Table.get_of_not_mem d hNot)⟩
  obtain ⟨hKeys, hValues⟩ := (Table.wf_iff _ _).1 h
  obtain ⟨e, he, rfl⟩ := List.mem_map.1 hk
  rw [Table.get_of_mem hKeys he]
  exact hValues e he

/-- The listed handles are those with a record that is not Free as after a reset. -/
theorem mem_handles_iff (h : Table.wf Record.free s.store.records = true) {k : Nat} :
    k ∈ s.handles ↔ s.record k ≠ Record.free := Table.mem_keys_iff h

/-! ### What an atom leaves of a record -/

theorem record_of_records {u v : State} (h : u.store.records = v.store.records) (k : Nat) : u.record k = v.record k := by
  rw [State.record, State.record, h]

theorem record_tick (hs : Table.wf Record.free s.store.records = true) (k : Nat) :
    (tick s).record k = (s.record k).tick := by
  have hGet := Table.get_mapValues (fun _ r => r.tick) k rfl hs
  exact hGet

theorem record_stopConfirmTimers (hs : Table.wf Record.free s.store.records = true) (k : Nat) :
    (stopConfirmTimers s).record k = { s.record k with exchange := { (s.record k).exchange with timer := none } } := by
  have hGet := Table.get_mapValues (fun _ r => { r with exchange := { r.exchange with timer := none } }) k rfl hs
  exact hGet

theorem records_evalMonitors (u : State) : (evalMonitors u).store.records = u.store.records := by
  rw [evalMonitors, evalMonitor_eq .west, State.setMon_store, evalMonitor_eq .east, State.setMon_store]

theorem record_softReset (hs : Table.wf Record.free s.store.records = true) (k : Nat) :
    (softReset s).record k = (s.record k).softReset := by
  rw [State.record, softReset, records_evalMonitors]
  exact Table.get_mapValues (fun _ r => r.softReset) k rfl hs

theorem record_fullReset (s : State) (k : Nat) : (fullReset s).record k = Record.free := by
  rw [State.record, fullReset, records_evalMonitors]
  rfl

theorem record_freeRecord (h k : Nat) (s : State) :
    (freeRecord h s).record k = if k = h then Record.free else s.record k := by
  show ((leaveBucket (s.record h).plan.circuit h s).setRec h Record.free).record k = _
  rw [record_setRec, leaveBucket, record_setBucket]

/-- A record after it is staged. -/
def Record.staged (r : Record) (h : Nat) (p : Planning) (port : Option Byte) : Record :=
  { r with lifecycle := .staged, plan := p, port := port, code := recordCode h p }

theorem record_stageFields (h k : Nat) (p : Planning) (port : Option Byte) (s : State) :
    (stageFields h p port s).record k = if k = h then (s.record h).staged h p port else s.record k := by
  unfold stageFields
  dsimp only
  rw [record_setRec, joinBucket, record_setBucket]
  split
  · rfl
  · split
    · rfl
    · split <;> rfl

/-- What an atom makes of a record: it is left alone, or is changed as one of the atoms that write records says. -/
inductive RecordFate (w : Region → Prop) (s : State) (h : Nat) : Record → Prop
  | same : RecordFate w s h (s.record h)
  | ticked : RecordFate w s h (s.record h).tick
  | timer : RecordFate w s h { s.record h with exchange := { (s.record h).exchange with timer := none } }
  | reset : RecordFate w s h (s.record h).softReset
  | freed : RecordFate w s h Record.free
  | dynamic (r : Record) (hListed : h ∈ s.handles)
      (hr : r = { s.record h with outcome := r.outcome, reason := r.reason, conn := r.conn, exchange := r.exchange }) :
      RecordFate w s h r
  | written (r : Record) (hWrite : RecordWrite w s h r) : RecordFate w s h r
  | staged (i : StageImage) (p : Planning) (hPlan : imagePlanning i = some p)
      (hRange : s.store.stream.InRange → h < 4096) (hCheck : s.stageCheck h i = .pass) :
      RecordFate w s h ((s.record h).staged h p (imagePort i))

theorem Atom.recordFate (h : Atom w s t) (hs : Table.wf Record.free s.store.records = true) (k : Nat) :
    RecordFate w s k (t.record k) := by
  have hOf : ∀ {r}, t.record k = r → RecordFate w s k r → RecordFate w s k (t.record k) := fun hr hFate => hr ▸ hFate
  cases h with
  | ticked => exact hOf (record_tick hs k) .ticked
  | timersStopped => exact hOf (record_stopConfirmTimers hs k) .timer
  | fullReset => exact hOf (record_fullReset s k) .freed
  | softReset => exact hOf (record_softReset hs k) .reset
  | dyn v hStep hListed =>
    by_cases hv : v k
    · exact .dynamic _ (hListed k hv) (hStep.fields k)
    · exact hOf (hStep.others k hv) .same
  | record h r hWrite =>
    refine hOf (record_setRec s h k r) ?_
    split
    next hk => subst hk; exact .written r hWrite
    next => exact .same
  | stage h i p hPlan hRange hCheck =>
    refine hOf (record_stageFields h k p _ s) ?_
    split
    next hk => subst hk; exact .staged i p hPlan hRange hCheck
    next => exact .same
  | free h =>
    refine hOf (record_freeRecord h k s) ?_
    split
    · exact .freed
    · exact .same
  | mon hLine d m => exact hOf (by cases d <;> rfl) .same
  | lane d l => exact hOf (by cases d <;> rfl) .same
  | digest hDigest v => exact hOf (record_setDigest v s k) .same
  | _ => exact .same

/-- Only handles below 4096 have a record in use, while the Stream is in range. -/
theorem Atom.free_above (h : Atom w s t) (hTables : TablesCanonical s) (hRange : s.store.stream.InRange)
    (hs : ∀ k, 4096 ≤ k → s.record k = Record.free) (k : Nat) (hk : 4096 ≤ k) : t.record k = Record.free := by
  have hFree := hs k hk
  have hFate := h.recordFate hTables.1 k
  generalize t.record k = r at hFate ⊢
  cases hFate with
  | same => exact hFree
  | ticked => rw [hFree]; rfl
  | timer => rw [hFree]; rfl
  | reset => rw [hFree]; rfl
  | freed => rfl
  | dynamic r hListed hr =>
    exact absurd hFree ((mem_handles_iff hTables.1).1 hListed)
  | written r hWrite =>
    cases hWrite with
    | active hDigest hStaged => rw [hFree] at hStaged; cases hStaged
    | retiring hActive => rw [hFree] at hActive; cases hActive
    | port p hActive => rw [hFree] at hActive; cases hActive
    | planning hDigest i p hPlan hActive => rw [hFree] at hActive; cases hActive
  | staged i p hPlan hBelow hCheck => exact absurd (hBelow hRange) (by omega)

/-! ### The plan buffer -/

/-- Settling one entry leaves the handles and the copied fields of the buffer. -/
theorem settleFirst_map {β : Type} (g : Nat → Planning → β) (v : Verdict) (f : PlanEntry → Verdict) (l : List PlanEntry) :
    (settleFirst v f l).map (fun e => g e.handle e.plan) = l.map fun e => g e.handle e.plan := by
  induction l with
  | nil => rfl
  | cons e l ih =>
    unfold settleFirst
    split
    · rfl
    · rw [List.map_cons, List.map_cons, ih]

/-- Every entry of a settled buffer has the handle and fields of one of the buffer. -/
theorem exists_of_mem_settleFirst {v : Verdict} {f : PlanEntry → Verdict} {l : List PlanEntry} {e : PlanEntry}
    (he : e ∈ settleFirst v f l) : ∃ x ∈ l, x.handle = e.handle ∧ x.plan = e.plan := by
  have hMem : (e.handle, e.plan) ∈ (settleFirst v f l).map fun e => (e.handle, e.plan) := List.mem_map_of_mem he
  rw [settleFirst_map Prod.mk] at hMem
  obtain ⟨x, hx, hEq⟩ := List.mem_map.1 hMem
  exact ⟨x, hx, congrArg Prod.fst hEq, congrArg Prod.snd hEq⟩

/-- The sweep's law on a Planner alone. -/
def Planner.sweepSound (p : Planner) : Prop :=
  p.gatherPos ≤ 4096 ∧ p.buffer.Pairwise (fun a b => a.handle < b.handle) ∧ (∀ e ∈ p.buffer, e.handle < p.gatherPos) ∧
    ∀ h ∈ p.excluded, h < p.gatherPos ∧ ∀ e ∈ p.buffer, e.handle ≠ h

theorem Planner.sweepSound_empty {p : Planner} (hPos : p.gatherPos ≤ 4096) (hBuffer : p.buffer = [])
    (hExcluded : p.excluded = []) : p.sweepSound := by
  unfold sweepSound
  rw [hBuffer, hExcluded]
  simp [hPos]

/-- Settling one entry keeps the sweep's law. -/
theorem Planner.sweepSound_settle {p : Planner} (v : Verdict) (f : PlanEntry → Verdict) {q : Planner}
    (hBuffer : q.buffer = settleFirst v f p.buffer) (hExcluded : q.excluded = p.excluded)
    (hPos : q.gatherPos = p.gatherPos) (h : p.sweepSound) : q.sweepSound := by
  obtain ⟨hLimit, hOrder, hBelow, hApart⟩ := h
  refine ⟨hPos ▸ hLimit, ?_, fun e he => ?_, fun k hk => ?_⟩
  · have hHandles : q.buffer.map (·.handle) = p.buffer.map (·.handle) := by
      rw [hBuffer]; exact settleFirst_map (fun h _ => h) v f p.buffer
    have hPairs : (p.buffer.map (·.handle)).Pairwise (· < ·) := List.pairwise_map.2 hOrder
    exact List.pairwise_map.1 (hHandles ▸ hPairs)
  · obtain ⟨x, hx, hSame, -⟩ := exists_of_mem_settleFirst (hBuffer ▸ he)
    rw [hPos, ← hSame]; exact hBelow x hx
  · obtain ⟨hLt, hNe⟩ := hApart k (hExcluded ▸ hk)
    refine ⟨hPos ▸ hLt, fun e he => ?_⟩
    obtain ⟨x, hx, hSame, -⟩ := exists_of_mem_settleFirst (hBuffer ▸ he)
    rw [← hSame]; exact hNe x hx

/-- What gathering one handle makes of the buffer and the excluded set (R96). -/
theorem gatherOne_buffer (s : State) :
    (gatherOne s).planner.buffer = s.planner.buffer ++
      (if (s.record s.planner.gatherPos).lifecycle = .active ∧ ¬ s.planner.late.contains s.planner.gatherPos = true then
        [{ handle := s.planner.gatherPos, plan := (s.record s.planner.gatherPos).plan,
           verdict := evaluate s.planner.snapshot s.node.ringSize (s.record s.planner.gatherPos).plan }] else []) := by
  unfold gatherOne
  dsimp only
  split
  next hActive =>
    by_cases hLate : s.planner.late.contains s.planner.gatherPos = true
    · rw [if_pos hLate, if_neg (fun h => h.2 hLate), List.append_nil]
    · rw [if_neg hLate, if_pos ⟨hActive, hLate⟩]
  all_goals next hOther => rw [if_neg (by rw [hOther]; simp), List.append_nil]

theorem gatherOne_excluded (s : State) :
    (gatherOne s).planner.excluded = if (s.record s.planner.gatherPos).lifecycle = .retiring then
      setInsert s.planner.excluded s.planner.gatherPos else s.planner.excluded := by
  unfold gatherOne
  dsimp only
  split
  next hActive => split <;> simp [hActive]
  all_goals next hOther => simp [hOther]

theorem gatherOne_rest (s : State) : (gatherOne s).planner = { s.planner with
    buffer := (gatherOne s).planner.buffer, excluded := (gatherOne s).planner.excluded,
    gatherPos := s.planner.gatherPos + 1, phase := (gatherOne s).planner.phase } := by
  unfold gatherOne
  dsimp only
  cases (s.record s.planner.gatherPos).lifecycle with
  | active => cases s.planner.late.contains s.planner.gatherPos <;> rfl
  | _ => rfl

theorem Planner.sweepSound_gather (hPos : s.planner.gatherPos < 4096) (h : s.planner.sweepSound) :
    (gatherOne s).planner.sweepSound := by
  obtain ⟨-, hOrder, hBelow, hApart⟩ := h
  have hNext : (gatherOne s).planner.gatherPos = s.planner.gatherPos + 1 := by rw [gatherOne_rest]
  unfold sweepSound
  rw [hNext, gatherOne_buffer, gatherOne_excluded]
  by_cases hActive : (s.record s.planner.gatherPos).lifecycle = .active ∧ ¬ s.planner.late.contains s.planner.gatherPos = true
  · rw [if_pos hActive, if_neg (by rw [hActive.1]; decide)]
    refine ⟨hPos, List.pairwise_append.2 ⟨hOrder, List.pairwise_singleton _ _, fun a ha b hb => ?_⟩, fun e he => ?_,
      fun k hk => ⟨by have := (hApart k hk).1; omega, fun e he => ?_⟩⟩
    · rw [List.mem_singleton.1 hb]; exact hBelow a ha
    · rcases List.mem_append.1 he with he | he
      · have := hBelow e he; omega
      · rw [List.mem_singleton.1 he]; exact Nat.lt_succ_self _
    · rcases List.mem_append.1 he with he | he
      · exact (hApart k hk).2 e he
      · rw [List.mem_singleton.1 he]; have := (hApart k hk).1; dsimp only; omega
  · rw [if_neg hActive, List.append_nil]
    refine ⟨hPos, hOrder, fun e he => by have := hBelow e he; omega, fun k hk => ?_⟩
    have hOld : k ∈ s.planner.excluded → k < s.planner.gatherPos + 1 ∧ ∀ e ∈ s.planner.buffer, e.handle ≠ k := fun hk =>
      ⟨by have := (hApart k hk).1; omega, (hApart k hk).2⟩
    split at hk
    · rcases (mem_setInsert _ _ _).1 hk with rfl | hk
      · exact ⟨Nat.lt_succ_self _, fun e he => by have := hBelow e he; omega⟩
      · exact hOld hk
    · exact hOld hk

theorem PlannerWrite.sweepSound {p : Planner} (h : PlannerWrite s p) (hs : s.planner.sweepSound) : p.sweepSound := by
  cases h with
  | sweep snapshot n hn => exact Planner.sweepSound_empty (Nat.zero_le _) rfl rfl
  | keep phase late replan n committed k hn hTable => exact hs
  | discard snapshot => exact Planner.sweepSound_empty hs.1 rfl rfl
  | gather hPos => exact Planner.sweepSound_gather hPos hs
  | candidate cls pass e hFirst =>
    unfold treatCandidate
    dsimp only
    split <;> exact Planner.sweepSound_settle _ _ rfl rfl rfl hs
  | extra => exact Planner.sweepSound_settle _ _ rfl rfl rfl hs

theorem Atom.planSound (h : Atom w s t) (hs : PlanSound s) : PlanSound t := by
  show t.planner.sweepSound
  rcases h.planner_cases with hSame | hWrite | hReset | hNew
  · rw [hSame]; exact hs
  · exact hWrite.sweepSound hs
  · rw [hReset]; exact Planner.sweepSound_empty (Nat.zero_le _) rfl rfl
  · rw [hNew]; exact Planner.sweepSound_empty hs.1 rfl rfl

/-- A step keeps the tables canonical, the Stream in range and the records above handle 4095 Free. -/
theorem step_keeps_free_above (hTables : TablesCanonical s) (hRange : s.store.stream.InRange)
    (hs : ∀ k, 4096 ≤ k → s.record k = Record.free) (h : step s = .next t) : ∀ k, 4096 ≤ k → t.record k = Record.free :=
  (step_keeps_atoms
    (P := fun u => TablesCanonical u ∧ u.store.stream.InRange ∧ ∀ k, 4096 ≤ k → u.record k = Record.free)
    (fun _ _ hAtom hu => ⟨hAtom.tablesCanonical hu.1, hAtom.run.inRange hu.2.1, hAtom.free_above hu.1 hu.2.1 hu.2.2⟩)
    ⟨hTables, hRange, hs⟩ h).2.2

/-- Settles O7: over the atoms, but that an Open Stream has images to come only at the end of an event. -/
theorem stepKeepsCountsInRange : Obligations.StepKeepsCountsInRange := by
  refine ⟨fun _ _ hs h => step_keeps_atoms (fun _ _ hAtom => hAtom.abandonCount_le) hs h,
    fun _ _ hs h => step_keeps_atoms (fun _ _ hAtom => hAtom.degradeInRange) hs h,
    fun _ _ hs h => step_keeps (fun _ _ hEvent => hEvent.streamSound) hs h,
    fun s t hTables hs h => ⟨?_, step_keeps_free_above hTables hs.1.inRange hs.2 h⟩,
    fun _ _ hs h => step_keeps_atoms (fun _ _ hAtom => hAtom.planSound) hs h⟩
  exact step_keeps (fun _ _ hEvent => hEvent.streamSound) hs.1 h

end Sys2Proof.Machine
end

section
/-!
PROOFS. The digest comparison of a lane, said once; Node Control with the timers that follow the node state (O10); the bounds of
the lanes (O8).
-/

namespace Sys2Proof.Machine

variable {w : Region → Prop} {s t : State}

/-! ### The digest comparison -/

/-- What the comparison with a digest reads on a lane (R66). -/
def Lane.comparedWith (l : Lane) (digest : BitVec 32) : Bool :=
  match l.adjacency, l.neighbour with
  | .up, some g => decide (g.digest ≠ digest)
  | _, _ => l.differs

/-- The lane after a comparison with a digest. -/
def Lane.compared (l : Lane) (digest : BitVec 32) : Lane := { l with differs := l.comparedWith digest }

theorem Lane.comparedWith_up {l : Lane} {g : Greeting} (digest : BitVec 32) (hUp : l.adjacency = .up)
    (hNeighbour : l.neighbour = some g) : l.comparedWith digest = decide (g.digest ≠ digest) := by
  unfold comparedWith; rw [hUp, hNeighbour]

theorem Lane.comparedWith_of_not_up (l : Lane) (digest : BitVec 32) (hDown : l.adjacency ≠ .up) :
    l.comparedWith digest = l.differs := by
  unfold comparedWith
  split
  next hUp _ => exact absurd hUp hDown
  next => rfl

theorem Lane.comparedWith_of_none {l : Lane} (digest : BitVec 32) (hNone : l.neighbour = none) :
    l.comparedWith digest = l.differs := by
  unfold comparedWith
  split
  next h => rw [hNone] at h; cases h
  next => rfl

/-- The comparison on one lane writes its result, and raises Table Disagreement when it goes from Same to Differs (R66). -/
theorem compareDigest_raises (d : Side) (s : State) :
    compareDigest d s = raiseIf (((s.lane d).comparedWith s.store.digest) && !(s.lane d).differs) .tableDisagreement
      (s.setLane d ((s.lane d).compared s.store.digest)) := by
  have hStays : ∀ u, u = s → (s.lane d).comparedWith s.store.digest = (s.lane d).differs →
      u = raiseIf (((s.lane d).comparedWith s.store.digest) && !(s.lane d).differs) .tableDisagreement
        (s.setLane d ((s.lane d).compared s.store.digest)) := by
    rintro u rfl hSame
    rw [Lane.compared, hSame, Bool.and_not_self, raiseIf_eq, if_neg (by decide)]
    cases d <;> rfl
  unfold compareDigest
  split
  next g hUp hNeighbour => rw [Lane.compared, Lane.comparedWith_up _ hUp hNeighbour]
  next hOther =>
    refine hStays s rfl ?_
    unfold Lane.comparedWith
    split
    next g hUp hNeighbour => exact absurd hNeighbour (hOther g hUp)
    next => rfl

theorem lane_compareDigest (d : Side) (s : State) :
    (compareDigest d s).lane d = (s.lane d).compared s.store.digest := by
  rw [compareDigest_raises, lane_raiseIf, State.lane_setLane]

theorem lane_compareDigest_other (d : Side) (s : State) : (compareDigest d s).lane d.other = s.lane d.other := by
  rw [compareDigest_raises, lane_raiseIf, State.lane_setLane_other]

theorem digest_compareDigest (d : Side) (s : State) : (compareDigest d s).store = s.store := by
  rw [compareDigest_eq]; cases d <;> rfl

/-- A change of the digest is compared on both lanes (R66). -/
theorem lane_setDigest (v : BitVec 32) (s : State) (d : Side) :
    (setDigest v s).lane d = if v = s.store.digest then s.lane d else (s.lane d).compared v := by
  unfold setDigest
  split
  · rfl
  · cases d with
    | east =>
      rw [show Side.east = Side.west.other from rfl, lane_compareDigest_other]
      exact lane_compareDigest .east _
    | west =>
      rw [lane_compareDigest, digest_compareDigest, show Side.west = Side.east.other from rfl, lane_compareDigest_other]
      rfl

/-! ### Greetings, by what they make of the lane -/

theorem lane_enterUp (d : Side) (s : State) :
    (enterUp d s).lane d = Lane.compared { s.lane d with
      adjacency := .up, pendingKeys := allKeys s.node.ringSize, mapSent := false, exchanged := false, differs := false }
      s.store.digest := by
  unfold enterUp
  rw [lane_compareDigest, State.lane_setLane, State.setLane_store]

/-- The lane after a correct Greeting (R62, R66, R67). -/
theorem lane_correctGreeting (d : Side) (g : Greeting) (s : State) :
    (correctGreeting d g s).lane d =
      match (s.lane d).adjacency with
      | .down => { (s.lane d).greeted g with adjacency := .heard }
      | .mismatched => { (s.lane d).greeted g with adjacency := .heard }
      | .heard => if g.heard then Lane.compared { (s.lane d).greeted g with
          adjacency := .up, pendingKeys := allKeys s.node.ringSize, mapSent := false, exchanged := false, differs := false }
          s.store.digest else (s.lane d).greeted g
      | .up => if g.heard then Lane.compared { (s.lane d).greeted g with exchanged := (s.lane d).exchanged || g.mapSent }
          s.store.digest else ((s.lane d).greeted g).fallTo .heard := by
  have hAdjacency : ((s.lane d).greeted g).adjacency = (s.lane d).adjacency := rfl
  unfold correctGreeting
  dsimp only
  rw [hAdjacency]
  cases (s.lane d).adjacency with
  | down => exact State.lane_setLane _ _ _
  | mismatched => exact State.lane_setLane _ _ _
  | heard =>
    dsimp only
    split
    · rw [lane_enterUp, State.lane_setLane, State.setLane_store, State.setLane_node]
    · exact State.lane_setLane _ _ _
  | up =>
    dsimp only
    split
    · rw [lane_compareDigest, State.lane_setLane, State.setLane_store]; rfl
    · exact State.lane_setLane _ _ _

/-- The lane after an incorrect Greeting (R63). -/
theorem lane_incorrectGreeting (d : Side) (g : Greeting) (s : State) :
    (incorrectGreeting d g s).lane d = ((s.lane d).greeted g).fallTo .mismatched := by
  unfold incorrectGreeting
  rw [lane_raiseIf, State.lane_setLane]

/-! ### What an atom makes of a lane -/

/-- What an atom makes of a lane. -/
inductive LaneFate (s : State) (d : Side) : Lane → Prop
  | same : LaneFate s d (s.lane d)
  | written (l : Lane) (hWrite : LaneWrite s d l) : LaneFate s d l
  | compared (digest : BitVec 32) : LaneFate s d ((s.lane d).compared digest)
  | ticked : LaneFate s d (s.lane d).tick
  | fullReset : LaneFate s d Lane.reset
  | softReset : LaneFate s d ((s.lane d).softReset s.node.ringId)
  | newRing (hState : s.node.state = .configuring) : LaneFate s d ((s.lane d).newRing (decide (s.node.ringId = 0)))
  | queued (q : List PathConfirm)
      (hQueue : q = (s.lane d).queue ∨ (s.lane d).adjacency = .up ∧ ((s.lane d).queue.length ≤ 16 → q.length ≤ 16)) :
      LaneFate s d { s.lane d with queue := q }

theorem lane_evalMonitors (u : State) (d : Side) : (evalMonitors u).lane d = u.lane d := by
  rw [evalMonitors, evalMonitor_eq .west, evalMonitor_eq .east]; cases d <;> rfl

theorem Atom.laneFate (h : Atom w s t) (d : Side) : LaneFate s d (t.lane d) := by
  have hOf : ∀ {l}, t.lane d = l → LaneFate s d l → LaneFate s d (t.lane d) := fun hl hFate => hl ▸ hFate
  cases h with
  | lane e l hWrite =>
    obtain rfl | rfl := Side.eq_or_eq_other d e
    · exact hOf (State.lane_setLane _ _ _) (.written l hWrite)
    · exact hOf (State.lane_setLane_other _ _ _) .same
  | ticked => exact hOf (by cases d <;> rfl) .ticked
  | fullReset => exact hOf ((lane_evalMonitors _ d).trans (by cases d <;> rfl)) .fullReset
  | softReset => exact hOf ((lane_evalMonitors _ d).trans (by cases d <;> rfl)) .softReset
  | newRing hLine hExchange ringId n own hState => exact hOf (by cases d <;> rfl) (.newRing hState)
  | dyn v hStep => exact hOf (hStep.lane d) (.queued _ (hStep.queue d))
  | mon hLine e m => exact hOf (by cases e <;> cases d <;> rfl) .same
  | stage h i p => exact hOf (by rw [stageFields_eq]; cases d <;> rfl) .same
  | digest hDigest v =>
    have hLane := lane_setDigest v s d
    split at hLane
    · exact hOf hLane .same
    · exact hOf hLane (.compared v)
  | _ => exact hOf (by cases d <;> rfl) .same

/-! ### The Greeting timer -/

theorem greetTimer_fallTo (l : Lane) (a : Adjacency) : (l.fallTo a).greetTimer = l.greetTimer := by
  unfold Lane.fallTo; dsimp only; split <;> rfl

theorem greetTimer_slotLane (s : State) (d : Side) : (s.slotLane d).greetTimer = (s.lane d).greetTimer := by
  have hRest : ∀ (l : Lane) f, (l.sendRest f).greetTimer = l.greetTimer := by
    intro l f
    unfold Lane.sendRest
    split
    · rfl
    · split <;> rfl
  unfold State.slotLane
  dsimp only
  split
  · rfl
  · split
    · rfl
    · split
      · split
        · rfl
        · exact hRest _ _
      · exact hRest _ _

/-- Every write of a lane leaves its Greeting timer running or stopped. -/
theorem LaneWrite.greetTimer {d : Side} {l : Lane} (h : LaneWrite s d l) :
    l.greetTimer = none ↔ (s.lane d).greetTimer = none := by
  have hCount : ∀ l : Lane, l.countGood.greetTimer = l.greetTimer := fun l => by
    unfold Lane.countGood
    split
    · split <;> rfl
    · rfl
  have hLose : ∀ l : Lane, l.loseLock.greetTimer = l.greetTimer := fun l => greetTimer_fallTo l .down
  have hBad : ∀ l : Lane, l.countBad.greetTimer = l.greetTimer := fun l => by
    unfold Lane.countBad
    split
    · rfl
    · split
      · rfl
      · exact hLose _
  cases h with
  | mark => rfl
  | markOwn => rfl
  | countGood => rw [hCount]
  | countBad => rw [hBad]
  | loseLock => rw [hLose]
  | toDown => rw [show (s.lane d).toDown.greetTimer = (s.lane d).greetTimer from greetTimer_fallTo _ .down]
  | greetingDue hTimer => simp [Lane.greetingDue, hTimer]
  | slot u hLane => rw [greetTimer_slotLane, hLane]
  | correct g hLock =>
    rw [lane_correctGreeting]
    split
    · rfl
    · rfl
    · split <;> rfl
    · split
      · rfl
      · rw [greetTimer_fallTo]; rfl
  | incorrect g hLock => rw [lane_incorrectGreeting, greetTimer_fallTo]; rfl

/-! ### Node Control -/

theorem tickTimer_eq_none (x : Option Nat) : tickTimer x = none ↔ x = none := by cases x <;> simp [tickTimer]

/-- The driver's writes leave the Reassertion Timer running or stopped. -/
theorem FabricWrite.reassertTimer {f : Fabric} (h : FabricWrite s f) :
    f.reassertTimer = none ↔ s.fabric.reassertTimer = none := by
  cases h with
  | request n hTimer => simp [hTimer]
  | dispatch => rw [dispatch_eq]
  | done c hOut => rw [confirmEntry_eq]; rfl
  | derive => rw [deriveMap_eq]
  | _ => rfl

/-- Both Greeting timers run exactly while the ring ID is set. -/
def GreetTimersSound (s : State) : Prop := ∀ d, (s.lane d).greetTimer = none ↔ s.node.ringId = 0

/-- The ring parameters are all unset, in Configuring, or all in range. -/
def NodeControl.ringSound (n : NodeControl) : Prop :=
  n.ringId = 0 ∧ n.ringSize = 0 ∧ n.own = 0 ∧ n.state = .configuring ∨
    1 ≤ n.ringId ∧ n.ringId ≤ 65535 ∧ 3 ≤ n.ringSize ∧ n.ringSize ≤ 24 ∧ n.own < n.ringSize

theorem nodeSound_iff : NodeSound s ↔ s.node.ringSound ∧ (s.node.joinTimer = none ↔ s.node.state ≠ .joining) ∧
    (s.fabric.reassertTimer = none ↔ s.node.state ≠ .running) ∧ GreetTimersSound s := by
  unfold NodeSound NodeControl.ringSound GreetTimersSound
  have hBoth : (∀ d, (s.lane d).greetTimer = none ↔ s.node.ringId = 0) ↔
      (s.laneEast.greetTimer = none ↔ s.node.ringId = 0) ∧ (s.laneWest.greetTimer = none ↔ s.node.ringId = 0) :=
    ⟨fun h => ⟨h .east, h .west⟩, fun h d => by cases d; exacts [h.1, h.2]⟩
  rw [hBoth]

theorem NodeSound.ringSize_le (h : NodeSound s) : s.node.ringSize ≤ 24 := by
  obtain ⟨⟨-, hSize, -⟩ | ⟨-, -, -, hSize, -⟩, -⟩ := h <;> omega

theorem NodeSound.own_lt (h : NodeSound s) (hRing : s.node.ringSize ≠ 0) : s.node.own < s.node.ringSize := by
  obtain ⟨⟨-, hSize, -⟩ | ⟨-, -, -, -, hOwn⟩, -⟩ := h
  · exact absurd hSize hRing
  · exact hOwn

/-- What an atom makes of Node Control with the Reassertion Timer. -/
theorem Atom.node_cases (h : Atom w s t) :
    (t.node = s.node ∧ (t.fabric.reassertTimer = none ↔ s.fabric.reassertTimer = none)) ∨
      (∃ a b c e, t.node = { s.node with holdOff := a, wtr := b, confirmInterval := c, reassertInterval := e } ∧
        t.fabric = s.fabric) ∨
      (t.node = { s.node with joinTimer := tickTimer s.node.joinTimer } ∧
        t.fabric.reassertTimer = tickTimer s.fabric.reassertTimer) ∨
      (t.node = NodeControl.reset ∧ t.fabric.reassertTimer = none) ∨
      (t.node = { s.node with state := .configuring, joinTimer := none } ∧ t.fabric.reassertTimer = none) ∨
      (s.node.state = .joining ∧ t.node = { s.node with state := .syncing, joinTimer := none } ∧ t.fabric = s.fabric) ∨
      (s.node.state = .configuring ∧ s.node.ringId ≠ 0 ∧
        (∃ n, t.node = { s.node with state := .joining, joinTimer := some n }) ∧ t.fabric = s.fabric) ∨
      (s.node.state = .syncing ∧ t.node = { s.node with state := .running } ∧ t.fabric.reassertTimer ≠ none) ∨
      (s.node.state = .configuring ∧ t.fabric = s.fabric ∧ ∃ ringId n own, ringFieldsOk ringId n own = true ∧
        t.node = { s.node with ringId := ringId, ringSize := n, own := own }) := by
  cases h with
  | settings a b c e => exact .inr (.inl ⟨a, b, c, e, rfl, rfl⟩)
  | ticked => exact .inr (.inr (.inl ⟨rfl, rfl⟩))
  | fullReset => exact .inr (.inr (.inr (.inl ⟨rfl, rfl⟩)))
  | softReset => exact .inr (.inr (.inr (.inr (.inl ⟨rfl, rfl⟩))))
  | stopped => exact .inr (.inr (.inr (.inr (.inl ⟨rfl, rfl⟩))))
  | syncing hState => exact .inr (.inr (.inr (.inr (.inr (.inl ⟨hState, rfl, rfl⟩)))))
  | joining hState hRing n => exact .inr (.inr (.inr (.inr (.inr (.inr (.inl ⟨hState, hRing, ⟨n, rfl⟩, rfl⟩))))))
  | running hLine hState n => exact .inr (.inr (.inr (.inr (.inr (.inr (.inr (.inl ⟨hState, rfl, by simp⟩)))))))
  | newRing hLine hExchange ringId n own hState hFields =>
    exact .inr (.inr (.inr (.inr (.inr (.inr (.inr (.inr ⟨hState, rfl, ringId, n, own, hFields, rfl⟩)))))))
  | fabric f hWrite => exact .inl ⟨rfl, hWrite.reassertTimer⟩
  | mon hLine d m => exact .inl ⟨by rw [State.setMon_node], by rw [State.setMon_fabric]⟩
  | lane d l => exact .inl ⟨by rw [State.setLane_node], by rw [State.setLane_fabric]⟩
  | dyn v hStep => exact .inl ⟨hStep.node, by rw [hStep.fabric]⟩
  | stage h i p => exact .inl ⟨by rw [stageFields_eq], by rw [stageFields_eq]⟩
  | digest hDigest v => exact .inl ⟨by rw [setDigest_eq], by rw [setDigest_eq]⟩
  | _ => exact .inl ⟨rfl, Iff.rfl⟩

theorem ringFieldsOk_iff {ringId n own : Nat} :
    ringFieldsOk ringId n own = true ↔ 1 ≤ ringId ∧ ringId ≤ 65535 ∧ 3 ≤ n ∧ n ≤ 24 ∧ own < n := by
  simp [ringFieldsOk, and_assoc]

theorem Atom.greetTimers (h : Atom w s t) (hs : GreetTimersSound s) : GreetTimersSound t := fun d => by
  have hd := hs d
  cases h with
  | lane e l hWrite =>
    rw [State.setLane_node]
    obtain rfl | rfl := Side.eq_or_eq_other d e
    · rw [State.lane_setLane, hWrite.greetTimer]; exact hd
    · rw [State.lane_setLane_other]; exact hd
  | ticked => cases d <;> exact (tickTimer_eq_none _).trans hd
  | fullReset =>
    have hNode : (Machine.fullReset s).node.ringId = 0 := rfl
    rw [show (Machine.fullReset s).lane d = _ from lane_evalMonitors _ d, hNode]
    cases d <;> exact iff_of_true rfl rfl
  | softReset =>
    rw [show (Machine.softReset s).lane d = _ from lane_evalMonitors _ d]
    have hLane : ∀ l : Lane, (l.softReset s.node.ringId).greetTimer = none ↔ s.node.ringId = 0 := fun l => by
      unfold Lane.softReset
      by_cases hRing : s.node.ringId = 0 <;> simp [hRing]
    have hNode : (Machine.softReset s).node.ringId = s.node.ringId := rfl
    rw [hNode]
    cases d <;> exact hLane _
  | newRing hLine hExchange ringId n own hState hFields =>
    have hRing := ringFieldsOk_iff.1 hFields
    have hNode : (emptyPlan (Machine.newRing ringId n own s)).node.ringId = ringId := rfl
    have hLane : ∀ l : Lane, (l.greetTimer = none ↔ s.node.ringId = 0) →
        ((l.newRing (decide (s.node.ringId = 0))).greetTimer = none ↔ ringId = 0) := fun l hl => by
      unfold Lane.newRing
      by_cases hWas : s.node.ringId = 0
      · simp [hWas]; omega
      · have : l.greetTimer ≠ none := fun hNone => hWas (hl.1 hNone)
        simp [hWas, this]; omega
    rw [hNode]
    cases d with
    | east => exact hLane _ hd
    | west => exact hLane _ hd
  | dyn v hStep => rw [hStep.lane, hStep.node]; exact hd
  | mon hLine e m => rw [State.setMon_node]; cases e <;> cases d <;> exact hd
  | stage h i p => rw [stageFields_eq]; cases d <;> exact hd
  | digest hDigest v => rw [setDigest_eq]; cases d <;> exact hd
  | _ => cases d <;> exact hd

/-- Every atom keeps Node Control and the timers that follow the node state. -/
theorem Atom.nodeSound (h : Atom w s t) (hs : NodeSound s) : NodeSound t := by
  obtain ⟨hRing, hJoin, hReassert, hGreet⟩ := nodeSound_iff.1 hs
  suffices hRest : t.node.ringSound ∧ (t.node.joinTimer = none ↔ t.node.state ≠ .joining) ∧
      (t.fabric.reassertTimer = none ↔ t.node.state ≠ .running) from
    nodeSound_iff.2 ⟨hRest.1, hRest.2.1, hRest.2.2, h.greetTimers hGreet⟩
  have hSet : s.node.state ≠ .configuring → ∀ n : NodeControl, n.ringId = s.node.ringId → n.ringSize = s.node.ringSize →
      n.own = s.node.own → n.ringSound := fun hState n hId hSize hOwn => by
    rcases hRing with ⟨-, -, -, hUnset⟩ | hRange
    · exact absurd hUnset hState
    · unfold NodeControl.ringSound; rw [hId, hSize, hOwn]; exact .inr hRange
  rcases h.node_cases with ⟨hNode, hTimer⟩ | ⟨a, b, c, e, hNode, hFabric⟩ | ⟨hNode, hTimer⟩ | ⟨hNode, hTimer⟩ |
    ⟨hNode, hTimer⟩ | ⟨hState, hNode, hFabric⟩ | ⟨hState, hId, ⟨n, hNode⟩, hFabric⟩ | ⟨hState, hNode, hTimer⟩ |
    ⟨hState, hFabric, ringId, n, own, hFields, hNode⟩
  · rw [hNode]; exact ⟨hRing, hJoin, hTimer.trans hReassert⟩
  · rw [hNode, hFabric]; exact ⟨hRing, hJoin, hReassert⟩
  · rw [hNode, hTimer]
    exact ⟨hRing, (tickTimer_eq_none _).trans hJoin, (tickTimer_eq_none _).trans hReassert⟩
  · rw [hNode, hTimer]; exact ⟨.inl ⟨rfl, rfl, rfl, rfl⟩, by simp [NodeControl.reset], by simp [NodeControl.reset]⟩
  · rw [hNode, hTimer]
    refine ⟨?_, by simp, by simp⟩
    rcases hRing with ⟨hId, hSize, hOwn, -⟩ | hRange
    · exact .inl ⟨hId, hSize, hOwn, rfl⟩
    · exact .inr hRange
  · rw [hNode, hFabric, hReassert, hState]
    exact ⟨hSet (by rw [hState]; decide) _ rfl rfl rfl, by simp, by simp⟩
  · rw [hNode, hFabric, hReassert, hState]
    refine ⟨?_, by simp, by simp⟩
    rcases hRing with ⟨hUnset, -⟩ | hRange
    · exact absurd hUnset hId
    · exact .inr hRange
  · rw [hNode]
    refine ⟨hSet (by rw [hState]; decide) _ rfl rfl rfl, ?_, by simp [hTimer]⟩
    rw [hState] at hJoin
    simpa using hJoin
  · rw [hNode, hFabric]
    exact ⟨.inr (ringFieldsOk_iff.1 hFields), hJoin, hReassert⟩

/-- Settles O10: the ring parameters and the node's timers, by induction over the atoms of a step. -/
theorem stepKeepsNodeAndTimers : Obligations.StepKeepsNodeAndTimers := fun _ _ hs h =>
  step_keeps_atoms (fun _ _ hAtom => hAtom.nodeSound) hs h

/-! ### The bounds of a lane -/

namespace Lane

/-- The part of the bounds that a change of the transmit state alone has to show: what is to be sent is in range, and is there
only while the lane is Up. -/
theorem sound_iff {l : Lane} : l.sound ↔
    (l.goodRun ≤ 8 ∧ l.badRun ≤ 4 ∧ (l.lockWindow = none ↔ l.lock = .hunting) ∧
      (l.lock = .hunting → l.adjacency = .down) ∧ (l.adjTimer = none ↔ l.adjacency = .down)) ∧
    (l.dueReports ≤ 48 ∧ l.queue.length ≤ 16 ∧ rising l.pendingKeys = true ∧ (∀ k ∈ l.pendingKeys, k < 48)) ∧
    (l.adjacency ≠ .up →
      l.pendingKeys = [] ∧ l.queue = [] ∧ l.mapSent = false ∧ l.exchanged = false ∧ l.differs = false) := by
  unfold sound
  constructor
  · rintro ⟨h1, h2, h3, h4, h5, h6, h7, h8, h9, h10⟩
    exact ⟨⟨h1, h2, h7, h8, h9⟩, ⟨h3, h4, h5, h6⟩, h10⟩
  · rintro ⟨⟨h1, h2, h7, h8, h9⟩, ⟨h3, h4, h5, h6⟩, h10⟩
    exact ⟨h1, h2, h3, h4, h5, h6, h7, h8, h9, h10⟩

/-- The runs, the lock and the adjacency of a lane agree. -/
def receiverSound (l : Lane) : Prop :=
  l.goodRun ≤ 8 ∧ l.badRun ≤ 4 ∧ (l.lockWindow = none ↔ l.lock = .hunting) ∧
    (l.lock = .hunting → l.adjacency = .down) ∧ (l.adjTimer = none ↔ l.adjacency = .down)

/-- What a lane has to send is in range. -/
def sendSound (l : Lane) : Prop :=
  l.dueReports ≤ 48 ∧ l.queue.length ≤ 16 ∧ rising l.pendingKeys = true ∧ (∀ k ∈ l.pendingKeys, k < 48)

/-- A lane that is not Up has nothing to send and no exchange (R65). -/
def restSound (l : Lane) : Prop :=
  l.adjacency ≠ .up →
    l.pendingKeys = [] ∧ l.queue = [] ∧ l.mapSent = false ∧ l.exchanged = false ∧ l.differs = false

variable {l : Lane}

theorem sound.receiver (h : l.sound) : l.receiverSound := (sound_iff.1 h).1

theorem sound.send (h : l.sound) : l.sendSound := (sound_iff.1 h).2.1

theorem sound.rest (h : l.sound) : l.restSound := (sound_iff.1 h).2.2

theorem sound_of (hReceiver : l.receiverSound) (hSend : l.sendSound) (hRest : l.restSound) : l.sound :=
  sound_iff.2 ⟨hReceiver, hSend, hRest⟩

/-- A lane that has nothing to send. -/
theorem sendSound_empty {m : Lane} (h : l.sound) (hDue : m.dueReports = l.dueReports) (hKeys : m.pendingKeys = [])
    (hQueue : m.queue = []) : m.sendSound := by
  unfold sendSound
  rw [hDue, hKeys, hQueue]
  exact ⟨h.send.1, Nat.zero_le _, rfl, by simp⟩

/-- Whatever leaves Up leaves nothing to send (R65). -/
theorem sound.fallTo_eq (a : Adjacency) (h : l.sound) : l.fallTo a =
    { l with adjacency := a, pendingKeys := [], queue := [], mapSent := false, exchanged := false, differs := false } := by
  unfold fallTo
  dsimp only
  split
  · rfl
  next hDown =>
    obtain ⟨hKeys, hQueue, hSent, hExchanged, hDiffers⟩ := h.rest hDown
    rw [hKeys, hQueue, hSent, hExchanged, hDiffers]

theorem sound.toDown (h : l.sound) : l.toDown.sound := by
  unfold Lane.toDown
  rw [sound.fallTo_eq _ h]
  obtain ⟨hGood, hBad, hWindow, -, -⟩ := h.receiver
  exact sound_of ⟨hGood, hBad, hWindow, fun _ => rfl, iff_of_true rfl rfl⟩ (sendSound_empty h rfl rfl rfl)
    (fun _ => ⟨rfl, rfl, rfl, rfl, rfl⟩)

theorem sound.loseLock (h : l.sound) : l.loseLock.sound := by
  have hDown := sound.toDown h
  unfold Lane.loseLock
  unfold Lane.toDown at *
  rw [sound.fallTo_eq _ h] at *
  obtain ⟨-, hBad, -, -, -⟩ := h.receiver
  exact sound_of ⟨Nat.zero_le _, hBad, iff_of_true rfl rfl, fun _ => rfl, iff_of_true rfl rfl⟩ hDown.send
    (fun _ => ⟨rfl, rfl, rfl, rfl, rfl⟩)

theorem sound.countGood (h : l.sound) : l.countGood.sound := by
  obtain ⟨hGood, hBad, hWindow, hHunting, hTimer⟩ := h.receiver
  unfold Lane.countGood
  split
  next hLock =>
    split
    next hFew =>
      exact sound_of ⟨le_of_lt hFew, hBad, hWindow, hHunting, hTimer⟩ h.send h.rest
    next =>
      exact sound_of ⟨le_refl 8, Nat.zero_le _, iff_of_false (by simp) (by simp), fun hNot => LockState.noConfusion hNot, hTimer⟩ h.send
        h.rest
  next hLock =>
    exact sound_of ⟨hGood, Nat.zero_le _, iff_of_false (by simp) (by rw [hLock]; simp), hHunting, hTimer⟩ h.send h.rest

theorem sound.countBad (h : l.sound) : l.countBad.sound := by
  obtain ⟨hGood, hBad, hWindow, hHunting, hTimer⟩ := h.receiver
  unfold Lane.countBad
  split
  · exact sound_of ⟨Nat.zero_le _, hBad, hWindow, hHunting, hTimer⟩ h.send h.rest
  · split
    next hFew => exact sound_of ⟨hGood, le_of_lt hFew, hWindow, hHunting, hTimer⟩ h.send h.rest
    next => exact sound.loseLock (sound_of ⟨hGood, le_refl 4, hWindow, hHunting, hTimer⟩ h.send h.rest)

theorem sound.tick (h : l.sound) : l.tick.sound := by
  obtain ⟨hGood, hBad, hWindow, hHunting, hTimer⟩ := h.receiver
  exact sound_of ⟨hGood, hBad, (tickTimer_eq_none _).trans hWindow, hHunting, (tickTimer_eq_none _).trans hTimer⟩ h.send
    h.rest

theorem sound.newRing (wasUnset : Bool) (h : l.sound) : (l.newRing wasUnset).sound := by
  obtain ⟨hGood, hBad, hWindow, -, -⟩ := h.receiver
  exact sound_of ⟨hGood, hBad, hWindow, fun _ => rfl, iff_of_true rfl rfl⟩ (sendSound_empty h rfl rfl rfl)
    (fun _ => ⟨rfl, rfl, rfl, rfl, rfl⟩)

/-- A comparison is made on a lane that is Up. -/
theorem sound.compared (digest : BitVec 32) (h : l.sound) : (l.compared digest).sound := by
  refine sound_of h.receiver h.send fun hDown => ?_
  obtain ⟨hKeys, hQueue, hSent, hExchanged, hDiffers⟩ := h.rest hDown
  exact ⟨hKeys, hQueue, hSent, hExchanged, (l.comparedWith_of_not_up digest hDown).trans hDiffers⟩

theorem sound_reset : Lane.reset.sound :=
  sound_of ⟨Nat.zero_le _, Nat.zero_le _, iff_of_true rfl rfl, fun _ => rfl, iff_of_true rfl rfl⟩
    ⟨Nat.zero_le _, Nat.zero_le _, rfl, by simp [Lane.reset]⟩ (fun _ => ⟨rfl, rfl, rfl, rfl, rfl⟩)

theorem sound_softReset (ringId : Nat) : (l.softReset ringId).sound := sound_reset

/-- A lane whose pending set or queue is written while it is Up. -/
theorem sound.sending {keys : List Nat} {queue : List PathConfirm} (h : l.sound) (hUp : l.adjacency = .up)
    (hQueue : queue.length ≤ 16) (hRising : rising keys = true) (hKeys : ∀ k ∈ keys, k < 48) :
    Lane.sound { l with pendingKeys := keys, queue := queue } :=
  sound_of h.receiver ⟨h.send.1, hQueue, hRising, hKeys⟩ (fun hDown => absurd hUp hDown)

theorem sound.mark {key : Nat} (h : l.sound) (hUp : l.adjacency = .up) (hKey : key < 48) :
    Lane.sound { l with pendingKeys := setInsert l.pendingKeys key } := by
  obtain ⟨-, hQueue, hRising, hKeys⟩ := h.send
  refine sound.sending h hUp hQueue (setInsert_rising _ hRising) fun k hk => ?_
  rcases (mem_setInsert _ _ _).1 hk with rfl | hk
  · exact hKey
  · exact hKeys k hk

theorem sound.greeted (g : Greeting) (h : l.sound) (hDown : l.adjacency ≠ .down) : (l.greeted g).sound := by
  obtain ⟨hGood, hBad, hWindow, hHunting, -⟩ := h.receiver
  exact sound_of ⟨hGood, hBad, hWindow, hHunting, iff_of_false (by simp [Lane.greeted]) hDown⟩ h.send h.rest

/-- A lane that is greeted and moves to an adjacency that is neither Down nor Up. -/
theorem sound.greeted_to {g : Greeting} {a : Adjacency} {m : Lane} (h : l.sound) (hLock : l.lock = .locked)
    (hm : m = { l with
      adjTimer := some Config.adjacencyTime, neighbour := some g, adjacency := a, pendingKeys := [], queue := [],
      mapSent := false, exchanged := false, differs := false }) (ha : a ≠ .down) : m.sound := by
  subst hm
  obtain ⟨hGood, hBad, hWindow, -, -⟩ := h.receiver
  exact sound_of ⟨hGood, hBad, hWindow, fun hHunting => LockState.noConfusion (hLock.symm.trans hHunting),
    iff_of_false (by simp) ha⟩ (sendSound_empty h rfl rfl rfl) (fun _ => ⟨rfl, rfl, rfl, rfl, rfl⟩)

end Lane

/-! ### The transmitter -/

/-- The pending keys from the lowest known one on are the last of the pending keys. -/
theorem fromKnown_suffix (u : State) (keys : List Nat) : u.fromKnown keys <:+ keys := by
  induction keys with
  | nil => exact List.suffix_refl _
  | cons k keys ih =>
    unfold State.fromKnown
    split
    · exact ih.trans (List.suffix_cons k keys)
    · exact List.suffix_refl _

theorem rising_suffix {l m : List Nat} (h : l <:+ m) (hm : rising m = true) : rising l = true :=
  (rising_iff _).2 (((rising_iff _).1 hm).sublist h.sublist)

namespace Lane

variable {l : Lane}

theorem sound.leaveKeys {keys : List Nat} (h : l.sound) (hKeys : keys <:+ l.pendingKeys) : (l.leaveKeys keys).sound := by
  obtain ⟨hDue, hQueue, hRising, hBelow⟩ := h.send
  refine sound_of h.receiver ⟨hDue, hQueue, rising_suffix hKeys hRising, fun k hk => hBelow k (hKeys.mem hk)⟩ fun hDown => ?_
  obtain ⟨hNone, hEmpty, hSent, hExchanged, hDiffers⟩ := h.rest hDown
  refine ⟨List.suffix_nil.1 (hNone ▸ hKeys), hEmpty, ?_, hExchanged, hDiffers⟩
  have hNotUp : decide (l.adjacency = .up) = false := decide_eq_false hDown
  simp [Lane.leaveKeys, hSent, hNotUp]

theorem sound.sendGreeting (frame : List Byte) (h : l.sound) : (l.sendGreeting frame).sound := by
  obtain ⟨-, hQueue, hRising, hBelow⟩ := h.send
  exact sound_of h.receiver ⟨Nat.zero_le _, hQueue, hRising, hBelow⟩ h.rest

theorem sound.sendRest (frame : List Byte) (h : l.sound) : (l.sendRest frame).sound := by
  unfold Lane.sendRest
  split
  · exact sound.sendGreeting frame h
  · obtain ⟨hDue, hQueue, hRising, hBelow⟩ := h.send
    split
    next p rest hHead =>
      rw [hHead] at hQueue
      refine sound_of h.receiver ⟨hDue, Nat.le_of_succ_le hQueue, hRising, hBelow⟩ fun hDown => ?_
      obtain ⟨-, hEmpty, -⟩ := h.rest hDown
      rw [hHead] at hEmpty
      cases hEmpty
    next => exact sound_of h.receiver ⟨hDue, hQueue, hRising, hBelow⟩ h.rest

end Lane

theorem sound_slotLane {u : State} {d : Side} (h : (u.lane d).sound) : (u.slotLane d).sound := by
  have hKnown := fromKnown_suffix u (u.lane d).pendingKeys
  unfold State.slotLane
  dsimp only
  split
  · exact Lane.sound_of h.receiver h.send h.rest
  · split
    · exact Lane.sound.sendGreeting _ h
    next hFew =>
      split
      next k rest hHead =>
        have hRest := Lane.sound.leaveKeys h ((List.suffix_cons k rest).trans (hHead ▸ hKnown))
        split
        · obtain ⟨hDue, hQueue, hRising, hBelow⟩ := hRest.send
          refine Lane.sound_of hRest.receiver ⟨?_, hQueue, hRising, hBelow⟩ hRest.rest
          dsimp only
          split
          next hGreet => exact Nat.succ_le_of_lt (Nat.lt_of_not_le fun hMany => hFew ⟨hGreet, hMany⟩)
          next => exact hDue
        · exact Lane.sound.sendRest _ hRest
      next => exact Lane.sound.sendRest _ (Lane.sound.leaveKeys h (List.nil_suffix))

/-! ### Every write of a lane -/

theorem keyOf_lt {span n : Nat} (e : SpanEnd) (hSpan : span < n) (hn : n ≤ 24) : keyOf span e < 48 := by
  cases e <;> simp only [keyOf] <;> omega

theorem ownKey_lt {n own : Nat} (o : Side) (hOwn : own < n) (hn : n ≤ 24) : ownKey n own o < 48 := by
  cases o with
  | east => exact keyOf_lt .lower hOwn hn
  | west => exact keyOf_lt .upper (Nat.mod_lt _ (by omega)) hn

theorem sound_correctGreeting {d : Side} {g : Greeting} (hSize : s.node.ringSize ≤ 24) (hLock : (s.lane d).lock = .locked)
    (h : (s.lane d).sound) : ((correctGreeting d g s).lane d).sound := by
  rw [lane_correctGreeting]
  obtain ⟨hGood, hBad, hWindow, -, -⟩ := h.receiver
  have hNotHunting : ∀ {a : Adjacency}, (s.lane d).lock = .hunting → a = .down := fun hHunting =>
    LockState.noConfusion (hLock.symm.trans hHunting)
  cases hAdjacency : (s.lane d).adjacency with
  | down | mismatched =>
    obtain ⟨hKeys, hQueue, hSent, hExchanged, hDiffers⟩ := h.rest (by rw [hAdjacency]; decide)
    refine h.greeted_to (g := g) (a := .heard) hLock ?_ (by decide)
    rw [← hKeys, ← hQueue]
    simp only [Lane.greeted, hSent, hExchanged, hDiffers]
  | heard =>
    dsimp only
    have hGreeted := h.greeted g (by rw [hAdjacency]; decide)
    split
    · refine Lane.sound.compared _ (Lane.sound_of ⟨hGood, hBad, hWindow, hNotHunting, iff_of_false (by simp [Lane.greeted])
        (by simp)⟩ ⟨h.send.1, h.send.2.1, (rising_iff _).2 List.pairwise_lt_range, fun k hk => ?_⟩ fun hNot => absurd rfl hNot)
      have hLt : k < 2 * s.node.ringSize := List.mem_range.1 hk
      omega
    · exact hGreeted
  | up =>
    dsimp only
    have hGreeted := h.greeted g (by rw [hAdjacency]; decide)
    split
    · exact Lane.sound.compared _ (Lane.sound_of hGreeted.receiver hGreeted.send fun hNot => absurd hAdjacency hNot)
    · exact h.greeted_to (g := g) (a := .heard) hLock (by rw [hGreeted.fallTo_eq]; rfl) (by decide)

theorem sound_incorrectGreeting {d : Side} {g : Greeting} (hLock : (s.lane d).lock = .locked) (h : (s.lane d).sound) :
    ((incorrectGreeting d g s).lane d).sound := by
  rw [lane_incorrectGreeting]
  refine h.greeted_to (g := g) (a := .mismatched) hLock ?_ (by decide)
  unfold Lane.fallTo
  dsimp only
  split
  · rfl
  next hDown =>
    obtain ⟨hKeys, hQueue, hSent, hExchanged, hDiffers⟩ := h.rest hDown
    simp only [Lane.greeted, hKeys, hQueue, hSent, hExchanged, hDiffers]

theorem LaneWrite.sound {d : Side} {l : Lane} (h : LaneWrite s d l) (hNode : NodeSound s) (hs : (s.lane d).sound) :
    l.sound := by
  cases h with
  | mark span e hUp hSpan => exact hs.mark hUp (keyOf_lt e hSpan hNode.ringSize_le)
  | markOwn o hUp hRing => exact hs.mark hUp (ownKey_lt o (hNode.own_lt hRing) hNode.ringSize_le)
  | countGood => exact hs.countGood
  | countBad => exact hs.countBad
  | loseLock => exact hs.loseLock
  | toDown => exact hs.toDown
  | greetingDue hTimer => exact Lane.sound_of hs.receiver hs.send hs.rest
  | slot u hLane => exact sound_slotLane (hLane ▸ hs)
  | correct g hLock => exact sound_correctGreeting hNode.ringSize_le hLock hs
  | incorrect g hLock => exact sound_incorrectGreeting hLock hs

/-- Every atom keeps the bounds of the lanes, where Node Control is sound. -/
theorem Atom.lanesSound (h : Atom w s t) (hNode : NodeSound s) (hs : ∀ d, (s.lane d).sound) (d : Side) :
    (t.lane d).sound := by
  have hFate := h.laneFate d
  have hd := hs d
  generalize t.lane d = l at hFate ⊢
  cases hFate with
  | same => exact hd
  | written l hWrite => exact hWrite.sound hNode hd
  | compared digest => exact hd.compared digest
  | ticked => exact hd.tick
  | fullReset => exact Lane.sound_reset
  | softReset => exact Lane.sound_softReset _
  | newRing hState => exact hd.newRing _
  | queued q hQueue =>
    obtain ⟨hDue, hLength, hRising, hBelow⟩ := hd.send
    rcases hQueue with rfl | ⟨hUp, hRoom⟩
    · exact hd
    · exact Lane.sound.sending hd hUp (hRoom hLength) hRising hBelow

/-- Settles O8: the bounds of the lanes, by induction over the atoms of a step, under the invariant of Node Control. -/
theorem stepKeepsLanes : Obligations.StepKeepsLanes := fun _ _ hNode hs h =>
  step_keeps_atoms_under (fun _ _ hAtom => hAtom.nodeSound) (fun _ _ hAtom => hAtom.lanesSound) hNode hs h

end Sys2Proof.Machine
end

section
/-!
PROOFS. The laws of the Record Store that hold between the writes of one event: the Label Index (O13), Active records apart (O14),
record codes and digest comparisons (part of O15).
-/

namespace Sys2Proof.Machine

variable {w : Region → Prop} {s t : State}

/-! ### Codes -/

theorem inUse_iff {h : Nat} : s.inUse h ↔ (s.record h).lifecycle ≠ .free := Iff.rfl

/-- The law of codes for one record. -/
def Record.codeSound (r : Record) (h : Nat) : Prop :=
  (r.lifecycle = .free → r = Record.free) ∧ (r.lifecycle ≠ .free → r.code = recordCode h r.plan)

theorem Record.codeSound_free (h : Nat) : Record.free.codeSound h := ⟨fun _ => rfl, fun hNot => absurd rfl hNot⟩

/-- A change that leaves lifecycle, code and planning fields, and a Free record as it is. -/
theorem Record.codeSound_of {r q : Record} {h : Nat} (hLife : q.lifecycle = r.lifecycle) (hCode : q.code = r.code)
    (hPlan : q.plan = r.plan) (hFree : r = Record.free → q = Record.free) (hs : r.codeSound h) : q.codeSound h := by
  unfold codeSound
  rw [hLife, hCode, hPlan]
  exact ⟨fun hl => hFree (hs.1 hl), hs.2⟩

theorem RecordFate.codeSound {h : Nat} {r : Record} (hFate : RecordFate w s h r)
    (hTable : Table.wf Record.free s.store.records = true) (hs : (s.record h).codeSound h) : r.codeSound h := by
  cases hFate with
  | same => exact hs
  | ticked => exact Record.codeSound_of (r := s.record h) rfl rfl rfl (fun hFree => by rw [hFree]; rfl) hs
  | timer => exact Record.codeSound_of (r := s.record h) rfl rfl rfl (fun hFree => by rw [hFree]; rfl) hs
  | reset => exact Record.codeSound_of (r := s.record h) rfl rfl rfl (fun hFree => by rw [hFree]; rfl) hs
  | freed => exact Record.codeSound_free h
  | dynamic r hListed hr =>
    exact Record.codeSound_of (by rw [hr]) (by rw [hr]) (by rw [hr])
      (fun hFree => absurd hFree ((mem_handles_iff hTable).1 hListed)) hs
  | written r hWrite =>
    cases hWrite with
    | active hDigest hStaged => exact ⟨fun hNot => Lifecycle.noConfusion hNot, fun _ => hs.2 (by rw [hStaged]; decide)⟩
    | retiring hActive => exact ⟨fun hNot => Lifecycle.noConfusion hNot, fun _ => hs.2 (by rw [hActive]; decide)⟩
    | port p hActive =>
      exact ⟨fun hNot => absurd (hActive.symm.trans hNot) (by decide), fun _ => hs.2 (by rw [hActive]; decide)⟩
    | planning hDigest i p hPlan hActive => exact ⟨fun hNot => absurd (hActive.symm.trans hNot) (by decide), fun _ => rfl⟩
  | staged i p hPlan hRange hCheck => exact ⟨fun hNot => Lifecycle.noConfusion hNot, fun _ => rfl⟩

theorem Atom.codesSound (h : Atom w s t) (hTables : TablesCanonical s) (hs : CodesSound s) : CodesSound t := fun k =>
  (h.recordFate hTables.1 k).codeSound hTables.1 (hs k)

/-! ### Active records apart -/

theorem arcsShare_comm (a b : List Nat) : arcsShare a b = arcsShare b a := by
  have hIff : ∀ a b, arcsShare a b = true ↔ ∃ k, k ∈ a ∧ k ∈ b := by
    intro a b; simp [arcsShare]
  rw [Bool.eq_iff_iff, hIff, hIff]
  exact exists_congr fun k => And.comm

theorem slotClash_comm (n : Nat) (p q : Planning) : slotClash n p q = slotClash n q p := by
  unfold slotClash
  rw [arcsShare_comm, Bool.beq_comm, decide_eq_decide.2 (eq_comm (a := p.workSlot) (b := q.workSlot))]

/-- The slot rule hangs on the kind, the slot, the ends and the direction alone. -/
theorem slotClash_of_same {n : Nat} {p p' q : Planning} (hKind : p'.kind = p.kind) (hSlot : p'.workSlot = p.workSlot)
    (hArc : p'.workingArc n = p.workingArc n) : slotClash n p' q = slotClash n p q := by
  unfold slotClash
  rw [hKind, hSlot, hArc]

/-- Records that are Active after were Active before, with the same fields of R12. -/
theorem activeSound_of (hSize : t.node.ringSize = s.node.ringSize)
    (hRecord : ∀ h, (t.record h).lifecycle = .active →
      (s.record h).lifecycle = .active ∧ (t.record h).plan = (s.record h).plan ∧ (t.record h).port = (s.record h).port)
    (hs : ActiveSound s) : ActiveSound t := fun h k hNe hh hk => by
  obtain ⟨hh', hPlan, hPort⟩ := hRecord h hh
  obtain ⟨hk', hPlan', hPort'⟩ := hRecord k hk
  rw [hSize, hPlan, hPlan', hPort, hPort']
  exact hs h k hNe hh' hk'

/-- One record is written; where it is Active it is apart from every other Active record. -/
theorem activeSound_setRec {h : Nat} {r : Record}
    (hApart : r.lifecycle = .active → ∀ k, k ≠ h → (s.record k).lifecycle = .active →
      slotClash s.node.ringSize (s.record k).plan r.plan = false ∧ (r.port = none ∨ (s.record k).port ≠ r.port))
    (hs : ActiveSound s) : ActiveSound (s.setRec h r) := fun i j hNe hi hj => by
  show slotClash s.node.ringSize _ _ = false ∧ _
  rw [record_setRec] at hi hj
  simp only [record_setRec]
  by_cases hih : i = h
  · rw [if_pos hih] at hi ⊢
    have hjh : j ≠ h := fun hjh => hNe (hih.trans hjh.symm)
    rw [if_neg hjh] at hj ⊢
    obtain ⟨hSlot, hPort⟩ := hApart hi j hjh hj
    rw [slotClash_comm]
    exact ⟨hSlot, hPort.imp_right Ne.symm⟩
  · rw [if_neg hih] at hi ⊢
    by_cases hjh : j = h
    · rw [if_pos hjh] at hj ⊢
      obtain ⟨hSlot, hPort⟩ := hApart hj i hih hi
      refine ⟨hSlot, ?_⟩
      by_cases hNone : (s.record i).port = none
      · exact .inl hNone
      · rcases hPort with hNo | hNe
        · rw [hNo]; exact .inr hNone
        · exact .inr hNe
    · rw [if_neg hjh] at hj ⊢
      exact hs i j hNe hi hj

theorem RecordWrite.activeSound {h : Nat} {r : Record} (hWrite : RecordWrite w s h r) (hs : ActiveSound s) :
    ActiveSound (s.setRec h r) := by
  refine activeSound_setRec (fun hActive k hk hActive' => ?_) hs
  cases hWrite with
  | active hDigest hStaged hApart => exact hApart k hk hActive'
  | retiring hWas => cases hActive
  | port p hWas hApart => exact ⟨(hs k h hk hActive' hWas).1, hApart k hk hActive'⟩
  | planning hDigest i p hPlan hWas hSame =>
    obtain ⟨hSlot, hPort⟩ := hs h k (Ne.symm hk) hWas hActive'
    refine ⟨?_, hPort.imp_right Ne.symm⟩
    rw [slotClash_comm, hSame]
    exact hSlot

/-- An atom that leaves lifecycle, planning fields and port of the Active records. -/
theorem Atom.activeSound (h : Atom w s t) (hTables : TablesCanonical s) (hs : ActiveSound s) : ActiveSound t := by
  have hRecords := hTables.1
  have hEach : t.node.ringSize = s.node.ringSize → (∀ k, ∃ r, t.record k = r ∧ (r.lifecycle = .active →
      (s.record k).lifecycle = .active ∧ r.plan = (s.record k).plan ∧ r.port = (s.record k).port)) → ActiveSound t := by
    intro hSize hRecord
    refine activeSound_of hSize (fun k hk => ?_) hs
    obtain ⟨r, hr, hKeeps⟩ := hRecord k
    rw [hr] at hk ⊢
    exact hKeeps hk
  have hKept : ∀ {r q : Record}, q.lifecycle = r.lifecycle → q.plan = r.plan → q.port = r.port → q.lifecycle = .active →
      r.lifecycle = .active ∧ q.plan = r.plan ∧ q.port = r.port := fun hl hp hq hActive => ⟨hl ▸ hActive, hp, hq⟩
  cases h with
  | ticked => exact hEach rfl fun k => ⟨_, record_tick hRecords k, hKept rfl rfl rfl⟩
  | timersStopped => exact hEach rfl fun k => ⟨_, record_stopConfirmTimers hRecords k, hKept rfl rfl rfl⟩
  | fullReset =>
    intro i j hNe hi
    rw [record_fullReset] at hi
    cases hi
  | softReset => exact hEach rfl fun k => ⟨_, record_softReset hRecords k, hKept rfl rfl rfl⟩
  | newRing hLine hExchange ringId n own hState hFields hApart =>
    exact fun i j hNe hi hj => ⟨hApart i j hNe hi hj, (hs i j hNe hi hj).2⟩
  | dyn v hStep =>
    exact hEach (by rw [hStep.node]) fun k => ⟨_, rfl, hKept (hStep.lifecycle k) (hStep.plan k) (hStep.recPort k)⟩
  | record h r hWrite => exact hWrite.activeSound hs
  | stage h i p hPlan hRange hCheck =>
    refine hEach (by rw [stageFields_eq]) fun k => ⟨_, record_stageFields h k p _ s, fun hActive => ?_⟩
    split at hActive
    · cases hActive
    next hk => rw [if_neg hk]; exact ⟨hActive, rfl, rfl⟩
  | free h =>
    refine hEach rfl fun k => ⟨_, record_freeRecord h k s, fun hActive => ?_⟩
    split at hActive
    · cases hActive
    next hk => rw [if_neg hk]; exact ⟨hActive, rfl, rfl⟩
  | mon hLine d m => exact hEach (by rw [State.setMon_node]) fun k => ⟨s.record k, by cases d <;> rfl, hKept rfl rfl rfl⟩
  | lane d l => exact hEach (by rw [State.setLane_node]) fun k => ⟨s.record k, by cases d <;> rfl, hKept rfl rfl rfl⟩
  | digest hDigest v => exact hEach (by rw [setDigest_eq]) fun k => ⟨_, record_setDigest v s k, hKept rfl rfl rfl⟩
  | _ => exact hEach rfl fun k => ⟨s.record k, rfl, hKept rfl rfl rfl⟩

/-- Settles O14: each record is made Active, and each port of an Active record is written, after the checks of R12 and R14. -/
theorem stepKeepsActiveApart : Obligations.StepKeepsActiveApart := fun _ _ hTables hs h =>
  step_keeps_atoms_under (fun _ _ hAtom => hAtom.tablesCanonical) (fun _ _ hAtom => hAtom.activeSound) hTables hs h

/-! ### The Label Index -/

theorem mem_setErase (l : List Nat) (k a : Nat) : a ∈ setErase l k ↔ a ∈ l ∧ a ≠ k := by
  simp [setErase]

theorem bucket_joinBucket (c h b : Nat) (s : State) :
    (joinBucket c h s).bucket b = if b = bucketOf c then setInsert (s.bucket b) h else s.bucket b := by
  rw [joinBucket, bucket_setBucket]
  split
  next hb => rw [hb]
  next => rfl

theorem bucket_leaveBucket (c h b : Nat) (s : State) :
    (leaveBucket c h s).bucket b = if b = bucketOf c then setErase (s.bucket b) h else s.bucket b := by
  rw [leaveBucket, bucket_setBucket]
  split
  next hb => rw [hb]
  next => rfl

theorem bucket_of_labelIndex {u v : State} (h : u.store.labelIndex = v.store.labelIndex) (b : Nat) :
    u.bucket b = v.bucket b := by rw [State.bucket, State.bucket, h]

/-- The law of the Label Index hangs on the buckets and on the lifecycle and circuit number of each record. -/
theorem labelsSound_of (hIndex : t.store.labelIndex = s.store.labelIndex)
    (hRecord : ∀ h, ((t.record h).lifecycle = .free ↔ (s.record h).lifecycle = .free) ∧
      (t.record h).plan.circuit = (s.record h).plan.circuit) (hs : LabelsSound s) : LabelsSound t := by
  have hUse : ∀ h, t.inUse h ↔ s.inUse h := fun h => not_congr (hRecord h).1
  obtain ⟨hRising, hMem, hApart⟩ := hs
  refine ⟨fun b => ?_, fun b h => ?_, fun h k hNe hh hk => ?_⟩
  · rw [bucket_of_labelIndex hIndex]; exact hRising b
  · rw [bucket_of_labelIndex hIndex, hUse, (hRecord h).2]; exact hMem b h
  · rw [(hRecord h).2, (hRecord k).2]; exact hApart h k hNe ((hUse h).1 hh) ((hUse k).1 hk)

/-- A record that becomes Free leaves its bucket (R17). -/
theorem labelsSound_freeRecord (h : Nat) (hs : LabelsSound s) : LabelsSound (freeRecord h s) := by
  obtain ⟨hRising, hMem, hApart⟩ := hs
  have hBucket : ∀ b, (freeRecord h s).bucket b = if b = bucketOf (s.record h).plan.circuit then
      setErase (s.bucket b) h else s.bucket b := fun b => bucket_leaveBucket _ h b s
  have hUse : ∀ k, (freeRecord h s).inUse k ↔ k ≠ h ∧ s.inUse k := fun k => by
    rw [inUse_iff, record_freeRecord]
    split
    next hk => exact iff_of_false (fun hNot => hNot rfl) (fun hNot => hNot.1 hk)
    next hk => exact (and_iff_right hk).symm
  have hRecord : ∀ k, k ≠ h → (freeRecord h s).record k = s.record k := fun k hk => by
    rw [record_freeRecord, if_neg hk]
  refine ⟨fun b => ?_, fun b k => ?_, fun j k hNe hj hk => ?_⟩
  · rw [hBucket]
    split
    · exact setErase_rising _ (hRising b)
    · exact hRising b
  · rw [hBucket, hUse]
    by_cases hk : k = h
    · subst hk
      refine iff_of_false (fun hIn => ?_) (fun hNot => hNot.1.1 rfl)
      split at hIn
      · exact ((mem_setErase _ _ _).1 hIn).2 rfl
      next hb => exact hb ((hMem b k).1 hIn).2.symm
    · rw [hRecord k hk]
      have hStays : (k ∈ if b = bucketOf (s.record h).plan.circuit then setErase (s.bucket b) h else s.bucket b) ↔
          k ∈ s.bucket b := by
        split
        · rw [mem_setErase]; exact and_iff_left hk
        · exact Iff.rfl
      rw [hStays, hMem]
      exact and_congr_left fun _ => (and_iff_right hk).symm
  · obtain ⟨hjh, hj⟩ := (hUse j).1 hj
    obtain ⟨hkh, hk⟩ := (hUse k).1 hk
    rw [hRecord j hjh, hRecord k hkh]
    exact hApart j k hNe hj hk

/-- The buckets before the handle joins that of its new circuit number: a Staged record has left its old one (R10, R17). -/
def bucketsLeft (h : Nat) (p : Planning) (s : State) : State :=
  if (s.record h).lifecycle = .free then s
  else if (s.record h).plan.circuit = p.circuit then s else leaveBucket (s.record h).plan.circuit h s

theorem bucket_stageFields (h : Nat) (p : Planning) (port : Option Byte) (b : Nat) (s : State) :
    (stageFields h p port s).bucket b =
      if b = bucketOf p.circuit then setInsert ((bucketsLeft h p s).bucket b) h else (bucketsLeft h p s).bucket b :=
  bucket_joinBucket p.circuit h b (bucketsLeft h p s)

/-- A record that is staged stands in the bucket of its circuit number alone (R9, R10, R17). -/
theorem labelsSound_stageFields {h : Nat} {p : Planning} {port : Option Byte}
    (hHolder : s.labelHolder h p.circuit = none) (hs : LabelsSound s) : LabelsSound (stageFields h p port s) := by
  obtain ⟨hRising, hMem, hApart⟩ := hs
  have hOther := labelHolder_eq_none.1 hHolder
  have hLeft : ∀ b, rising ((bucketsLeft h p s).bucket b) = true ∧
      (h ∈ (bucketsLeft h p s).bucket b → b = bucketOf p.circuit) ∧
      ∀ k, k ≠ h → (k ∈ (bucketsLeft h p s).bucket b ↔ k ∈ s.bucket b) := fun b => by
    unfold bucketsLeft
    split
    next hFree => exact ⟨hRising b, fun hIn => absurd hFree ((hMem b h).1 hIn).1, fun _ _ => Iff.rfl⟩
    next =>
      split
      next hSame => exact ⟨hRising b, fun hIn => by rw [← hSame]; exact ((hMem b h).1 hIn).2.symm, fun _ _ => Iff.rfl⟩
      next =>
        rw [bucket_leaveBucket]
        split
        · exact ⟨setErase_rising _ (hRising b), fun hIn => absurd rfl ((mem_setErase _ _ _).1 hIn).2,
            fun k hk => by rw [mem_setErase]; exact and_iff_left hk⟩
        next hb => exact ⟨hRising b, fun hIn => absurd ((hMem b h).1 hIn).2.symm hb, fun _ _ => Iff.rfl⟩
  have hNew : (stageFields h p port s).record h = (s.record h).staged h p port := by rw [record_stageFields, if_pos rfl]
  have hOld : ∀ k, k ≠ h → (stageFields h p port s).record k = s.record k := fun k hk => by
    rw [record_stageFields, if_neg hk]
  refine ⟨fun b => ?_, fun b k => ?_, fun j k hNe hj hk => ?_⟩
  · rw [bucket_stageFields]
    split
    · exact setInsert_rising _ (hLeft b).1
    · exact (hLeft b).1
  · have hJoined : k ∈ (stageFields h p port s).bucket b ↔
        (b = bucketOf p.circuit ∧ k = h) ∨ k ∈ (bucketsLeft h p s).bucket b := by
      rw [bucket_stageFields]
      split
      next hb => rw [mem_setInsert]; simp [hb]
      next hb => simp [hb]
    rw [hJoined, inUse_iff]
    by_cases hk : k = h
    · subst hk
      rw [hNew]
      refine ⟨fun hIn => ⟨by simp [Record.staged], ?_⟩, fun hIn => .inl ⟨hIn.2.symm, rfl⟩⟩
      exact hIn.elim (fun hb => hb.1.symm) fun hb => ((hLeft b).2.1 hb).symm
    · rw [hOld k hk, ← inUse_iff, ← hMem, (hLeft b).2.2 k hk]
      simp [hk]
  · by_cases hjh : j = h
    · subst hjh
      rw [hNew, hOld k (Ne.symm hNe)]
      rw [inUse_iff, hOld k (Ne.symm hNe)] at hk
      exact Ne.symm (hOther k (Ne.symm hNe) hk)
    · rw [inUse_iff, hOld j hjh] at hj
      rw [hOld j hjh]
      by_cases hkh : k = h
      · subst hkh
        rw [hNew]
        exact hOther j hjh hj
      · rw [inUse_iff, hOld k hkh] at hk
        rw [hOld k hkh]
        exact hApart j k hNe hj hk

theorem Atom.labelsSound (h : Atom w s t) (hTables : TablesCanonical s) (hs : LabelsSound s) : LabelsSound t := by
  have hRecords := hTables.1
  have hKept : ∀ {q r : Record}, q.lifecycle = r.lifecycle → q.plan.circuit = r.plan.circuit →
      (q.lifecycle = .free ↔ r.lifecycle = .free) ∧ q.plan.circuit = r.plan.circuit := fun hl hp => ⟨by rw [hl], hp⟩
  cases h with
  | ticked => exact labelsSound_of (s := s) rfl (fun k => record_tick hRecords k ▸ hKept rfl rfl) hs
  | timersStopped => exact labelsSound_of (s := s) rfl (fun k => record_stopConfirmTimers hRecords k ▸ hKept rfl rfl) hs
  | fullReset =>
    have hIndex : ∀ b, (Machine.fullReset s).bucket b = [] := fun b => rfl
    have hUse : ∀ k, ¬ (Machine.fullReset s).inUse k := fun k hk => hk (by rw [record_fullReset]; rfl)
    exact ⟨fun b => by rw [hIndex]; rfl, fun b k => by rw [hIndex]; simp [hUse], fun j k hNe hj => absurd hj (hUse j)⟩
  | softReset => exact labelsSound_of (s := s) rfl (fun k => record_softReset hRecords k ▸ hKept rfl rfl) hs
  | dyn v hStep => exact labelsSound_of hStep.labelIndex (fun k => hKept (hStep.lifecycle k) (by rw [hStep.plan])) hs
  | record h r hWrite =>
    refine labelsSound_of (s := s) rfl (fun k => ?_) hs
    rw [record_setRec]
    split
    next hk =>
      subst hk
      cases hWrite with
      | active hDigest hStaged => exact ⟨by simp [hStaged], rfl⟩
      | retiring hActive => exact ⟨by simp [hActive], rfl⟩
      | port p hActive => exact ⟨Iff.rfl, rfl⟩
      | planning hDigest i p hPlan hActive hSame => exact ⟨Iff.rfl, by rw [hSame]⟩
    next => exact hKept rfl rfl
  | stage h i p hPlan hRange hCheck =>
    obtain ⟨-, q, hq, hHolder⟩ := stageCheck_pass_iff.1 hCheck
    obtain rfl : p = q := Option.some.inj (hPlan.symm.trans hq)
    exact labelsSound_stageFields hHolder hs
  | free h => exact labelsSound_freeRecord h hs
  | mon hLine d m => cases d <;> exact labelsSound_of (s := s) rfl (fun k => hKept rfl rfl) hs
  | lane d l => cases d <;> exact labelsSound_of (s := s) rfl (fun k => hKept rfl rfl) hs
  | digest hDigest v =>
    exact labelsSound_of (by rw [setDigest_eq]) (fun k => record_setDigest v s k ▸ hKept rfl rfl) hs
  | _ => exact labelsSound_of (s := s) rfl (fun k => hKept rfl rfl) hs

/-- Settles O13: a handle joins and leaves buckets with the circuit number of its record, by induction over the atoms of a
step. -/
theorem stepKeepsLabels : Obligations.StepKeepsLabels := fun _ _ hTables hs h =>
  step_keeps_atoms_under (fun _ _ hAtom => hAtom.tablesCanonical) (fun _ _ hAtom => hAtom.labelsSound) hTables hs h

/-! ### Digest comparisons -/

/-- The law of the comparison of one lane with a digest (R66). -/
def Lane.comparedSound (l : Lane) (digest : BitVec 32) : Prop :=
  l.differs = true ↔ l.adjacency = .up ∧ ∃ g, l.neighbour = some g ∧ g.digest ≠ digest

namespace Lane

variable {l : Lane} {digest : BitVec 32}

theorem comparedSound_of {m : Lane} (hDiffers : m.differs = l.differs) (hAdjacency : m.adjacency = l.adjacency)
    (hNeighbour : m.neighbour = l.neighbour) (h : l.comparedSound digest) : m.comparedSound digest := by
  unfold comparedSound
  rw [hDiffers, hAdjacency, hNeighbour]
  exact h

/-- A lane that is not Up reads Same. -/
theorem comparedSound_same {m : Lane} (hDiffers : m.differs = false) (hDown : m.adjacency ≠ .up) :
    m.comparedSound digest := iff_of_false (by rw [hDiffers]; decide) fun hNot => hDown hNot.1

theorem comparedSound.differs_eq_false (h : l.comparedSound digest)
    (hNot : l.adjacency ≠ .up ∨ l.neighbour = none) : l.differs = false := by
  by_contra hDiffers
  obtain ⟨hUp, g, hg, -⟩ := h.1 (by simpa using hDiffers)
  rcases hNot with hDown | hNone
  · exact hDown hUp
  · rw [hNone] at hg; cases hg

/-- A comparison makes the law hold for the new digest, where the lane reads Same unless it is Up with a neighbour. -/
theorem comparedSound_compared (v : BitVec 32) (h : l.adjacency ≠ .up ∨ l.neighbour = none → l.differs = false) :
    (l.compared v).comparedSound v := by
  by_cases hUp : l.adjacency = .up
  · cases hNeighbour : l.neighbour with
    | none =>
      have hSame : (l.compared v).differs = false := (l.comparedWith_of_none v hNeighbour).trans (h (.inr hNeighbour))
      refine iff_of_false (by rw [hSame]; decide) ?_
      rintro ⟨-, g, hg, -⟩
      exact absurd (hNeighbour.symm.trans hg) (by simp)
    | some g =>
      have hNow : (l.compared v).differs = decide (g.digest ≠ v) := l.comparedWith_up v hUp hNeighbour
      unfold comparedSound
      rw [hNow]
      have hFields : (l.compared v).adjacency = .up ∧ (l.compared v).neighbour = some g := ⟨hUp, hNeighbour⟩
      rw [hFields.1, hFields.2]
      simp
  · exact comparedSound_same ((l.comparedWith_of_not_up v hUp).trans (h (.inl hUp))) hUp

theorem comparedSound_fallTo {a : Adjacency} (ha : a ≠ .up) (hSame : l.adjacency ≠ .up → l.differs = false) :
    (l.fallTo a).comparedSound digest := by
  unfold fallTo
  dsimp only
  split
  · exact comparedSound_same rfl ha
  next hDown => exact comparedSound_same (hSame hDown) ha

theorem comparedSound.toDown (h : l.comparedSound digest) : l.toDown.comparedSound digest :=
  comparedSound_of (l := l.fallTo .down) rfl rfl rfl
    (comparedSound_fallTo (by decide) fun hDown => h.differs_eq_false (.inl hDown))

theorem comparedSound.loseLock (h : l.comparedSound digest) : l.loseLock.comparedSound digest :=
  comparedSound_of (l := l.toDown) rfl rfl rfl h.toDown

end Lane

theorem comparedSound_slotLane {u : State} {d : Side} {digest : BitVec 32} (h : (u.lane d).comparedSound digest) :
    (u.slotLane d).comparedSound digest := by
  have hRest : ∀ (l : Lane) f, l.comparedSound digest → (l.sendRest f).comparedSound digest := by
    intro l f hl
    unfold Lane.sendRest
    split
    · exact Lane.comparedSound_of (l := l) rfl rfl rfl hl
    · split <;> exact Lane.comparedSound_of (l := l) rfl rfl rfl hl
  have hLeave : ∀ keys, ((u.lane d).leaveKeys keys).comparedSound digest := fun keys =>
    Lane.comparedSound_of (l := u.lane d) rfl rfl rfl h
  unfold State.slotLane
  dsimp only
  split
  · exact Lane.comparedSound_of (l := u.lane d) rfl rfl rfl h
  · split
    · exact Lane.comparedSound_of (l := u.lane d) rfl rfl rfl h
    · split
      · split
        · exact Lane.comparedSound_of (l := u.lane d) rfl rfl rfl h
        · exact hRest _ _ (hLeave _)
      · exact hRest _ _ (hLeave _)

theorem LaneWrite.comparedSound {d : Side} {l : Lane} (h : LaneWrite s d l)
    (hs : (s.lane d).comparedSound s.store.digest) : l.comparedSound s.store.digest := by
  have hSame := hs.differs_eq_false
  cases h with
  | mark => exact Lane.comparedSound_of (l := s.lane d) rfl rfl rfl hs
  | markOwn => exact Lane.comparedSound_of (l := s.lane d) rfl rfl rfl hs
  | countGood =>
    unfold Lane.countGood
    split
    · split <;> exact Lane.comparedSound_of (l := s.lane d) rfl rfl rfl hs
    · exact Lane.comparedSound_of (l := s.lane d) rfl rfl rfl hs
  | countBad =>
    unfold Lane.countBad
    split
    · exact Lane.comparedSound_of (l := s.lane d) rfl rfl rfl hs
    · split
      · exact Lane.comparedSound_of (l := s.lane d) rfl rfl rfl hs
      · exact Lane.comparedSound.loseLock (Lane.comparedSound_of (l := s.lane d) rfl rfl rfl hs)
  | loseLock => exact hs.loseLock
  | toDown => exact hs.toDown
  | greetingDue => exact Lane.comparedSound_of (l := s.lane d) rfl rfl rfl hs
  | slot u hLane => exact comparedSound_slotLane (hLane ▸ hs)
  | correct g hLock =>
    rw [lane_correctGreeting]
    cases hAdjacency : (s.lane d).adjacency with
    | down | mismatched =>
      exact Lane.comparedSound_same (hSame (.inl (by rw [hAdjacency]; decide))) (by simp)
    | heard =>
      dsimp only
      split
      · exact Lane.comparedSound_compared _ fun _ => rfl
      · exact Lane.comparedSound_same (hSame (.inl (by rw [hAdjacency]; decide))) (by simp [Lane.greeted, hAdjacency])
    | up =>
      dsimp only
      split
      · refine Lane.comparedSound_compared _ fun hNot => ?_
        exact hNot.elim (fun hDown => absurd hAdjacency hDown) (fun hNone => by cases hNone)
      · exact Lane.comparedSound_fallTo (by decide) fun hDown => absurd hAdjacency hDown
  | incorrect g hLock =>
    rw [lane_incorrectGreeting]
    exact Lane.comparedSound_fallTo (by decide) fun hDown => hSame (.inl hDown)

theorem comparisonsSound_iff : ComparisonsSound s ↔ ∀ d, (s.lane d).comparedSound s.store.digest := Iff.rfl

theorem Atom.comparisonsSound (h : Atom w s t) (hs : ComparisonsSound s) : ComparisonsSound t := by
  rw [comparisonsSound_iff] at *
  have hReset : ∀ l : Lane, l.differs = false → l.adjacency = .down → l.comparedSound t.store.digest := fun l hl hDown =>
    Lane.comparedSound_same hl (by rw [hDown]; decide)
  intro d
  have hd := hs d
  cases h with
  | lane e l hWrite =>
    rw [State.setLane_store]
    obtain rfl | rfl := Side.eq_or_eq_other d e
    · rw [State.lane_setLane]; exact hWrite.comparedSound hd
    · rw [State.lane_setLane_other]; exact hd
  | ticked => cases d <;> exact Lane.comparedSound_of rfl rfl rfl hd
  | fullReset =>
    rw [show (Machine.fullReset s).lane d = _ from lane_evalMonitors _ d]
    cases d <;> exact hReset _ rfl rfl
  | softReset =>
    rw [show (Machine.softReset s).lane d = _ from lane_evalMonitors _ d]
    cases d <;> exact hReset _ rfl rfl
  | newRing => cases d <;> exact hReset _ rfl rfl
  | dyn v hStep =>
    rw [hStep.digest, hStep.lane]
    exact Lane.comparedSound_of (l := s.lane d) rfl rfl rfl hd
  | mon hLine e m => rw [State.setMon_store]; cases e <;> cases d <;> exact hd
  | stage h i p => rw [stageFields_eq]; cases d <;> exact hd
  | digest hDigest v =>
    have hStore : (setDigest v s).store.digest = v := by rw [setDigest_eq]
    rw [hStore, lane_setDigest]
    split
    next hSame => rw [hSame]; exact hd
    next => exact Lane.comparedSound_compared v hd.differs_eq_false
  | _ => cases d <;> exact hd

end Sys2Proof.Machine
end

section
/-!
PROOFS. The sweep's grants and detours (O16): evaluation gives no detour, a class pass grants all spans of an arc or none, and the
Extra pass gives none.
-/

namespace Sys2Proof.Machine

variable {w : Region → Prop} {s t : State}

/-! ### The plan buffer -/

/-- The first entry with a verdict is the one that is settled. -/
theorem settleFirst_split {v : Verdict} {f : PlanEntry → Verdict} {l : List PlanEntry} {e : PlanEntry}
    (hFirst : firstWith v l = some e) : ∃ l₁ l₂, l = l₁ ++ e :: l₂ ∧ e.verdict = v ∧
      settleFirst v f l = l₁ ++ { e with verdict := f e } :: l₂ := by
  induction l with
  | nil => cases hFirst
  | cons x l ih =>
    unfold firstWith at hFirst
    rw [List.find?_cons] at hFirst
    by_cases hx : x.verdict = v
    · rw [decide_eq_true hx] at hFirst
      obtain rfl := Option.some.inj hFirst
      exact ⟨[], l, rfl, hx, by rw [settleFirst, if_pos hx]; rfl⟩
    · rw [decide_eq_false hx] at hFirst
      obtain ⟨l₁, l₂, rfl, he, hSettled⟩ := ih hFirst
      exact ⟨x :: l₁, l₂, rfl, he, by rw [settleFirst, if_neg hx, hSettled]; rfl⟩

theorem settleFirst_none {v : Verdict} {f : PlanEntry → Verdict} {l : List PlanEntry} (hNone : firstWith v l = none) :
    settleFirst v f l = l := by
  induction l with
  | nil => rfl
  | cons x l ih =>
    unfold firstWith at hNone
    rw [List.find?_cons] at hNone
    by_cases hx : x.verdict = v
    · rw [decide_eq_true hx] at hNone; cases hNone
    · rw [decide_eq_false hx] at hNone
      rw [settleFirst, if_neg hx, ih hNone]

/-- An entry of the settled buffer stood there before, or is the first entry with its new verdict. -/
theorem mem_settleFirst {v : Verdict} {f : PlanEntry → Verdict} {l : List PlanEntry} {y : PlanEntry}
    (hy : y ∈ settleFirst v f l) : y ∈ l ∨ ∃ e ∈ l, e.verdict = v ∧ y = { e with verdict := f e } := by
  cases hFirst : firstWith v l with
  | none => rw [settleFirst_none hFirst] at hy; exact .inl hy
  | some e =>
    obtain ⟨l₁, l₂, rfl, he, hSettled⟩ := settleFirst_split (f := f) hFirst
    rw [hSettled, List.mem_append, List.mem_cons] at hy
    rcases hy with hy | rfl | hy
    · exact .inl (List.mem_append_left _ hy)
    · exact .inr ⟨e, by simp, he, rfl⟩
    · exact .inl (List.mem_append_right _ (List.mem_cons_of_mem _ hy))

/-- An entry with another verdict stays. -/
theorem mem_settleFirst_of_ne {v : Verdict} {f : PlanEntry → Verdict} {l : List PlanEntry} {y : PlanEntry} (hy : y ∈ l)
    (hNe : y.verdict ≠ v) : y ∈ settleFirst v f l := by
  cases hFirst : firstWith v l with
  | none => rw [settleFirst_none hFirst]; exact hy
  | some e =>
    obtain ⟨l₁, l₂, rfl, he, hSettled⟩ := settleFirst_split (f := f) hFirst
    rw [hSettled, List.mem_append, List.mem_cons]
    rcases List.mem_append.1 hy with hy | hy
    · exact .inl hy
    · rcases List.mem_cons.1 hy with rfl | hy
      · exact absurd he hNe
      · exact .inr (.inr hy)

/-! ### Verdicts -/

theorem withoutDetour_ne_detour (cond : PlanCond) (reason r : Reason) :
    withoutDetour cond reason ≠ .settled .detour r := by
  unfold withoutDetour
  split <;> simp

theorem withoutDetour_ne_forClass (cond : PlanCond) (reason : Reason) (c : Nat) (p : Pass) :
    withoutDetour cond reason ≠ .forClass c p := by
  simp [withoutDetour]

theorem extraVerdict_ne_detour (snap : List SnapSpan) (grants : Table (Option Nat)) (n : Nat) (p : Planning) (r : Reason) :
    extraVerdict snap grants n p ≠ .settled .detour r := by
  unfold extraVerdict
  dsimp only
  split
  · simp
  · split <;> simp

theorem extraVerdict_ne_forClass (snap : List SnapSpan) (grants : Table (Option Nat)) (n : Nat) (p : Planning) (c : Nat)
    (q : Pass) : extraVerdict snap grants n p ≠ .forClass c q := by
  unfold extraVerdict
  dsimp only
  split
  · simp
  · split <;> simp

/-- Evaluation gives no detour (R98 to R102). -/
theorem evaluate_ne_detour (snap : List SnapSpan) (n : Nat) (p : Planning) (r : Reason) :
    evaluate snap n p ≠ .settled .detour r := by
  unfold evaluate
  dsimp only
  split
  · simp
  · split
    · simp
    · exact withoutDetour_ne_detour _ _ _
  · split
    · simp
    · split
      · exact withoutDetour_ne_detour _ _ _
      · split
        · exact withoutDetour_ne_detour _ _ _
        · split
          · exact withoutDetour_ne_detour _ _ _
          · simp

/-- What evaluation leaves to a class pass has a detour that is Good and in time (R100, R101). -/
theorem routed_of_evaluate {snap : List SnapSpan} {n : Nat} {p : Planning} {c : Nat} {q : Pass}
    (h : evaluate snap n p = .forClass c q) :
    arcGood snap (p.detourArc n) = true ∧ delayPasses p.ceiling (arcDelay snap (p.detourArc n)) = true := by
  unfold evaluate at h
  dsimp only at h
  split at h
  · cases h
  · split at h
    · cases h
    · exact absurd h (withoutDetour_ne_forClass _ _ _ _)
  · split at h
    · cases h
    · split at h
      · exact absurd h (withoutDetour_ne_forClass _ _ _ _)
      · split at h
        · exact absurd h (withoutDetour_ne_forClass _ _ _ _)
        next hGood =>
          split at h
          · exact absurd h (withoutDetour_ne_forClass _ _ _ _)
          next hDelay => exact ⟨by simpa using hGood, by simpa using hDelay⟩

/-! ### Grants -/

theorem grantKey_inj {span span' slot slot' : Nat} (hSlot : slot < 64) (hSlot' : slot' < 64) :
    grantKey span slot = grantKey span' slot' ↔ span = span' ∧ slot = slot' := by
  unfold grantKey Config.protSlots
  omega

/-- A grant is written into every entry of the arc, for its own slot, and into no other (R104). -/
theorem grantAt_grantArc {arc : List Nat} {slot slot' : Nat} (hSlot : slot < 64) (hSlot' : slot' < 64) (h span : Nat)
    (g : Table (Option Nat)) :
    grantAt (grantArc g arc slot h) span slot' = if span ∈ arc ∧ slot' = slot then some h else grantAt g span slot' := by
  unfold grantArc
  induction arc generalizing g with
  | nil => simp
  | cons k arc ih =>
    rw [List.foldl_cons, ih]
    have hSet : grantAt (Table.set none g (grantKey k slot) (some h)) span slot' =
        if span = k ∧ slot' = slot then some h else grantAt g span slot' := by
      rw [grantAt, Table.get_set]
      simp only [grantKey_inj hSlot' hSlot]
      rfl
    rw [hSet]
    by_cases hs : slot' = slot <;> by_cases hk : span = k <;> by_cases hIn : span ∈ arc <;> simp [hs, hk, hIn]

theorem arcFree_iff {g : Table (Option Nat)} {arc : List Nat} {slot : Nat} :
    arcFree g arc slot = true ↔ ∀ k ∈ arc, grantAt g k slot = none := by
  simp [arcFree]

/-- The law of the grants on a Planner alone, in a ring of `n`. -/
def Planner.grantsSound (p : Planner) (n : Nat) : Prop :=
  (∀ e ∈ p.buffer, e.plan.protSlot.getD 0 < 64) ∧ ∀ span slot h, slot < 64 →
    (grantAt p.nextGrants span slot = some h ↔
      ∃ e ∈ p.buffer, e.handle = h ∧ e.verdict = .settled .detour .none ∧ e.plan.protSlot.getD 0 = slot ∧
        span ∈ e.plan.detourArc n)

theorem Planner.grantsSound_empty {p : Planner} (n : Nat) (hBuffer : p.buffer = []) (hGrants : p.nextGrants = []) :
    p.grantsSound n := by
  unfold grantsSound
  rw [hBuffer, hGrants]
  exact ⟨by simp, fun span slot h _ => iff_of_false (by simp [grantAt, Table.get]) (by simp)⟩

/-- A change of the buffer that keeps the entries with a detour. -/
theorem Planner.grantsSound_of {p q : Planner} {n : Nat} (hGrants : q.nextGrants = p.nextGrants)
    (hSlots : ∀ e ∈ q.buffer, e.plan.protSlot.getD 0 < 64)
    (hDetours : ∀ e, e.verdict = .settled .detour .none → (e ∈ q.buffer ↔ e ∈ p.buffer)) (h : p.grantsSound n) :
    q.grantsSound n := by
  refine ⟨hSlots, fun span slot k hSlot => ?_⟩
  rw [hGrants, h.2 span slot k hSlot]
  refine exists_congr fun e => ⟨fun ⟨he, hRest⟩ => ⟨(hDetours e hRest.2.1).2 he, hRest⟩,
    fun ⟨he, hRest⟩ => ⟨(hDetours e hRest.2.1).1 he, hRest⟩⟩

/-- An entry that is settled without a detour leaves the detours. -/
theorem Planner.grantsSound_settle {p q : Planner} {n : Nat} {v : Verdict} {f : PlanEntry → Verdict}
    (hGrants : q.nextGrants = p.nextGrants) (hBuffer : q.buffer = settleFirst v f p.buffer)
    (hv : v ≠ .settled .detour .none) (hf : ∀ e, f e ≠ .settled .detour .none) (h : p.grantsSound n) : q.grantsSound n := by
  refine grantsSound_of hGrants (fun y hy => ?_) (fun y hDetour => ?_) h
  · obtain ⟨x, hx, -, hPlan⟩ := exists_of_mem_settleFirst (hBuffer ▸ hy)
    rw [← hPlan]; exact h.1 x hx
  · rw [hBuffer]
    refine ⟨fun hy => ?_, fun hy => mem_settleFirst_of_ne hy fun hEq => hv (hEq.symm.trans hDetour)⟩
    rcases mem_settleFirst hy with hy | ⟨e, -, -, rfl⟩
    · exact hy
    · exact absurd hDetour (hf e)

/-- A candidate that is granted takes all entries of its detour arc, which were empty (R104). -/
theorem Planner.grantsSound_grant {p q : Planner} {n cls : Nat} {pass : Pass} {e : PlanEntry}
    (hFirst : firstWith (.forClass cls pass) p.buffer = some e)
    (hFree : arcFree p.nextGrants (e.plan.detourArc n) (e.plan.protSlot.getD 0) = true)
    (hGrants : q.nextGrants = grantArc p.nextGrants (e.plan.detourArc n) (e.plan.protSlot.getD 0) e.handle)
    (hBuffer : q.buffer = settleFirst (.forClass cls pass) (fun _ => .settled .detour .none) p.buffer)
    (h : p.grantsSound n) : q.grantsSound n := by
  obtain ⟨l₁, l₂, hSplit, hVerdict, hSettled⟩ := settleFirst_split (f := fun _ => .settled .detour .none) hFirst
  have he : e ∈ p.buffer := hSplit ▸ List.mem_append_right _ (List.mem_cons_self ..)
  have hSlot := h.1 e he
  have hMem : ∀ y, y ∈ q.buffer ↔ y ∈ l₁ ∨ y = { e with verdict := .settled .detour .none } ∨ y ∈ l₂ := fun y => by
    rw [hBuffer, hSettled, List.mem_append, List.mem_cons]
  have hOld : ∀ y, y ∈ p.buffer ↔ y ∈ l₁ ∨ y = e ∨ y ∈ l₂ := fun y => by rw [hSplit, List.mem_append, List.mem_cons]
  refine ⟨fun y hy => ?_, fun span slot k hk => ?_⟩
  · rcases (hMem y).1 hy with hy | rfl | hy
    · exact h.1 y ((hOld y).2 (.inl hy))
    · exact hSlot
    · exact h.1 y ((hOld y).2 (.inr (.inr hy)))
  · rw [hGrants, grantAt_grantArc hSlot hk]
    constructor
    · intro hGrant
      split at hGrant
      next hArc =>
        obtain rfl := Option.some.inj hGrant
        exact ⟨_, (hMem _).2 (.inr (.inl rfl)), rfl, rfl, hArc.2.symm, hArc.1⟩
      next =>
        obtain ⟨y, hy, hRest⟩ := (h.2 span slot k hk).1 hGrant
        rcases (hOld y).1 hy with hy | rfl | hy
        · exact ⟨y, (hMem y).2 (.inl hy), hRest⟩
        · exact absurd (hVerdict.symm.trans hRest.2.1) (by simp)
        · exact ⟨y, (hMem y).2 (.inr (.inr hy)), hRest⟩
    · rintro ⟨y, hy, hRest⟩
      have hWas : y ∈ p.buffer → (if span ∈ e.plan.detourArc n ∧ slot = e.plan.protSlot.getD 0 then some e.handle
          else grantAt p.nextGrants span slot) = some k := fun hy => by
        have hHeld := (h.2 span slot k hk).2 ⟨y, hy, hRest⟩
        split
        next hArc =>
          have hNone := arcFree_iff.1 hFree span hArc.1
          rw [← hArc.2, hHeld] at hNone
          cases hNone
        next => exact hHeld
      rcases (hMem y).1 hy with hy | rfl | hy
      · exact hWas ((hOld y).2 (.inl hy))
      · obtain ⟨rfl, -, rfl, hSpan⟩ := hRest
        rw [if_pos ⟨hSpan, rfl⟩]
      · exact hWas ((hOld y).2 (.inr (.inr hy)))

theorem PlannerWrite.grantsSound {p : Planner} (hWrite : PlannerWrite s p)
    (hSlots : ∀ h, (s.record h).plan.protSlot.getD 0 < 64) (h : s.planner.grantsSound s.node.ringSize) :
    p.grantsSound s.node.ringSize := by
  cases hWrite with
  | sweep snapshot n hn => exact Planner.grantsSound_empty _ rfl rfl
  | keep phase late replan n committed k hn hTable => exact h
  | discard snapshot => exact Planner.grantsSound_empty _ rfl rfl
  | gather hPos =>
    have hGrants : (gatherOne s).planner.nextGrants = s.planner.nextGrants := by rw [gatherOne_rest]
    refine Planner.grantsSound_of hGrants (fun e he => ?_) (fun e hDetour => ?_) h
    · rw [gatherOne_buffer, List.mem_append] at he
      rcases he with he | he
      · exact h.1 e he
      · split at he
        · rw [List.mem_singleton.1 he]; exact hSlots _
        · cases he
    · rw [gatherOne_buffer, List.mem_append]
      refine or_iff_left fun he => ?_
      split at he
      · rw [List.mem_singleton.1 he] at hDetour; exact evaluate_ne_detour _ _ _ _ hDetour
      · cases he
  | candidate cls pass e hFirst =>
    unfold treatCandidate
    dsimp only
    split
    next hFree => exact Planner.grantsSound_grant hFirst hFree rfl rfl h
    next => exact Planner.grantsSound_settle (p := s.planner) rfl rfl (by simp) (fun _ => withoutDetour_ne_detour _ _ _) h
  | extra => exact Planner.grantsSound_settle (p := s.planner) rfl rfl (by simp) (fun _ => extraVerdict_ne_detour _ _ _ _ _) h

/-! ### Detours -/

/-- The detours that the plan gives or may give are Good and in time, on a Planner alone. -/
def Planner.detoursSound (p : Planner) (n : Nat) : Prop :=
  ∀ e ∈ p.buffer, ((∃ w, e.verdict = .settled .detour w) ∨ ∃ c q, e.verdict = .forClass c q) →
    (∀ k ∈ e.plan.detourArc n, snapCond p.snapshot k = .good) ∧
      ∀ c, e.plan.ceiling = some c → ((e.plan.detourArc n).map (snapDelay p.snapshot)).sum ≤ c

theorem Planner.detoursSound_empty {p : Planner} (n : Nat) (hBuffer : p.buffer = []) : p.detoursSound n := by
  unfold detoursSound
  rw [hBuffer]
  simp

/-- An entry that is settled keeps its detour, or loses it. -/
theorem Planner.detoursSound_settle {p q : Planner} {n : Nat} {v : Verdict} {f : PlanEntry → Verdict}
    (hSnapshot : q.snapshot = p.snapshot) (hBuffer : q.buffer = settleFirst v f p.buffer)
    (hf : (∃ c r, v = .forClass c r) ∨ ∀ e, (∀ r, f e ≠ .settled .detour r) ∧ ∀ c r, f e ≠ .forClass c r)
    (h : p.detoursSound n) : q.detoursSound n := by
  intro y hy hDetour
  rw [hSnapshot]
  rcases mem_settleFirst (hBuffer ▸ hy) with hy | ⟨e, he, hv, rfl⟩
  · exact h y hy hDetour
  · rcases hf with ⟨c, r, hForClass⟩ | hNone
    · exact h e he (.inr ⟨c, r, hv.trans hForClass⟩)
    · rcases hDetour with ⟨r, hr⟩ | ⟨c, r, hr⟩
      · exact absurd hr ((hNone e).1 r)
      · exact absurd hr ((hNone e).2 c r)

theorem PlannerWrite.detoursSound {p : Planner} (hWrite : PlannerWrite s p) (h : s.planner.detoursSound s.node.ringSize) :
    p.detoursSound s.node.ringSize := by
  cases hWrite with
  | sweep snapshot n hn => exact Planner.detoursSound_empty _ rfl
  | keep phase late replan n committed k hn hTable => exact h
  | discard snapshot => exact Planner.detoursSound_empty _ rfl
  | gather hPos =>
    intro e he hDetour
    have hSnapshot : (gatherOne s).planner.snapshot = s.planner.snapshot := by rw [gatherOne_rest]
    rw [gatherOne_buffer, List.mem_append] at he
    rw [hSnapshot]
    rcases he with he | he
    · exact h e he hDetour
    · split at he
      · obtain rfl := List.mem_singleton.1 he
        rcases hDetour with ⟨r, hr⟩ | ⟨c, q, hr⟩
        · exact absurd hr (evaluate_ne_detour _ _ _ _)
        · obtain ⟨hGood, hDelay⟩ := routed_of_evaluate hr
          refine ⟨by simpa [arcGood] using hGood, fun c hCeiling => ?_⟩
          dsimp only at hCeiling
          rw [hCeiling] at hDelay
          exact of_decide_eq_true hDelay
      · cases he
  | candidate cls pass e hFirst =>
    unfold treatCandidate
    dsimp only
    split <;> exact Planner.detoursSound_settle (p := s.planner) rfl rfl (.inl ⟨cls, pass, rfl⟩) h
  | extra =>
    exact Planner.detoursSound_settle (p := s.planner) rfl rfl
      (.inr fun _ => ⟨fun _ => extraVerdict_ne_detour _ _ _ _ _, fun _ _ => extraVerdict_ne_forClass _ _ _ _ _ _⟩) h

/-! ### The atoms -/

/-- An atom leaves N and writes the Planner as the Planner does, or empties the next plan. -/
theorem Atom.plan_cases (h : Atom w s t) :
    (t.node.ringSize = s.node.ringSize ∧ (t.planner = s.planner ∨ PlannerWrite s t.planner)) ∨
      (t.planner.buffer = [] ∧ t.planner.nextGrants = []) := by
  cases h with
  | planner p hWrite => exact .inl ⟨rfl, .inr hWrite⟩
  | fullReset => exact .inr ⟨rfl, rfl⟩
  | softReset => exact .inr ⟨rfl, rfl⟩
  | newRing => exact .inr ⟨rfl, rfl⟩
  | mon hLine d m => exact .inl ⟨by rw [State.setMon_node], .inl (by rw [State.setMon_planner])⟩
  | lane d l => exact .inl ⟨by rw [State.setLane_node], .inl (by rw [State.setLane_planner])⟩
  | dyn v hStep => exact .inl ⟨by rw [hStep.node], .inl hStep.planner⟩
  | stage h i p => exact .inl ⟨by rw [stageFields_eq], .inl (by rw [stageFields_eq])⟩
  | digest hDigest v => exact .inl ⟨by rw [setDigest_eq], .inl (by rw [setDigest_eq])⟩
  | _ => exact .inl ⟨rfl, .inl rfl⟩

/-- The protection slot of an image that passes is below 64 (R1, R2). -/
theorem protSlot_of_imagePlanning {i : StageImage} {p : Planning} (h : imagePlanning i = some p) :
    p.protSlot.getD 0 < 64 := by
  unfold imagePlanning at h
  split at h
  · cases h
  next k hk =>
    split at h
    next hFits =>
      obtain rfl := Option.some.inj h
      simp only [Bool.and_eq_true] at hFits
      cases k with
      | prot =>
        have hOk := hFits.2
        simp only [optionalFieldsOk, Bool.and_eq_true, decide_eq_true_eq] at hOk
        simp only [planningOf]
        exact Nat.lt_succ_of_le hOk.1.1
      | unprot | extra => simp [planningOf]
    next => cases h

theorem RecordFate.protSlot_lt {h : Nat} {r : Record} (hFate : RecordFate w s h r)
    (hs : (s.record h).plan.protSlot.getD 0 < 64) : r.plan.protSlot.getD 0 < 64 := by
  cases hFate with
  | freed => decide
  | dynamic r hListed hr => rw [hr]; exact hs
  | written r hWrite =>
    cases hWrite with
    | planning hDigest i p hPlan => exact protSlot_of_imagePlanning hPlan
    | _ => exact hs
  | staged i p hPlan => exact protSlot_of_imagePlanning hPlan
  | _ => exact hs

theorem Atom.grantsSound (h : Atom w s t) (hTables : TablesCanonical s) (hs : GrantsSound s) : GrantsSound t := by
  obtain ⟨hSlots, hPlan⟩ := hs
  suffices hPlanner : t.planner.grantsSound t.node.ringSize from
    ⟨fun k => (h.recordFate hTables.1 k).protSlot_lt (hSlots k), hPlanner⟩
  rcases h.plan_cases with ⟨hSize, hSame | hWrite⟩ | ⟨hBuffer, hGrants⟩
  · rw [hSize, hSame]; exact hPlan
  · rw [hSize]; exact hWrite.grantsSound hSlots hPlan
  · exact Planner.grantsSound_empty _ hBuffer hGrants

theorem Atom.detoursSound (h : Atom w s t) (hs : DetoursSound s) : DetoursSound t := by
  show t.planner.detoursSound t.node.ringSize
  rcases h.plan_cases with ⟨hSize, hSame | hWrite⟩ | ⟨hBuffer, -⟩
  · rw [hSize, hSame]; exact hs
  · rw [hSize]; exact hWrite.detoursSound hs
  · exact Planner.detoursSound_empty _ hBuffer

/-- Settles O16: a class pass grants all spans of a detour arc or none, by induction over the atoms of a step. -/
theorem stepKeepsGrantsWhole : Obligations.StepKeepsGrantsWhole :=
  ⟨fun _ _ hTables hs h =>
    step_keeps_atoms_under (fun _ _ hAtom => hAtom.tablesCanonical) (fun _ _ hAtom => hAtom.grantsSound) hTables hs h,
    fun _ _ hs h => step_keeps_atoms (fun _ _ hAtom => hAtom.detoursSound) hs h⟩

end Sys2Proof.Machine
end

section
/-!
PROOFS. The Fabric Driver: what the driver chooses (R125), what a command, its end and a commit make of the entries, and the laws of
the driver (O17).
-/

namespace Sys2Proof.Machine

variable {w : Region → Prop} {s t : State}

/-! ### The dirty set -/

theorem mem_dirtySet (hEntries : Table.wf Entry.untouched s.fabric.entries = true) {i : Nat} :
    i ∈ s.dirtySet ↔ (s.entry i).status = .dirty := by
  obtain ⟨hKeys, -⟩ := (Table.wf_iff _ _).1 hEntries
  unfold State.dirtySet
  rw [List.mem_map]
  constructor
  · rintro ⟨e, he, rfl⟩
    rw [List.mem_filter, decide_eq_true_eq] at he
    rw [State.entry, Table.get_of_mem hKeys he.1]
    exact he.2
  · intro hDirty
    have hListed : i ∈ Table.keys s.fabric.entries := by
      by_contra hNot
      rw [State.entry, Table.get_of_not_mem _ hNot] at hDirty
      cases hDirty
    obtain ⟨e, he, rfl⟩ := List.mem_map.1 hListed
    refine ⟨e, List.mem_filter.2 ⟨he, ?_⟩, rfl⟩
    rw [State.entry, Table.get_of_mem hKeys he] at hDirty
    exact decide_eq_true hDirty

theorem dirtySet_pairwise (hEntries : Table.wf Entry.untouched s.fabric.entries = true) :
    s.dirtySet.Pairwise (· < ·) := by
  obtain ⟨hKeys, -⟩ := (Table.wf_iff _ _).1 hEntries
  exact hKeys.sublist (List.Sublist.map _ List.filter_sublist)

/-- The first number of a rising list that satisfies `f` is the lowest that does. -/
theorem find?_lowest {l : List Nat} (hOrder : l.Pairwise (· < ·)) {f : Nat → Bool} {i : Nat} (hFind : l.find? f = some i) :
    i ∈ l ∧ f i = true ∧ ∀ j ∈ l, f j = true → i ≤ j := by
  refine ⟨List.mem_of_find?_eq_some hFind, List.find?_some hFind, fun j hj hfj => ?_⟩
  induction l with
  | nil => cases hj
  | cons a l ih =>
    obtain ⟨hFirst, hRest⟩ := List.pairwise_cons.1 hOrder
    rw [List.find?_cons] at hFind
    cases ha : f a with
    | true =>
      rw [ha] at hFind
      obtain rfl := Option.some.inj hFind
      rcases List.mem_cons.1 hj with rfl | hj
      · exact le_refl _
      · exact le_of_lt (hFirst j hj)
    | false =>
      rw [ha] at hFind
      rcases List.mem_cons.1 hj with rfl | hj
      · rw [ha] at hfj; cases hfj
      · exact ih hRest hFind hj

/-- The lowest Dirty index of a phase. -/
def State.dirtyInPhase (s : State) (ph : Nat) : Option Nat :=
  s.dirtySet.find? fun i => decide (phaseOf (s.entry i).desired = ph)

theorem chooseDirty_eq (s : State) :
    s.chooseDirty = (s.dirtyInPhase 1).orElse fun _ => (s.dirtyInPhase 2).orElse fun _ => s.dirtyInPhase 3 := rfl

theorem phaseOf_cases (v : ConnValue) : phaseOf v = 1 ∨ phaseOf v = 2 ∨ phaseOf v = 3 := by
  cases v <;> simp [phaseOf]

theorem dirtyInPhase_none (hEntries : Table.wf Entry.untouched s.fabric.entries = true) {ph : Nat}
    (hNone : s.dirtyInPhase ph = none) (i : Nat) (hDirty : (s.entry i).status = .dirty) :
    phaseOf (s.entry i).desired ≠ ph := fun hPhase => by
  have hAll := List.find?_eq_none.1 hNone i ((mem_dirtySet hEntries).2 hDirty)
  rw [hPhase] at hAll
  simp at hAll

/-- Nothing is Dirty exactly when the driver finds nothing to send. -/
theorem chooseDirty_none (hEntries : Table.wf Entry.untouched s.fabric.entries = true) :
    s.chooseDirty = none ↔ ∀ i, (s.entry i).status ≠ .dirty := by
  rw [chooseDirty_eq]
  constructor
  · intro hNone i hDirty
    cases hOne : s.dirtyInPhase 1 with
    | some j => rw [hOne] at hNone; cases hNone
    | none =>
      rw [hOne] at hNone
      cases hTwo : s.dirtyInPhase 2 with
      | some j => rw [hTwo] at hNone; cases hNone
      | none =>
        rw [hTwo] at hNone
        rcases phaseOf_cases (s.entry i).desired with hPhase | hPhase | hPhase
        · exact dirtyInPhase_none hEntries hOne i hDirty hPhase
        · exact dirtyInPhase_none hEntries hTwo i hDirty hPhase
        · exact dirtyInPhase_none hEntries hNone i hDirty hPhase
  · intro hClean
    have hEmpty : s.dirtySet = [] := List.eq_nil_iff_forall_not_mem.2 fun i hi => hClean i ((mem_dirtySet hEntries).1 hi)
    simp [State.dirtyInPhase, hEmpty]

/-- What the driver chooses is the next Dirty entry (R124, R125). -/
theorem nextDirty_of_chooseDirty (hEntries : Table.wf Entry.untouched s.fabric.entries = true) {i : Nat}
    (hChosen : s.chooseDirty = some i) : NextDirty s.entry i := by
  have hOrder := dirtySet_pairwise hEntries
  have hInPhase : ∀ {ph}, s.dirtyInPhase ph = some i → (s.entry i).status = .dirty ∧ phaseOf (s.entry i).desired = ph ∧
      ∀ j, (s.entry j).status = .dirty → phaseOf (s.entry j).desired = ph → i ≤ j := fun {ph} hFind => by
    obtain ⟨hMem, hPhase, hLow⟩ := find?_lowest hOrder hFind
    exact ⟨(mem_dirtySet hEntries).1 hMem, of_decide_eq_true hPhase,
      fun j hj hPhase => hLow j ((mem_dirtySet hEntries).2 hj) (decide_eq_true hPhase)⟩
  have hNext : ∀ {ph}, s.dirtyInPhase ph = some i →
      (∀ j, (s.entry j).status = .dirty → ph ≤ phaseOf (s.entry j).desired) → NextDirty s.entry i := fun {ph} hFind hLeast => by
    obtain ⟨hDirty, hPhase, hLow⟩ := hInPhase hFind
    refine ⟨hDirty, fun j hj => ?_⟩
    rcases Nat.lt_or_eq_of_le (hLeast j hj) with hLt | hEq
    · exact .inl (hPhase ▸ hLt)
    · exact .inr ⟨hPhase.trans hEq, hLow j hj hEq.symm⟩
  rw [chooseDirty_eq] at hChosen
  cases hOne : s.dirtyInPhase 1 with
  | some j =>
    rw [hOne] at hChosen
    obtain rfl := Option.some.inj hChosen
    refine hNext hOne fun j _ => ?_
    rcases phaseOf_cases (s.entry j).desired with h | h | h <;> rw [h] <;> decide
  | none =>
    rw [hOne] at hChosen
    have hNotOne := dirtyInPhase_none hEntries hOne
    cases hTwo : s.dirtyInPhase 2 with
    | some j =>
      rw [hTwo] at hChosen
      obtain rfl := Option.some.inj hChosen
      refine hNext hTwo fun j hj => ?_
      rcases phaseOf_cases (s.entry j).desired with h | h | h
      · exact absurd h (hNotOne j hj)
      · rw [h]
      · rw [h]; decide
    | none =>
      rw [hTwo] at hChosen
      have hNotTwo := dirtyInPhase_none hEntries hTwo
      refine hNext hChosen fun j hj => ?_
      rcases phaseOf_cases (s.entry j).desired with h | h | h
      · exact absurd h (hNotOne j hj)
      · exact absurd h (hNotTwo j hj)
      · rw [h]

theorem nextDirty_unique {e : Nat → Entry} {i j : Nat} (hi : NextDirty e i) (hj : NextDirty e j) : i = j := by
  rcases hi.2 j hj.1 with hLt | ⟨hEq, hLe⟩ <;> rcases hj.2 i hi.1 with hLt' | ⟨hEq', hLe'⟩ <;> omega

/-- The next Dirty entry is what the driver chooses (R124, R125). -/
theorem chooseDirty_eq_some (hEntries : Table.wf Entry.untouched s.fabric.entries = true) {i : Nat} :
    s.chooseDirty = some i ↔ NextDirty s.entry i := by
  refine ⟨nextDirty_of_chooseDirty hEntries, fun hNext => ?_⟩
  cases hChosen : s.chooseDirty with
  | none => exact absurd hNext.1 ((chooseDirty_none hEntries).1 hChosen i)
  | some j => rw [nextDirty_unique (nextDirty_of_chooseDirty hEntries hChosen) hNext]

/-! ### What the writes of the driver make of an entry -/

theorem entry_of_entries {u v : State} (h : u.fabric.entries = v.fabric.entries) (i : Nat) : u.entry i = v.entry i := by
  rw [State.entry, State.entry, h]

theorem entry_sendDirty (i j : Nat) (s : State) :
    (sendDirty i s).entry j = if j = i then { s.entry i with status := .inFlight } else s.entry j := by
  rw [sendDirty, entry_setEntry]
  rfl

/-- The other entries that were confirmed at the same port are Unknown (R128). -/
theorem entry_confirmEntry (hEntries : Table.wf Entry.untouched s.fabric.entries = true) (c : Command) (j : Nat) :
    (confirmEntry c s).entry j = if j = c.entry then (s.entry c.entry).confirm c.value
      else if ∃ q, c.value = .localPort q ∧ (s.entry j).last = some (.localPort q) then { s.entry j with last := none }
      else s.entry j := by
  have hSet : ∀ k, (s.setEntry c.entry ((s.entry c.entry).confirm c.value)).entry k =
      if k = c.entry then (s.entry c.entry).confirm c.value else s.entry k := fun k => entry_setEntry _ _ _ _
  have hOther : (∀ q, c.value ≠ .localPort q) →
      (s.setEntry c.entry ((s.entry c.entry).confirm c.value)).entry j =
        if j = c.entry then (s.entry c.entry).confirm c.value
        else if ∃ q, c.value = .localPort q ∧ (s.entry j).last = some (.localPort q) then { s.entry j with last := none }
        else s.entry j := fun hNo => by
    rw [hSet, if_neg (c := ∃ q, _) (by rintro ⟨q, hq, -⟩; exact hNo q hq)]
  unfold confirmEntry loseOtherPorts
  split
  next q hq =>
    have hGet := Table.get_mapValues (d := Entry.untouched)
      (fun j e => if decide (j ≠ c.entry) && decide (e.last = some (.localPort q)) then { e with last := none } else e)
      (t := (s.setEntry c.entry ((s.entry c.entry).confirm c.value)).fabric.entries) j (by simp [Entry.untouched])
      (Table.set_wf c.entry ((s.entry c.entry).confirm c.value) hEntries)
    refine hGet.trans ?_
    rw [show Table.get Entry.untouched _ j = _ from hSet j]
    by_cases hj : j = c.entry
    · simp [hj]
    · have hPort : (∃ p, c.value = .localPort p ∧ (s.entry j).last = some (.localPort p)) ↔
          (s.entry j).last = some (.localPort q) := by
        rw [hq]
        exact ⟨fun ⟨p, hp, hLast⟩ => by rw [hLast, ConnValue.localPort.inj hp], fun hLast => ⟨q, rfl, hLast⟩⟩
      simp only [hj, if_false, ne_eq, not_false_eq_true, decide_true, Bool.true_and, decide_eq_true_eq, hPort]
  next hNo => exact hOther fun q hq => hNo q hq

theorem entry_failEntry (c : Command) (j : Nat) (s : State) :
    (failEntry c s).entry j = if j = c.entry then { s.entry c.entry with last := none, status := .failed } else s.entry j :=
  entry_setEntry _ _ _ _

theorem entry_deriveMap (j : Nat) (s : State) :
    (deriveMap s).entry j = if j < 512 then (s.entry j).commit (resolveEntry s.allWrites j) s.isResync else Entry.untouched := by
  have hEntries : (deriveMap s).fabric.entries = Table.ofFun Entry.untouched Config.entryCount
      (fun i => (s.entry i).commit (resolveEntry s.allWrites i) s.isResync) := by
    unfold deriveMap
    dsimp only
  rw [State.entry, hEntries, Table.get_ofFun, Config.entryCount]

/-- A commit leaves what is confirmed, and leaves an InFlight entry InFlight (R124). -/
theorem Entry.commit_eq (e : Entry) (v : ConnValue) (resync : Bool) :
    e.commit v resync = { e with desired := v, status := (e.commit v resync).status } := rfl

theorem Entry.commit_inFlight (e : Entry) (v : ConnValue) (resync : Bool) :
    (e.commit v resync).status = .inFlight ↔ e.status = .inFlight := by
  unfold Entry.commit
  dsimp only
  cases e.status with
  | inFlight | dirty => simp
  | applied | failed => dsimp only; split <;> simp

/-! ### The laws of the driver -/

/-- The driver's laws on the driver alone. -/
def Fabric.sound (f : Fabric) : Prop :=
  let entry := fun i => Table.get Entry.untouched f.entries i
  (f.responseTimer = none ↔ f.outstanding = none) ∧
    (∀ i, (entry i).status = .inFlight ↔ ∃ c, f.outstanding = some c ∧ c.entry = i ∧ c.reassert = false) ∧
    (∀ c, f.outstanding = some c → c.entry < 512) ∧ (∀ i, 512 ≤ i → entry i = Entry.untouched) ∧ f.pointer < 512 ∧
    IsCadence f.cadence

theorem fabricSound_iff : FabricSound s ↔ s.fabric.sound := Iff.rfl

/-- The laws hang on the entries, the outstanding command, the running of its timer, the pointer and the scale. -/
theorem Fabric.sound_of {f g : Fabric} (hTimer : g.responseTimer = none ↔ f.responseTimer = none)
    (hOut : g.outstanding = f.outstanding) (hEntries : g.entries = f.entries) (hPointer : g.pointer = f.pointer)
    (hCadence : IsCadence g.cadence) (h : f.sound) : g.sound := by
  unfold sound
  rw [hTimer, hOut, hEntries, hPointer]
  obtain ⟨h1, h2, h3, h4, h5, -⟩ := h
  exact ⟨h1, h2, h3, h4, h5, hCadence⟩

theorem FabricSound.entry_lt (h : FabricSound s) {i : Nat} (hNe : (s.entry i).status ≠ .applied) : i < 512 := by
  by_contra hNot
  rw [h.2.2.2.1 i (by omega)] at hNe
  exact hNe rfl

theorem FabricSound.not_inFlight (h : FabricSound s) (hOut : s.fabric.outstanding = none) (i : Nat) :
    (s.entry i).status ≠ .inFlight := fun hFlight => by
  obtain ⟨c, hc, -⟩ := (h.2.1 i).1 hFlight
  rw [hOut] at hc; cases hc

theorem fabricSound_dispatch (hEntries : Table.wf Entry.untouched s.fabric.entries = true) (h : FabricSound s) :
    FabricSound (dispatch s) := by
  unfold dispatch
  split
  · exact h
  next hMay =>
    have hOut : s.fabric.outstanding = none := by
      by_contra hNot; exact hMay (.inl hNot)
    have hIdle := h.not_inFlight hOut
    obtain ⟨-, -, -, hAbove, hPointer, hCadence⟩ := id h
    split
    next i hChosen =>
      have hDirty := (nextDirty_of_chooseDirty hEntries hChosen).1
      have hi : i < 512 := FabricSound.entry_lt h (by rw [hDirty]; decide)
      refine ⟨iff_of_false (by simp [sendDirty, sendCommand, State.setEntry]) (by simp [sendDirty, sendCommand, State.setEntry]),
        fun j => ?_, fun c hc => ?_, fun j hj => ?_, hPointer, hCadence⟩
      · rw [entry_sendDirty]
        split
        next hj => exact iff_of_true rfl ⟨_, rfl, hj.symm, rfl⟩
        next hj =>
          refine iff_of_false (hIdle j) ?_
          rintro ⟨c, hc, rfl, -⟩
          obtain rfl := Option.some.inj hc
          exact hj rfl
      · obtain rfl := Option.some.inj hc
        exact hi
      · rw [entry_sendDirty, if_neg (by omega)]
        exact hAbove j hj
    next hNone =>
      split
      · refine ⟨iff_of_false (by simp [sendReassert, sendCommand]) (by simp [sendReassert, sendCommand]), fun j => ?_,
          fun c hc => ?_, hAbove, hPointer, hCadence⟩
        · refine iff_of_false (hIdle j) ?_
          rintro ⟨c, hc, -, hReassert⟩
          obtain rfl := Option.some.inj hc
          cases hReassert
        · obtain rfl := Option.some.inj hc
          exact hPointer
      · exact h

/-- The end of a command: its entry is no longer InFlight, and no entry becomes so (R128, R130). -/
theorem fabricSound_ended {c : Command} (h : FabricSound s) (hOut : s.fabric.outstanding = some c) {u : State}
    (hFabric : u.fabric = { (retireCommand c s).fabric with entries := u.fabric.entries })
    (hEntry : (u.entry c.entry).status ≠ .inFlight) (hStatus : ∀ j, j ≠ c.entry → (u.entry j).status = (s.entry j).status)
    (hAbove : ∀ j, 512 ≤ j → u.entry j = s.entry j) : FabricSound u := by
  obtain ⟨-, hFlight, hRange, hUntouched, hPointer, hCadence⟩ := h
  have hNone : u.fabric.outstanding = none := by rw [hFabric]; rfl
  refine ⟨iff_of_true (by rw [hFabric]; rfl) hNone, fun j => ?_, fun c hc => ?_, fun j hj => ?_, ?_, by rw [hFabric]; exact hCadence⟩
  · refine iff_of_false (fun hNow => ?_) (by rintro ⟨c, hc, -⟩; rw [hNone] at hc; cases hc)
    by_cases hj : j = c.entry
    · exact hEntry (hj ▸ hNow)
    · rw [hStatus j hj] at hNow
      obtain ⟨d, hd, rfl, -⟩ := (hFlight j).1 hNow
      obtain rfl := Option.some.inj (hOut.symm.trans hd)
      exact hj rfl
  · rw [hNone] at hc; cases hc
  · rw [hAbove j hj]; exact hUntouched j hj
  · rw [hFabric]
    show (if c.reassert then (s.fabric.pointer + 1) % Config.entryCount else s.fabric.pointer) < 512
    split
    · exact Nat.mod_lt _ (by decide)
    · exact hPointer

theorem Entry.confirm_status (e : Entry) (v : ConnValue) : (e.confirm v).status ≠ .inFlight := by
  unfold Entry.confirm
  dsimp only
  split <;> simp

theorem FabricWrite.fabricSound {f : Fabric} (hWrite : FabricWrite s f)
    (hEntries : Table.wf Entry.untouched s.fabric.entries = true) (h : FabricSound s) : f.sound := by
  have hCadence := h.2.2.2.2.2
  cases hWrite with
  | cadence n hn => exact Fabric.sound_of (f := s.fabric) Iff.rfl rfl rfl rfl hn h
  | answered b => exact Fabric.sound_of (f := s.fabric) Iff.rfl rfl rfl rfl hCadence h
  | resync b => exact Fabric.sound_of (f := s.fabric) Iff.rfl rfl rfl rfl hCadence h
  | request n hTimer => exact Fabric.sound_of (f := s.fabric) Iff.rfl rfl rfl rfl hCadence h
  | dispatch => exact fabricSound_dispatch hEntries h
  | retry c hOut =>
    obtain ⟨-, hFlight, hRange, hAbove, hPointer, -⟩ := h
    refine ⟨iff_of_false (by simp [sendCommand]) (by simp [sendCommand]), fun i => (hFlight i).trans ?_, fun d hd => ?_,
      hAbove, hPointer, hCadence⟩
    · constructor
      · rintro ⟨d, hd, hEntry, hDirty⟩
        obtain rfl := Option.some.inj (hOut.symm.trans hd)
        exact ⟨_, rfl, hEntry, hDirty⟩
      · rintro ⟨d, hd, hEntry, hDirty⟩
        obtain rfl := Option.some.inj hd
        exact ⟨c, hOut, hEntry, hDirty⟩
    · obtain rfl := Option.some.inj hd
      exact hRange c hOut
  | done c hOut =>
    have hEntry := fun j => entry_confirmEntry (s := retireCommand c s) hEntries c j
    have hc := h.2.2.1 c hOut
    refine fabricSound_ended h hOut (by rw [confirmEntry_eq]) ?_ (fun j hj => ?_) (fun j hj => ?_)
    · rw [hEntry, if_pos rfl]; exact Entry.confirm_status _ _
    · rw [hEntry, if_neg hj]; split <;> rfl
    · have hUntouched : s.entry j = Entry.untouched := h.2.2.2.1 j hj
      rw [hEntry, if_neg (by omega), if_neg]
      · rfl
      · rintro ⟨q, -, hLast⟩
        rw [show (retireCommand c s).entry j = _ from hUntouched] at hLast
        cases hLast
  | failed c hOut =>
    have hc := h.2.2.1 c hOut
    have hEntry := fun j => entry_failEntry c j (retireCommand c s)
    refine fabricSound_ended h hOut rfl ?_ (fun j hj => ?_) (fun j hj => ?_)
    · rw [hEntry, if_pos rfl]; simp
    · rw [hEntry, if_neg hj]; rfl
    · rw [hEntry, if_neg (by omega)]; rfl
  | derive =>
    obtain ⟨hTimer, hFlight, hRange, hAbove, hPointer, -⟩ := h
    have hOut : (deriveMap s).fabric.outstanding = s.fabric.outstanding := by rw [deriveMap_eq]
    refine ⟨by rw [deriveMap_eq]; exact hTimer, fun i => ?_, by rw [hOut]; exact hRange, fun i hi => ?_,
      by rw [deriveMap_eq]; exact hPointer, by rw [deriveMap_eq]; exact hCadence⟩
    · show ((deriveMap s).entry i).status = _ ↔ _
      rw [entry_deriveMap, hOut, ← hFlight]
      split
      · exact Entry.commit_inFlight _ _ _
      next hi => rw [hAbove i (by omega)]
    · show (deriveMap s).entry i = _
      rw [entry_deriveMap, if_neg (by omega)]

theorem entry_softReset (hEntries : Table.wf Entry.untouched s.fabric.entries = true) (i : Nat) :
    (softReset s).entry i = { Entry.untouched with desired := (s.entry i).desired } := by
  have hGet := Table.get_mapValues (fun _ e => { Entry.untouched with desired := e.desired }) i rfl hEntries
  exact hGet

/-- An atom leaves the driver alone, or is a write of the driver, or lets it tick, reset, stop or start to run. -/
theorem Atom.fabric_cases (h : Atom w s t) :
    t.fabric = s.fabric ∨ FabricWrite s t.fabric ∨ t = tick s ∨ t = Machine.fullReset s ∨ t = Machine.softReset s ∨
      ∃ timer request, t.fabric = { s.fabric with reassertTimer := timer, reassertPending := request } := by
  cases h with
  | fabric f hWrite => exact .inr (.inl hWrite)
  | ticked => exact .inr (.inr (.inl rfl))
  | fullReset => exact .inr (.inr (.inr (.inl rfl)))
  | softReset => exact .inr (.inr (.inr (.inr (.inl rfl))))
  | running hLine hState n => exact .inr (.inr (.inr (.inr (.inr ⟨_, _, rfl⟩))))
  | stopped => exact .inr (.inr (.inr (.inr (.inr ⟨_, _, rfl⟩))))
  | mon hLine d m => exact .inl (by rw [State.setMon_fabric])
  | lane d l => exact .inl (by rw [State.setLane_fabric])
  | dyn v hStep => exact .inl hStep.fabric
  | stage h i p => exact .inl (by rw [stageFields_eq])
  | digest hDigest v => exact .inl (by rw [setDigest_eq])
  | _ => exact .inl rfl

theorem Atom.fabricSound (h : Atom w s t) (hTables : TablesCanonical s) (hs : FabricSound s) : FabricSound t := by
  obtain ⟨-, -, -, -, -, -, -, hEntries⟩ := hTables
  have hCadence := hs.2.2.2.2.2
  rw [fabricSound_iff]
  rcases h.fabric_cases with hSame | hWrite | rfl | rfl | rfl | ⟨timer, request, hSame⟩
  · rw [hSame]; exact hs
  · exact hWrite.fabricSound hEntries hs
  · exact Fabric.sound_of (f := s.fabric) (tickTimer_eq_none _) rfl rfl rfl hCadence hs
  · exact ⟨iff_of_true rfl rfl, fun i => iff_of_false EntryStatus.noConfusion (by rintro ⟨c, hc, -⟩; cases hc),
      fun c hc => (by cases hc), fun i _ => rfl, Nat.succ_pos 511, .inl rfl⟩
  · have hEntry := entry_softReset hEntries
    refine ⟨iff_of_true rfl rfl, fun i => ?_, fun c hc => (by cases hc), fun i hi => ?_, Nat.succ_pos 511,
      hCadence⟩
    · show ((Machine.softReset s).entry i).status = _ ↔ _
      rw [hEntry]
      exact iff_of_false (by simp [Entry.untouched]) (by rintro ⟨c, hc, -⟩; cases hc)
    · show (Machine.softReset s).entry i = _
      rw [hEntry, show s.entry i = _ from hs.2.2.2.1 i hi]
  · rw [hSame]; exact Fabric.sound_of (f := s.fabric) Iff.rfl rfl rfl rfl hCadence hs

/-! ### Confirmed ports -/

/-- The law of the confirmed ports, on what the entries hold as last confirmed. -/
def ConfirmedOnce (last : Nat → Option ConnValue) : Prop :=
  ∀ i j q, last i = some (.localPort q) → last j = some (.localPort q) → i = j

theorem portsConfirmedOnce_iff : PortsConfirmedOnce s ↔ ConfirmedOnce fun i => (s.entry i).last := Iff.rfl

/-- Entries that are confirmed after were confirmed so before. -/
theorem ConfirmedOnce.of {f g : Nat → Option ConnValue} (hf : ConfirmedOnce f)
    (h : ∀ i q, g i = some (.localPort q) → f i = some (.localPort q)) : ConfirmedOnce g := fun i j q hi hj =>
  hf i j q (h i q hi) (h j q hj)

theorem confirmedOnce_confirmEntry (hEntries : Table.wf Entry.untouched s.fabric.entries = true) (c : Command)
    (h : PortsConfirmedOnce s) : PortsConfirmedOnce (confirmEntry c s) := by
  have hEntry := entry_confirmEntry hEntries c
  have hOld : ∀ j q, j ≠ c.entry → ((confirmEntry c s).entry j).last = some (.localPort q) →
      (s.entry j).last = some (.localPort q) ∧ c.value ≠ .localPort q := fun j q hj hLast => by
    rw [hEntry, if_neg hj] at hLast
    split at hLast
    · cases hLast
    next hNot => exact ⟨hLast, fun hValue => hNot ⟨q, hValue, hLast⟩⟩
  have hNew : ∀ q, ((confirmEntry c s).entry c.entry).last = some (.localPort q) → c.value = .localPort q := fun q hLast => by
    rw [hEntry, if_pos rfl] at hLast
    exact Option.some.inj hLast
  intro i j q hi hj
  by_cases hic : i = c.entry
  · by_cases hjc : j = c.entry
    · exact hic.trans hjc.symm
    · exact absurd (hNew q (hic ▸ hi)) (hOld j q hjc hj).2
  · by_cases hjc : j = c.entry
    · exact absurd (hNew q (hjc ▸ hj)) (hOld i q hic hi).2
    · exact h i j q (hOld i q hic hi).1 (hOld j q hjc hj).1

theorem FabricWrite.confirmedOnce {f : Fabric} (hWrite : FabricWrite s f)
    (hEntries : Table.wf Entry.untouched s.fabric.entries = true) (h : PortsConfirmedOnce s) :
    ConfirmedOnce fun i => (Table.get Entry.untouched f.entries i).last := by
  cases hWrite with
  | dispatch =>
    unfold Machine.dispatch
    split
    · exact h
    · split
      · refine ConfirmedOnce.of h fun j q hj => ?_
        rw [show Table.get Entry.untouched _ j = _ from entry_sendDirty _ j s] at hj
        split at hj
        next hji => rw [hji]; exact hj
        next => exact hj
      · split <;> exact h
  | done c hOut => exact confirmedOnce_confirmEntry (s := retireCommand c s) hEntries c h
  | failed c hOut =>
    refine ConfirmedOnce.of h fun j q hj => ?_
    rw [show Table.get Entry.untouched _ j = _ from entry_failEntry c j _] at hj
    split at hj
    · cases hj
    next => exact hj
  | derive =>
    refine ConfirmedOnce.of h fun j q hj => ?_
    rw [show Table.get Entry.untouched _ j = _ from entry_deriveMap j s] at hj
    split at hj
    · exact hj
    · cases hj
  | _ => exact h

theorem Atom.portsConfirmedOnce (h : Atom w s t) (hTables : TablesCanonical s) (hs : PortsConfirmedOnce s) :
    PortsConfirmedOnce t := by
  obtain ⟨-, -, -, -, -, -, -, hEntries⟩ := hTables
  have hSame : t.fabric.entries = s.fabric.entries → PortsConfirmedOnce t := fun hSame =>
    ConfirmedOnce.of hs fun i q hi => by rwa [← entry_of_entries hSame]
  rcases h.fabric_cases with hFabric | hWrite | rfl | rfl | rfl | ⟨timer, request, hFabric⟩
  · exact hSame (by rw [hFabric])
  · exact hWrite.confirmedOnce hEntries hs
  · exact hSame rfl
  · intro i j q hi; cases hi
  · intro i j q hi; rw [entry_softReset hEntries] at hi; cases hi
  · exact hSame (by rw [hFabric])

/-- Settles O17: each write of the driver keeps its laws, by induction over the atoms of a step. -/
theorem stepKeepsFabric : Obligations.StepKeepsFabric :=
  ⟨fun _ _ hTables hs h =>
    step_keeps_atoms_under (fun _ _ hAtom => hAtom.tablesCanonical) (fun _ _ hAtom => hAtom.fabricSound) hTables hs h,
    fun _ _ hTables hs h =>
      step_keeps_atoms_under (fun _ _ hAtom => hAtom.tablesCanonical) (fun _ _ hAtom => hAtom.portsConfirmedOnce) hTables hs h⟩

end Sys2Proof.Machine
end

section
/-!
PROOFS. The exchanges (O18). A commit hands the Confirmation Unit every change of outcome, and a Set Ring drops the exchanges before it
empties the plan; every other atom keeps the law of the exchanges by itself. What a commit makes of a record is said on the way.
-/

namespace Sys2Proof.Machine

variable {w : Region → Prop} {s t : State}

/-! ### One operation for each record -/

/-- An operation that writes the record of its own number alone, by a function of that record, done once for each number. -/
theorem record_forEach {f : Nat → State → State} {g : Nat → Record → Record}
    (hf : ∀ h u k, (f h u).record k = if k = h then g h (u.record h) else u.record k) {l : List Nat} (hNodup : l.Nodup)
    (s : State) (k : Nat) : (forEach l f s).record k = if k ∈ l then g k (s.record k) else s.record k := by
  induction l generalizing s with
  | nil => simp [forEach]
  | cons h l ih =>
    obtain ⟨hNew, hRest⟩ := List.nodup_cons.1 hNodup
    refine (ih hRest (f h s)).trans ?_
    rw [hf]
    by_cases hk : k = h
    · subst hk; rw [if_neg hNew, if_pos rfl, if_pos (by simp)]
    · simp [hk]

/-- The same for an operation that leaves a record that it has written before. -/
theorem record_forEach_const {f : Nat → State → State} {v : Record}
    (hf : ∀ h u k, (f h u).record k = if k = h then v else u.record k) (l : List Nat) (s : State) (k : Nat) :
    (forEach l f s).record k = if k ∈ l then v else s.record k := by
  induction l generalizing s with
  | nil => simp [forEach]
  | cons h l ih =>
    refine (ih (f h s)).trans ?_
    rw [hf]
    by_cases hk : k = h
    · subst hk; simp
    · simp [hk]

@[simp] theorem record_markChangedIf (b : Bool) (h k : Nat) (s : State) : (markChangedIf b h s).record k = s.record k := by
  unfold markChangedIf
  split
  · exact record_markChanged h k s
  · rfl

theorem handles_nodup (hs : Table.wf Record.free s.store.records = true) : s.handles.Nodup :=
  (((Table.wf_iff _ _).1 hs).1).imp Nat.ne_of_lt

theorem record_writeResult (h : Nat) (o : Outcome) (v : Reason) (s : State) (k : Nat) :
    (writeResult h o v s).record k = if k = h then { s.record h with outcome := o, reason := v } else s.record k := by
  rw [writeResult, record_markChangedIf, record_setRec]

/-- What a commit writes into a record from the plan buffer (R108). -/
def Record.planned (r : Record) (buffer : List PlanEntry) (h : Nat) : Record :=
  { r with outcome := (committedResult buffer h r).1, reason := (committedResult buffer h r).2 }

theorem record_writeResults (hs : Table.wf Record.free s.store.records = true) (k : Nat) :
    (writeResults s).record k = (s.record k).planned s.planner.buffer k := by
  have hEach := record_forEach (g := fun h r => { r with
      outcome := (committedResult s.planner.buffer h (s.record h)).1, reason := (committedResult s.planner.buffer h (s.record h)).2 })
    (fun h u k => record_writeResult h (committedResult s.planner.buffer h (s.record h)).1
      (committedResult s.planner.buffer h (s.record h)).2 u k) (handles_nodup hs) s k
  refine hEach.trans ?_
  split
  · rfl
  next hNot =>
    have hFree : s.record k = Record.free := Table.get_of_not_mem _ hNot
    rw [hFree]
    rfl

theorem record_freeExcluded (s : State) (k : Nat) :
    (freeExcluded s).record k = if k ∈ s.freedByCommit then Record.free else s.record k := by
  rw [freeExcluded, record_setDigest, record_forEach_const fun h u k => record_freeRecord h k u]

theorem node_freeExcluded (s : State) : (freeExcluded s).node = s.node := by
  have hRun : ∀ (l : List Nat) (u : State), (forEach l freeRecord u).node = u.node := fun l => by
    induction l with
    | nil => exact fun _ => rfl
    | cons h l ih => exact fun u => (ih (freeRecord h u)).trans rfl
  rw [freeExcluded, setDigest_eq]
  exact hRun _ s

theorem node_deriveMap (s : State) : (deriveMap s).node = s.node := by rw [deriveMap_eq]

theorem record_deriveMap (s : State) (k : Nat) : (deriveMap s).record k = s.record k := record_of_records (by rw [deriveMap_eq]) k

/-- The handles whose record a commit frees (R109). -/
theorem freedByCommit_writeResults (hs : Table.wf Record.free s.store.records = true) :
    (writeResults (installPlan s)).freedByCommit = s.freedByCommit := by
  have hLife : ∀ k, ((writeResults (installPlan s)).record k).lifecycle = (s.record k).lifecycle := fun k => by
    rw [record_writeResults (s := installPlan s) hs]; rfl
  have hPlanner : (writeResults (installPlan s)).planner.excluded = s.planner.excluded := by
    rw [(dynStep_writeResults _).planner]; rfl
  simp only [State.freedByCommit, hPlanner, hLife]

theorem record_commitWritten (hs : Table.wf Record.free s.store.records = true) (k : Nat) :
    (commitWritten s).record k = if k ∈ s.freedByCommit then Record.free else (s.record k).planned s.planner.buffer k := by
  rw [commitWritten, record_deriveMap, record_freeExcluded, freedByCommit_writeResults hs,
    record_writeResults (s := installPlan s) hs]
  rfl

/-! ### The law on one record -/

/-- The law of the exchanges for one record, with the part that this node has for it (R4, R138, R147). -/
def ExchangeLaw (role : Option Role) (r : Record) : Prop :=
  (r.exchange ≠ Exchange.idle → r.outcome = .detour ∧ role.isSome = true) ∧ r.exchange.attempts ≤ 8 ∧
    (r.lifecycle = .free ∨ r.lifecycle = .staged → r.outcome = .unplanned)

theorem exchangesSound_iff : ExchangesSound s ↔ ∀ h, ExchangeLaw (s.endRole h) (s.record h) := Iff.rfl

theorem exchangeLaw_free (role : Option Role) : ExchangeLaw role Record.free :=
  ⟨fun hBusy => absurd rfl hBusy, Nat.zero_le _, fun _ => rfl⟩

/-- With an idle exchange only the law of the outcome is left. -/
theorem exchangeLaw_idle {role : Option Role} {r : Record} (hIdle : r.exchange = Exchange.idle)
    (hOutcome : r.lifecycle = .free ∨ r.lifecycle = .staged → r.outcome = .unplanned) : ExchangeLaw role r :=
  ⟨fun hBusy => absurd hIdle hBusy, by rw [hIdle]; exact Nat.zero_le _, hOutcome⟩

/-- A record that is in no plan has an idle exchange. -/
theorem ExchangeLaw.idle_of_unplanned {role : Option Role} {r : Record} (h : ExchangeLaw role r)
    (hOutcome : r.outcome = .unplanned) : r.exchange = Exchange.idle := by
  by_contra hBusy
  have hDetour := (h.1 hBusy).1
  rw [hOutcome] at hDetour
  cases hDetour

/-- The law does not hang on the confirm timer. -/
theorem ExchangeLaw.timer {role : Option Role} {r : Record} (h : ExchangeLaw role r) (g : Option Nat → Option Nat)
    (hg : g none = none) :
    ExchangeLaw role { r with exchange := { r.exchange with timer := g r.exchange.timer } } := by
  obtain ⟨hBusy, hEight, hOutcome⟩ := h
  refine ⟨fun hNow => hBusy fun hIdle => hNow ?_, hEight, hOutcome⟩
  rw [hIdle, show Exchange.idle.timer = none from rfl, hg]
  rfl

theorem endRole_eq (hNode : t.node = s.node) {h : Nat} (hPlan : (t.record h).plan = (s.record h).plan) :
    t.endRole h = s.endRole h := by rw [State.endRole, State.endRole, hNode, hPlan]

/-! ### The atoms -/

/-- A record that another one replaces, in a state that changes no other record nor the ring. -/
theorem exchangesSound_of_one {h : Nat} {r : Record} (hRing : t.node.ringSize = s.node.ringSize) (hOwn : t.node.own = s.node.own)
    (hRecord : ∀ k, t.record k = if k = h then r else s.record k)
    (hLaw : ExchangeLaw (s.endRole h) (s.record h) → ExchangeLaw (r.plan.endRole s.node.ringSize s.node.own) r) :
    KeepsExchanges s t := fun hs => exchangesSound_iff.2 fun k => by
  rw [State.endRole, hRecord, hRing, hOwn]
  split
  next hk => subst hk; exact hLaw (hs k)
  next => exact hs k

theorem RecordWrite.exchangeLaw {h : Nat} {r : Record} (hWrite : RecordWrite w s h r)
    (hs : ExchangeLaw (s.endRole h) (s.record h)) : ExchangeLaw (r.plan.endRole s.node.ringSize s.node.own) r := by
  obtain ⟨hBusy, hEight, hOutcome⟩ := id hs
  cases hWrite with
  | active hDigest hStaged => exact exchangeLaw_idle (hs.idle_of_unplanned (hOutcome (.inr hStaged))) (by rintro (h | h) <;> cases h)
  | retiring hActive => exact ⟨hBusy, hEight, by rintro (h | h) <;> cases h⟩
  | port p hActive => exact ⟨hBusy, hEight, hOutcome⟩
  | planning hDigest i p hPlan hActive hSame =>
    refine ⟨fun h => ⟨(hBusy h).1, ?_⟩, hEight, hOutcome⟩
    rw [hSame]
    exact (hBusy h).2

theorem exchangesSound_each {f : Record → Record} (hRing : t.node.ringSize = s.node.ringSize) (hOwn : t.node.own = s.node.own)
    (hRecord : ∀ k, t.record k = f (s.record k)) (hLaw : ∀ role r, ExchangeLaw role r → ExchangeLaw role (f r))
    (hPlan : ∀ r : Record, (f r).plan = r.plan) : KeepsExchanges s t := fun hs => exchangesSound_iff.2 fun k => by
  rw [State.endRole, hRecord, hRing, hOwn, hPlan]
  exact hLaw _ _ (hs k)

theorem exchangesSound_same (hRing : t.node.ringSize = s.node.ringSize) (hOwn : t.node.own = s.node.own)
    (hRecord : ∀ k, t.record k = s.record k) : KeepsExchanges s t :=
  exchangesSound_each (f := id) hRing hOwn hRecord (fun _ _ h => h) fun _ => rfl

/-- An atom that does not write the region of the exchanges keeps their law. -/
theorem Atom.keepsExchanges (h : Atom w s t) (hw : ¬ w .exchange) (hTables : TablesCanonical s) : KeepsExchanges s t := by
  have hRecords := hTables.1
  have hSame : (∀ k, t.record k = s.record k) → t.node.ringSize = s.node.ringSize → t.node.own = s.node.own →
      KeepsExchanges s t := fun hRecord hRing hOwn => exchangesSound_same hRing hOwn hRecord
  cases h with
  | ticked =>
    exact exchangesSound_each (s := s) (t := tick s) (f := Record.tick) rfl rfl (record_tick hRecords)
      (fun _ _ hr => hr.timer tickTimer rfl) fun _ => rfl
  | timersStopped =>
    exact exchangesSound_each (s := s) (t := stopConfirmTimers s) (f := fun r => { r with exchange := { r.exchange with timer := none } }) rfl rfl
      (record_stopConfirmTimers hRecords) (fun _ _ hr => hr.timer (fun _ => none) rfl) fun _ => rfl
  | fullReset => exact fun _ => exchangesSound_iff.2 fun k => by rw [record_fullReset]; exact exchangeLaw_free _
  | softReset =>
    exact fun _ => exchangesSound_iff.2 fun k => by rw [record_softReset hRecords]; exact exchangeLaw_idle rfl fun _ => rfl
  | newRing hLine hExchange => exact absurd hExchange hw
  | dyn v hStep hListed hExchange => exact hExchange.resolve_left hw
  | record h r hWrite => exact exchangesSound_of_one rfl rfl (fun k => record_setRec s h k r) hWrite.exchangeLaw
  | stage h i p hPlan hRange hCheck =>
    obtain ⟨hLife, -⟩ := stageCheck_pass_iff.1 hCheck
    refine exchangesSound_of_one (by rw [stageFields_eq]) (by rw [stageFields_eq]) (fun k => record_stageFields h k p _ s)
      fun hLaw => ?_
    have hOutcome := hLaw.2.2 hLife
    exact exchangeLaw_idle (hLaw.idle_of_unplanned hOutcome) fun _ => hOutcome
  | free h => exact exchangesSound_of_one rfl rfl (fun k => record_freeRecord h k s) fun _ => exchangeLaw_free _
  | digest hDigest v => exact hSame (record_setDigest v s) (by rw [setDigest_eq]) (by rw [setDigest_eq])
  | mon hLine d m => cases d <;> exact hSame (fun _ => rfl) rfl rfl
  | lane d l => cases d <;> exact hSame (fun _ => rfl) rfl rfl
  | _ => exact hSame (fun _ => rfl) rfl rfl

theorem Atoms.tablesCanonical (h : Atoms w s t) (hs : TablesCanonical s) : TablesCanonical t :=
  h.keeps (fun _ _ hAtom => hAtom.tablesCanonical) hs

/-- Every region but that of the exchanges. -/
def notExchange (r : Region) : Prop := r ≠ .exchange

theorem Atoms.exchangesSound (h : Atoms w s t) (hw : ¬ w .exchange) (hTables : TablesCanonical s) (hs : ExchangesSound s) :
    ExchangesSound t := by
  have hBoth : TablesCanonical t ∧ ExchangesSound t :=
    h.keeps (P := fun u => TablesCanonical u ∧ ExchangesSound u)
      (fun _ _ hAtom ⟨hTables, hu⟩ => ⟨hAtom.tablesCanonical hTables, hAtom.keepsExchanges hw hTables hu⟩) ⟨hTables, hs⟩
  exact hBoth.2

/-! ### The commit -/

/-- Between the writing of the outcomes and the Confirmation Unit, an exchange may also stand for a detour that was. -/
def MidLaw (before : Outcome) (role : Option Role) (r : Record) : Prop :=
  (r.exchange ≠ Exchange.idle → (before = .detour ∨ r.outcome = .detour) ∧ role.isSome = true) ∧ r.exchange.attempts ≤ 8 ∧
    (r.lifecycle = .free ∨ r.lifecycle = .staged → r.outcome = .unplanned)

/-- A record takes its outcome from the plan buffer. -/
theorem ExchangeLaw.planned {role : Option Role} {r : Record} (h : ExchangeLaw role r) (buffer : List PlanEntry) (k : Nat) :
    MidLaw r.outcome role (r.planned buffer k) := by
  obtain ⟨hBusy, hEight, hOutcome⟩ := h
  refine ⟨fun hNow => ⟨.inl (hBusy hNow).1, (hBusy hNow).2⟩, hEight, fun hLife => ?_⟩
  have hSame : (committedResult buffer k r).1 = r.outcome := by
    unfold committedResult
    rcases hLife with hFree | hStaged
    · rw [show r.lifecycle = .free from hFree]
    · rw [show r.lifecycle = .staged from hStaged]
  exact hSame.trans (hOutcome hLife)

theorem record_enterAwaiting (h : Nat) (r : Role) (s : State) (k : Nat) :
    (enterAwaiting h r s).record k = if k = h then { s.record h with exchange := { (s.record h).exchange with
      state := if (s.record h).exchange.heardTheirs then .restored else .awaiting,
      attempts := 1, sending := true, timer := some s.confirmTime } } else s.record k := by
  unfold enterAwaiting
  dsimp only
  rw [record_setExchange, record_sendConfirm, record_sendConfirm]

/-- A detour that starts or stands here has its exchange, and no other record has one (R139). -/
theorem confirmOutcome_law {before : Outcome} {h : Nat} (hMid : MidLaw before (s.endRole h) (s.record h)) :
    ExchangeLaw (s.endRole h) ((confirmOutcome h before s).record h) := by
  obtain ⟨hBusy, hEight, hOutcome⟩ := hMid
  unfold confirmOutcome
  split
  next hRole =>
    refine exchangeLaw_idle ?_ hOutcome
    by_contra hNot
    have := (hBusy hNot).2
    rw [hRole] at this
    cases this
  next r hRole =>
    by_cases hStarts : before ≠ .detour ∧ (s.record h).outcome = .detour
    · rw [if_pos hStarts]
      have hLaw : ∀ x : Exchange, x.attempts ≤ 8 → ExchangeLaw (s.endRole h) { s.record h with exchange := x } :=
        fun x hx => ⟨fun _ => ⟨hStarts.2, by rw [hRole]; rfl⟩, hx, hOutcome⟩
      have hPending : (setExchange h { Exchange.idle with state := .pending } s).record h =
          { s.record h with exchange := { Exchange.idle with state := .pending } } := by
        rw [record_setExchange, if_pos rfl]
      unfold testLocal
      split
      · rw [hPending]; exact hLaw { Exchange.idle with state := .pending } (Nat.zero_le _)
      · split
        · rw [record_enterAwaiting, if_pos rfl, hPending]
          exact hLaw { Exchange.idle with
            state := if Exchange.idle.heardTheirs then .restored else .awaiting, attempts := 1, sending := true,
            timer := some _ } (Nat.le_of_ble_eq_true rfl)
        · rw [hPending]; exact hLaw { Exchange.idle with state := .pending } (Nat.zero_le _)
    · rw [if_neg hStarts]
      split
      · rw [record_setExchange, if_pos rfl]
        exact exchangeLaw_idle rfl hOutcome
      next hNoEnd =>
        refine ⟨fun hNow => ⟨?_, (hBusy hNow).2⟩, hEight, hOutcome⟩
        rcases (hBusy hNow).1 with hBefore | hDetour
        · exact by_contra fun hNot => hNoEnd ⟨hBefore, hNot⟩
        · exact hDetour

/-- When the Confirmation Unit has been handed every outcome, the law of the exchanges holds. -/
theorem exchangesSound_handOutcomes {old : State} (hMid : ∀ h, MidLaw (old.record h).outcome (s.endRole h) (s.record h)) :
    ExchangesSound (handOutcomes old s) := by
  have hRun : ∀ (l : List Nat) (u : State), (∀ h, MidLaw (old.record h).outcome (u.endRole h) (u.record h)) →
      (∀ h, h ∈ l ∨ ExchangeLaw (u.endRole h) (u.record h)) →
      ExchangesSound (forEach l (fun h t => confirmOutcome h (old.record h).outcome t) u) := fun l => by
    induction l with
    | nil => exact fun u _ hLaw h => (hLaw h).resolve_left (by simp)
    | cons h l ih =>
      intro u hMid hLaw
      have hStep := dynStep_confirmOutcome (w := (· = h)) (s := u) rfl (old.record h).outcome
      have hDone := confirmOutcome_law (hMid h)
      refine ih _ (fun k => ?_) (fun k => ?_) <;> rw [hStep.endRole]
      · by_cases hk : k = h
        · subst hk
          exact ⟨fun hBusy => ⟨.inr (hDone.1 hBusy).1, (hDone.1 hBusy).2⟩, hDone.2⟩
        · rw [hStep.others k hk]; exact hMid k
      · by_cases hk : k = h
        · subst hk; exact .inr hDone
        · rw [hStep.others k hk]
          exact (hLaw k).imp_left fun hMem => (List.mem_cons.1 hMem).resolve_left hk
  refine hRun s.handles s hMid fun h => ?_
  by_cases hListed : h ∈ s.handles
  · exact .inl hListed
  · rw [show s.record h = Record.free from Table.get_of_not_mem _ hListed]
    exact .inr (exchangeLaw_free _)

theorem endRole_commitWritten (hs : Table.wf Record.free s.store.records = true) {h : Nat} (hKept : h ∉ s.freedByCommit) :
    (commitWritten s).endRole h = s.endRole h := by
  have hNode : (commitWritten s).node = s.node := by
    rw [commitWritten, node_deriveMap, node_freeExcluded, (dynStep_writeResults _).node]
    rfl
  exact endRole_eq hNode (by rw [record_commitWritten hs, if_neg hKept]; rfl)

theorem exchangesSound_commitSweep (hTables : TablesCanonical s) (hs : ExchangesSound s) : ExchangesSound (commitSweep s) := by
  have hMid : ∀ h, MidLaw (s.record h).outcome ((commitWritten s).endRole h) ((commitWritten s).record h) := fun h => by
    by_cases hFreed : h ∈ s.freedByCommit
    · rw [record_commitWritten hTables.1, if_pos hFreed]
      exact ⟨fun hBusy => absurd rfl hBusy, Nat.zero_le _, fun _ => rfl⟩
    · rw [endRole_commitWritten hTables.1 hFreed, record_commitWritten hTables.1, if_neg hFreed]
      exact (exchangesSound_iff.1 hs h).planned _ _
  have hHanded := exchangesSound_handOutcomes hMid
  have hHandedTables : TablesCanonical (handOutcomes s (commitWritten s)) :=
    Atoms.tablesCanonical ((atoms_commitWritten (w := everyRegion) trivial trivial s).trans
      (atoms_dyn_listed (dynStep_handOutcomes s _) (.inl trivial))) hTables
  have hRest : Atoms notExchange (handOutcomes s (commitWritten s)) (commitSweep s) :=
    (((atoms_dispatch _).trans (atoms_refreshConn _)).trans (atoms_endCommit _)).trans
      (atoms_runningCheck (by simp [notExchange]) _)
  exact hRest.exchangesSound (by simp [notExchange]) hHandedTables hHanded

/-! ### Set Ring -/

/-- No exchange stands, and no record outside the table has an outcome. -/
def NoExchange (s : State) : Prop :=
  ∀ h, (s.record h).exchange = Exchange.idle ∧
    ((s.record h).lifecycle = .free ∨ (s.record h).lifecycle = .staged → (s.record h).outcome = .unplanned)

theorem NoExchange.sound (h : NoExchange s) : ExchangesSound s :=
  exchangesSound_iff.2 fun k => exchangeLaw_idle (h k).1 (h k).2

theorem exchange_dropDetour {h : Nat} (hLaw : ExchangeLaw (s.endRole h) (s.record h)) :
    (dropDetour h s).record h = { s.record h with exchange := Exchange.idle } := by
  have hIdle : (s.record h).exchange = Exchange.idle → s.record h = { s.record h with exchange := Exchange.idle } :=
    fun hIdle => by rw [← hIdle]
  unfold dropDetour
  split
  next hRole =>
    refine hIdle (by_contra fun hBusy => ?_)
    have hSome := (hLaw.1 hBusy).2
    rw [hRole] at hSome
    cases hSome
  next =>
    split
    · rw [record_setExchange, if_pos rfl]
    next hOther => exact hIdle (by_contra fun hBusy => hOther (hLaw.1 hBusy).1)

/-- Dropping every detour leaves no exchange (R117). -/
theorem noExchange_dropDetours (hs : ExchangesSound s) : NoExchange (forEach s.handles dropDetour s) := by
  have hRun : ∀ (l : List Nat) (u : State), ExchangesSound u → (∀ h, h ∈ l ∨ (u.record h).exchange = Exchange.idle) →
      ∀ h, ((forEach l dropDetour u).record h).exchange = Exchange.idle := fun l => by
    induction l with
    | nil => exact fun u _ hIdle h => (hIdle h).resolve_left (by simp)
    | cons h l ih =>
      intro u hu hIdle
      have hStep := dynStep_dropDetour (w := (· = h)) (s := u) rfl
      refine ih _ (keepsExchanges_dropDetour h u hu) fun k => ?_
      by_cases hk : k = h
      · subst hk; rw [exchange_dropDetour (hu k)]; exact .inr rfl
      · rw [hStep.others k hk]
        exact (hIdle k).imp_left fun hMem => (List.mem_cons.1 hMem).resolve_left hk
  refine fun h => ⟨hRun s.handles s hs (fun k => ?_) h, (keepsExchanges_dropDetours s hs h).2.2⟩
  by_cases hListed : k ∈ s.handles
  · exact .inl hListed
  · rw [show s.record k = Record.free from Table.get_of_not_mem _ hListed]
    exact .inr rfl

theorem noExchange_unplan (h : Nat) (hs : NoExchange s) : NoExchange (unplan h s) := by
  have hWrite : NoExchange (writeResult h .unplanned .none s) := fun k => by
    rw [record_writeResult]
    split
    next hk => subst hk; exact ⟨(hs k).1, fun _ => rfl⟩
    next => exact hs k
  unfold unplan
  split
  · exact hWrite
  · exact hWrite
  · exact hs

theorem noExchange_unplans (l : List Nat) (s : State) (hs : NoExchange s) : NoExchange (forEach l unplan s) := by
  induction l generalizing s with
  | nil => exact hs
  | cons h l ih => exact ih _ (noExchange_unplan h hs)

theorem noExchange_ringWritten (ringId n own : Nat) (hs : ExchangesSound s) : NoExchange (ringWritten ringId n own s) :=
  noExchange_dropDetours hs

theorem exchangesSound_changeRing {ringId n own : Nat} (hState : s.node.state = .configuring)
    (hFields : ringFieldsOk ringId n own = true) (hApart : s.clashUnder n = none) (hTables : TablesCanonical s)
    (hs : ExchangesSound s) : ExchangesSound (changeRing ringId n own s) := by
  have hUnplanned := (noExchange_unplans (ringWritten ringId n own s).handles _ (noExchange_ringWritten ringId n own hs)).sound
  have hKept : TablesCanonical (forEach (ringWritten ringId n own s).handles unplan (ringWritten ringId n own s)) :=
    Atoms.tablesCanonical ((atoms_ringWritten (w := everyRegion) trivial trivial ringId n own s hState hFields hApart).trans
      (atoms_dyn_listed (dynStep_unplans _) (.inl trivial))) hTables
  have hRest : Atoms notExchange (forEach (ringWritten ringId n own s).handles unplan (ringWritten ringId n own s))
      (changeRing ringId n own s) := by
    have hLine : notExchange .line := by simp [notExchange]
    exact (((atoms_refreshConn _).trans (atoms_evalMonitor hLine .east _)).trans (atoms_evalMonitor hLine .west _)).trans
      (atoms_refreshReports hLine _)
  exact hRest.exchangesSound (by simp [notExchange]) hKept hUnplanned

theorem Event.exchangesSound (h : Event s t) (hTables : TablesCanonical s) (hs : ExchangesSound s) : ExchangesSound t := by
  have hWrites : notExchange .line ∧ notExchange .digest ∧ notExchange .stream := by simp [notExchange]
  obtain ⟨hLine, hDigest, hStream⟩ := hWrites
  have hKept : Atoms notExchange s t → ExchangesSound t := fun hRun => hRun.exchangesSound (fun hNot => hNot rfl) hTables hs
  cases h with
  | quiet h => exact hKept h.atoms
  | line h => exact hKept (h.atoms hLine)
  | digest h => exact hKept (h.atoms hDigest)
  | stream h => exact hKept (h.atoms hDigest hStream)
  | commit hReady => exact exchangesSound_commitSweep hTables hs
  | setRing ringId n own hState hFields hFit hApart => exact exchangesSound_changeRing hState hFields hApart hTables hs

/-- Settles O18: the events keep the law of the exchanges; only within a commit and a Set Ring is it broken for a while. -/
theorem stepKeepsExchanges : Obligations.StepKeepsExchanges := fun _ _ hTables hs h =>
  step_keeps_under (fun _ _ hEvent => hEvent.atoms.keeps fun _ _ hAtom => hAtom.tablesCanonical)
    (fun _ _ hEvent => hEvent.exchangesSound) hTables hs h

end Sys2Proof.Machine
end

section
/-!
PROOFS. The table digest (O15): the sum of the codes as a sum over the handles, what each write of a record does to it, and the four
events that write it.
-/

namespace Sys2Proof.Machine

variable {w : Region → Prop} {s t : State}

/-! ### The sum of the codes -/

theorem digestTerm_of_lifecycle {r : Record} (hFree : r.lifecycle = .free ∨ r.lifecycle = .staged) : digestTerm r = 0 := by
  unfold digestTerm
  rcases hFree with h | h <;> rw [h]

/-- The sum over a table is the sum over any set of numbers that holds the listed ones. -/
theorem digestSum_eq_sum {t : Table Record} (ht : Table.wf Record.free t = true) {S : Finset Nat}
    (hS : ∀ k ∈ Table.keys t, k ∈ S) : digestSum t = ∑ k ∈ S, digestTerm (Table.get Record.free t k) := by
  obtain ⟨hKeys, -⟩ := (Table.wf_iff _ _).1 ht
  clear ht
  induction t generalizing S with
  | nil => exact (Finset.sum_eq_zero fun _ _ => rfl).symm
  | cons e t ih =>
    obtain ⟨k, r⟩ := e
    have hOrder : (k :: Table.keys t).Pairwise (· < ·) := hKeys
    obtain ⟨hFirst, hRest⟩ := List.pairwise_cons.1 hOrder
    have hk : k ∈ S := hS k (by simp [Table.keys])
    have hRestIn : ∀ j ∈ Table.keys t, j ∈ S.erase k := fun j hj =>
      Finset.mem_erase.2 ⟨Nat.ne_of_gt (hFirst j hj), hS j (List.mem_cons_of_mem _ hj)⟩
    have hOther : ∀ j ∈ S.erase k, digestTerm (Table.get Record.free ((k, r) :: t) j) =
        digestTerm (Table.get Record.free t j) := fun j hj => by
      rw [Table.get, if_neg (Finset.ne_of_mem_erase hj).symm]
    rw [digestSum, ih hRestIn hRest, ← Finset.add_sum_erase S _ hk, Finset.sum_congr rfl hOther, Table.get, if_pos rfl]

/-- Two tables with the same terms have the same sum. -/
theorem digestSum_congr {t u : Table Record} (ht : Table.wf Record.free t = true) (hu : Table.wf Record.free u = true)
    (hTerm : ∀ k, digestTerm (Table.get Record.free u k) = digestTerm (Table.get Record.free t k)) :
    digestSum u = digestSum t := by
  have hUnion : ∀ k ∈ Table.keys t ++ Table.keys u, k ∈ (Table.keys t ++ Table.keys u).toFinset := fun k hk =>
    List.mem_toFinset.2 hk
  rw [digestSum_eq_sum ht fun k hk => hUnion k (List.mem_append_left _ hk),
    digestSum_eq_sum hu fun k hk => hUnion k (List.mem_append_right _ hk)]
  exact Finset.sum_congr rfl fun k _ => hTerm k

/-- Writing one record takes its old term out of the sum and puts the new one in. -/
theorem digestSum_of_one {t u : Table Record} (ht : Table.wf Record.free t = true) (hu : Table.wf Record.free u = true)
    {h : Nat} {r : Record}
    (hGet : ∀ k, Table.get Record.free u k = if k = h then r else Table.get Record.free t k) :
    digestSum u = digestSum t - digestTerm (Table.get Record.free t h) + digestTerm r := by
  have hUnion : ∀ k ∈ h :: (Table.keys t ++ Table.keys u), k ∈ (h :: (Table.keys t ++ Table.keys u)).toFinset := fun k hk =>
    List.mem_toFinset.2 hk
  have hh := hUnion h (by simp)
  have hOther : ∀ k ∈ (h :: (Table.keys t ++ Table.keys u)).toFinset.erase h,
      digestTerm (Table.get Record.free u k) = digestTerm (Table.get Record.free t k) := fun k hk => by
    rw [hGet, if_neg (Finset.ne_of_mem_erase hk)]
  rw [digestSum_eq_sum ht fun k hk => hUnion k (List.mem_cons_of_mem _ (List.mem_append_left _ hk)),
    digestSum_eq_sum hu fun k hk => hUnion k (List.mem_cons_of_mem _ (List.mem_append_right _ hk)),
    ← Finset.add_sum_erase _ _ hh, ← Finset.add_sum_erase _ _ hh, Finset.sum_congr rfl hOther, hGet, if_pos rfl]
  abel

/-! ### The digest that a state should have -/

/-- The digest of the records and delays of a state is `v` (R19); the records are in canonical form, and the excluded set holds each
handle once. -/
def DigestFor (v : BitVec 32) (s : State) : Prop :=
  Table.wf Record.free s.store.records = true ∧ rising s.planner.excluded = true ∧
    v = digestSum s.store.records + crc32 (delayImage s.map.delays)

theorem digestSound_iff : DigestSound s ↔ DigestFor s.store.digest s := Iff.rfl

theorem DigestFor.of_terms {v : BitVec 32} (hs : DigestFor v s) (hRecords : Table.wf Record.free t.store.records = true)
    (hExcluded : rising t.planner.excluded = true) (hDelays : t.map.delays = s.map.delays)
    (hTerm : ∀ k, digestTerm (t.record k) = digestTerm (s.record k)) : DigestFor v t :=
  ⟨hRecords, hExcluded, by rw [hDelays, digestSum_congr hs.1 hRecords hTerm]; exact hs.2.2⟩

/-- Writing one record moves the digest by the difference of the terms. -/
theorem DigestFor.of_one {v : BitVec 32} (hs : DigestFor v s) {h : Nat} {r : Record}
    (hRecords : Table.wf Record.free t.store.records = true) (hExcluded : t.planner.excluded = s.planner.excluded)
    (hDelays : t.map.delays = s.map.delays) (hRecord : ∀ k, t.record k = if k = h then r else s.record k) :
    DigestFor (v - digestTerm (s.record h) + digestTerm r) t := by
  refine ⟨hRecords, by rw [hExcluded]; exact hs.2.1, ?_⟩
  rw [hs.2.2, hDelays, digestSum_of_one hs.1 hRecords hRecord, State.record]
  abel

theorem DigestFor.setDigest {v : BitVec 32} (hs : DigestFor v s) : DigestSound (setDigest v s) := by
  rw [digestSound_iff]
  have hDigest : (Machine.setDigest v s).store.digest = v := by rw [setDigest_eq]
  rw [hDigest, setDigest_eq]
  exact hs

theorem rising_excluded_planner {p : Planner} (hWrite : PlannerWrite s p) (hs : rising s.planner.excluded = true) :
    rising p.excluded = true := by
  cases hWrite with
  | sweep snapshot n hn => rfl
  | keep => exact hs
  | discard snapshot => rfl
  | gather hPos =>
    rw [gatherOne_excluded]
    split
    · exact setInsert_rising _ hs
    · exact hs
  | candidate cls pass e hFirst =>
    unfold treatCandidate
    dsimp only
    split <;> exact hs
  | extra => exact hs

theorem records_stageFields (h : Nat) (p : Planning) (port : Option Byte) (s : State) :
    (stageFields h p port s).store.records = Table.set Record.free s.store.records h ((s.record h).staged h p port) := by
  unfold stageFields
  dsimp only
  split
  · rfl
  · split <;> rfl

theorem records_setMon (d : Side) (m : Monitor) (s : State) : (s.setMon d m).store.records = s.store.records := by
  rw [State.setMon_store]

/-- The term of a record that is written without a change of code or of place in the table. -/
theorem RecordWrite.digestTerm {h : Nat} {r : Record} (hWrite : RecordWrite w s h r) (hw : ¬ w .digest) :
    Machine.digestTerm r = Machine.digestTerm (s.record h) := by
  cases hWrite with
  | active hDigest => exact absurd hDigest hw
  | retiring hActive => simp [Machine.digestTerm, hActive]
  | port p hActive => rfl
  | planning hDigest => exact absurd hDigest hw

theorem store_softReset (s : State) : (softReset s).store = s.store.softReset := by
  rw [softReset, evalMonitors, evalMonitor_eq .west, State.setMon_store, evalMonitor_eq .east, State.setMon_store]
  rfl

theorem store_fullReset (s : State) : (fullReset s).store = RecordStore.reset := by
  rw [fullReset, evalMonitors, evalMonitor_eq .west, State.setMon_store, evalMonitor_eq .east, State.setMon_store]
  rfl

theorem delayImage_empty : delayImage [] = List.replicate 48 0 := by decide

theorem digestSound_fullReset (s : State) : DigestSound (fullReset s) := by
  have hDelays : (fullReset s).map.delays = [] := rfl
  refine ⟨by rw [store_fullReset]; rfl, rfl, ?_⟩
  rw [store_fullReset, hDelays, delayImage_empty]
  exact (zero_add _).symm

/-- An atom that does not write the region of the digest keeps it sound. -/
theorem Atom.digestSound (h : Atom w s t) (hw : ¬ w .digest) (hs : DigestSound s) : DigestSound t := by
  obtain ⟨hRecords, hRising, -⟩ := id hs
  have hEach : t.store.digest = s.store.digest → Table.wf Record.free t.store.records = true →
      rising t.planner.excluded = true → t.map.delays = s.map.delays →
      (∀ k, digestTerm (t.record k) = digestTerm (s.record k)) → DigestSound t := fun hDigest hWf hExcluded hDelays hTerm =>
    digestSound_iff.2 (hDigest ▸ DigestFor.of_terms (digestSound_iff.1 hs) hWf hExcluded hDelays hTerm)
  have hOne : ∀ {k r}, t.store.digest = s.store.digest → t.store.records = Table.set Record.free s.store.records k r →
      t.planner.excluded = s.planner.excluded → t.map.delays = s.map.delays → digestTerm r = digestTerm (s.record k) →
      DigestSound t := fun {k r} hDigest hSet hExcluded hDelays hTerm => by
    refine hEach hDigest (hSet ▸ Table.set_wf k r hRecords) (hExcluded ▸ hRising) hDelays fun j => ?_
    rw [State.record, hSet, Table.get_set]
    split
    next hj => rw [hj, hTerm]
    next => rfl
  cases h with
  | ticked =>
    exact hEach rfl (by exact Table.mapValues_wf (fun _ r => r.tick) hRecords) hRising rfl fun k => by rw [record_tick hRecords]; rfl
  | timersStopped =>
    exact hEach rfl (by exact Table.mapValues_wf (fun _ r => { r with exchange := { r.exchange with timer := none } }) hRecords)
      hRising rfl fun k => by rw [record_stopConfirmTimers hRecords]; rfl
  | fullReset => exact digestSound_fullReset s
  | softReset =>
    have hStore := store_softReset s
    exact hEach (by rw [hStore]; rfl) (by rw [hStore]; exact Table.mapValues_wf (fun _ r => r.softReset) hRecords) rfl rfl
      fun k => by rw [record_softReset hRecords]; rfl
  | mon hLine d m => cases d <;> exact hs
  | lane d l => cases d <;> exact hs
  | own d r => cases d <;> exact hs
  | delay hDigest => exact absurd hDigest hw
  | planner p hWrite => exact hEach rfl hRecords (rising_excluded_planner hWrite hRising) rfl fun _ => rfl
  | newRing => exact hEach rfl hRecords rfl rfl fun _ => rfl
  | dyn v hStep =>
    refine hEach hStep.digest (hStep.canonical hRecords) (by rw [hStep.planner]; exact hRising) (by rw [hStep.map]) fun k => ?_
    unfold digestTerm
    rw [hStep.lifecycle, hStep.code]
  | record h r hWrite => exact hOne (r := r) rfl rfl rfl rfl (hWrite.digestTerm hw)
  | stage h i p hPlan hRange hCheck =>
    obtain ⟨hLife, -⟩ := stageCheck_pass_iff.1 hCheck
    refine hOne (by rw [stageFields_eq]) (records_stageFields h p _ s) (by rw [stageFields_eq]) (by rw [stageFields_eq]) ?_
    rw [digestTerm_of_lifecycle hLife, digestTerm_of_lifecycle (.inr rfl)]
  | free h hDigest =>
    refine hOne (k := h) (r := Record.free) rfl rfl rfl rfl ?_
    rw [digestTerm_of_lifecycle (.inr (hDigest.resolve_left hw)), digestTerm_of_lifecycle (.inl rfl)]
  | digest hDigest => exact absurd hDigest hw
  | _ => exact hs

/-- Every region but that of the digest. -/
def notDigest (r : Region) : Prop := r ≠ .digest

theorem Atoms.digestSound (h : Atoms w s t) (hw : ¬ w .digest) (hs : DigestSound s) : DigestSound t :=
  h.keeps (fun _ _ hAtom => hAtom.digestSound hw) hs

/-! ### Records that enter and leave the table -/

theorem foldl_add_eq {α : Type} (f : α → BitVec 32) (l : List α) (v : BitVec 32) :
    l.foldl (fun acc a => acc + f a) v = v + (l.map f).sum := by
  induction l generalizing v with
  | nil => simp
  | cons a l ih => rw [List.foldl_cons, ih, List.map_cons, List.sum_cons, add_assoc]

theorem codeSum_eq (s : State) (l : List Nat) : s.codeSum l = (l.map fun h => (s.record h).code).sum := by
  rw [State.codeSum, foldl_add_eq]
  exact zero_add _

theorem wf_freeRecord (h : Nat) (hs : Table.wf Record.free s.store.records = true) :
    Table.wf Record.free (freeRecord h s).store.records = true :=
  canonical_setRec (s := leaveBucket (s.record h).plan.circuit h s) (h := h) (r := Record.free) hs

/-- Freeing records of the table takes their codes out of the digest. -/
theorem digestFor_freeRecords {l : List Nat} (hNodup : l.Nodup) {v : BitVec 32} (hs : DigestFor v s)
    (hTerm : ∀ h ∈ l, digestTerm (s.record h) = (s.record h).code) :
    DigestFor (v - s.codeSum l) (forEach l freeRecord s) := by
  rw [codeSum_eq]
  induction l generalizing v s with
  | nil => simpa [forEach] using hs
  | cons h l ih =>
    obtain ⟨hNew, hRest⟩ := List.nodup_cons.1 hNodup
    have hOne := hs.of_one (t := freeRecord h s) (wf_freeRecord h hs.1) rfl rfl (record_freeRecord h · s)
    have hSame : ∀ k ∈ l, (freeRecord h s).record k = s.record k := fun k hk => by
      rw [record_freeRecord, if_neg (fun hEq : k = h => hNew (hEq ▸ hk))]
    have hTail := ih hRest hOne fun k hk => by rw [hSame k hk]; exact hTerm k (List.mem_cons_of_mem _ hk)
    rw [List.map_congr_left fun k hk => by rw [hSame k hk], hTerm h (by simp), digestTerm_of_lifecycle (.inl rfl)] at hTail
    rw [List.map_cons, List.sum_cons]
    have hSum : v - ((s.record h).code + (l.map fun k => (s.record k).code).sum) =
        v - (s.record h).code + 0 - (l.map fun k => (s.record k).code).sum := by abel
    rw [hSum]
    exact hTail

theorem makeActive_eq (h : Nat) (s : State) : makeActive h s =
    { s with
      store := { s.store with records := Table.set Record.free s.store.records h { s.record h with lifecycle := .active } },
      planner := { s.planner with late := (makeActive h s).planner.late } } := by
  unfold makeActive
  dsimp only
  split <;> rfl

/-- Making Staged records Active puts their codes into the digest. -/
theorem digestFor_makeActives {l : List Nat} (hNodup : l.Nodup) {v : BitVec 32} (hs : DigestFor v s)
    (hStaged : ∀ h ∈ l, (s.record h).lifecycle = .staged) : DigestFor (v + s.codeSum l) (forEach l makeActive s) := by
  rw [codeSum_eq]
  induction l generalizing v s with
  | nil => simpa [forEach] using hs
  | cons h l ih =>
    obtain ⟨hNew, hRest⟩ := List.nodup_cons.1 hNodup
    have hWf : Table.wf Record.free (makeActive h s).store.records = true := by
      rw [makeActive_eq]; exact Table.set_wf h { s.record h with lifecycle := .active } hs.1
    have hOne := hs.of_one (t := makeActive h s) hWf (by rw [makeActive_eq]) (by rw [makeActive_eq])
      (record_makeActive h · s)
    have hSame : ∀ k ∈ l, (makeActive h s).record k = s.record k := fun k hk => by
      rw [record_makeActive, if_neg (fun hEq : k = h => hNew (hEq ▸ hk))]
    have hTail := ih hRest hOne fun k hk => by rw [hSame k hk]; exact hStaged k (List.mem_cons_of_mem _ hk)
    rw [List.map_congr_left fun k hk => by rw [hSame k hk], digestTerm_of_lifecycle (.inr (hStaged h (by simp)))] at hTail
    rw [List.map_cons, List.sum_cons]
    have hSum : v + ((s.record h).code + (l.map fun k => (s.record k).code).sum) =
        v - 0 + (s.record h).code + (l.map fun k => (s.record k).code).sum := by abel
    rw [hSum]
    exact hTail

/-! ### The events that write the digest -/

theorem digestSound_activateAll {l : List Nat} (hNodup : l.Nodup) (hStaged : ∀ h ∈ l, (s.record h).lifecycle = .staged)
    (hs : DigestSound s) : DigestSound (activateAll l s) :=
  (atoms_hostTrigger (w := notDigest) _).digestSound (fun hNot => hNot rfl)
    (digestFor_makeActives hNodup (digestSound_iff.1 hs) hStaged).setDigest

theorem digestSound_writeDelay (span : Nat) (delay : BitVec 16) (hs : DigestSound s) : DigestSound (writeDelay span delay s) := by
  refine (atoms_hostTrigger (w := notDigest) _).digestSound (fun hNot => hNot rfl) (DigestFor.setDigest ⟨hs.1, hs.2.1, ?_⟩)
  rw [hs.2.2]
  exact congrArg (· + _) (add_sub_cancel_right _ _)

theorem digestSound_retireFields {h : Nat} (hActive : (s.record h).lifecycle = .active) (hs : DigestSound s) :
    DigestSound (retireFields h s) := by
  have hTerm : digestTerm (s.record h) = (s.record h).code := by simp [digestTerm, hActive]
  unfold retireFields
  split
  · have hOne := (digestSound_iff.1 hs).of_one (t := freeRecord h s) (wf_freeRecord h hs.1) rfl rfl (record_freeRecord h · s)
    rw [hTerm, digestTerm_of_lifecycle (.inl rfl), add_zero] at hOne
    exact hOne.setDigest
  · have hRun : Atoms notDigest s (hostTrigger (s.setRec h { s.record h with lifecycle := .retiring })) :=
      (Atom.record h _ (.retiring hActive)).run.trans (atoms_hostTrigger _)
    exact hRun.digestSound (fun hNot => hNot rfl) hs

theorem digestSound_amendFields {h : Nat} {i : StageImage} {p : Planning} (hPlan : imagePlanning i = some p)
    (hCheck : s.amendCheck h i = .pass) (hs : DigestSound s) : DigestSound (amendFields h p (imagePort i) s) := by
  obtain ⟨hActive, -, hFits, hHeld⟩ := (amendCheck_pass_iff hPlan).1 hCheck
  have hw : ¬ notDigest .digest := fun hNot => hNot rfl
  unfold amendFields
  split
  · exact hs
  have hPort : DigestSound (amendPort h (imagePort i) s) :=
    Atom.digestSound (w := notDigest) (.record h _ (.port (imagePort i) hActive fun k hk hk' => portHeld_eq_false.1 hHeld k hk (.inl hk')))
      hw hs
  have hRecord : (amendPort h (imagePort i) s).record h = { s.record h with port := imagePort i } := by
    rw [amendPort, record_setRec, if_pos rfl]
  have hPlanning : DigestSound (amendPlanning h p (amendPort h (imagePort i) s)) := by
    unfold amendPlanning
    dsimp only
    split
    · exact hPort
    · have hTerm : digestTerm ((amendPort h (imagePort i) s).record h) = ((amendPort h (imagePort i) s).record h).code := by
        rw [hRecord]; simp [digestTerm, hActive]
      have hOne := (digestSound_iff.1 hPort).of_one (t := (amendPort h (imagePort i) s).setRec h
        { (amendPort h (imagePort i) s).record h with plan := p, code := recordCode h p })
        (canonical_setRec hPort.1) rfl rfl (record_setRec _ h · _)
      rw [hTerm, show digestTerm { (amendPort h (imagePort i) s).record h with plan := p, code := recordCode h p } =
        recordCode h p by rw [hRecord]; simp [digestTerm, hActive]] at hOne
      refine (atoms_restartSending (w := notDigest) h _ ?_).digestSound hw hOne.setDigest
      rw [record_setDigest, record_setRec, if_pos rfl, hRecord]
      exact hActive
  exact Atoms.digestSound (w := notDigest) ((((Atom.changed _).run).trans (atoms_raiseIf _ _ _)).trans (atoms_hostTrigger _)) hw hPlanning

theorem DigestEvent.digestSound (h : DigestEvent s t) (hs : DigestSound s) : DigestSound t := by
  cases h with
  | setDelay span delay => exact digestSound_writeDelay span delay hs
  | amend h i p hPlan hCheck => exact digestSound_amendFields hPlan hCheck hs
  | activate h hCheck =>
    exact digestSound_activateAll (List.nodup_singleton h)
      (fun k hk => by rw [List.mem_singleton.1 hk]; exact (activateCheck_pass_iff.1 hCheck).1) hs
  | retire h hActive => exact digestSound_retireFields hActive hs

theorem digestSound_finishStream (hs : DigestSound s) : DigestSound (finishStream s).1 := by
  have hw : ¬ notDigest .digest := fun hNot => hNot rfl
  have hStream : notDigest .stream := by simp [notDigest]
  unfold finishStream
  dsimp only
  split
  · split
    · exact (atoms_haltStream hStream _ _ _ s).digestSound hw hs
    next hNone =>
      have hStaged := fun h hh => (activatesInOrder_run hNone h hh).1
      exact (atoms_completeStream hStream _).digestSound hw
        (digestSound_activateAll List.nodup_range' hStaged hs)
  · exact (atoms_completeStream hStream s).digestSound hw hs

theorem digestSound_streamChunk (images : List StageImage) (hOpen : s.store.stream.state = .opened) (hs : DigestSound s) :
    DigestSound (carryStreamChunk images s).state := by
  have hStream : notDigest .stream := by simp [notDigest]
  have hStaged : DigestSound (stageChunk images 0 s).state :=
    (atoms_stageChunk hStream images 0 s hOpen).digestSound (fun hNot => hNot rfl) hs
  unfold carryStreamChunk
  split
  · exact hs
  · split
    · exact hs
    · dsimp only
      split
      · exact hStaged
      · split
        · exact digestSound_finishStream hStaged
        · exact hStaged

theorem StreamEvent.digestSound (h : StreamEvent s t) (hs : DigestSound s) : DigestSound t := by
  cases h with
  | streamChunk images hOpen => exact digestSound_streamChunk images hOpen hs
  | _ => exact hs

theorem digestSound_freeExcluded (hs : DigestSound s) : DigestSound (freeExcluded s) := by
  obtain ⟨hRecords, hRising, -⟩ := id hs
  have hNodup : s.freedByCommit.Nodup := (((rising_iff _).1 hRising).imp Nat.ne_of_lt).filter _
  refine (digestFor_freeRecords hNodup (digestSound_iff.1 hs) fun h hh => ?_).setDigest
  have hRetiring : (s.record h).lifecycle = .retiring := of_decide_eq_true (List.mem_filter.1 hh).2
  simp [digestTerm, hRetiring]

theorem digestSound_commitSweep (hs : DigestSound s) : DigestSound (commitSweep s) := by
  have hAll : ∀ {r : Region}, r ≠ .digest → notDigest r := fun hr => hr
  have hExchange : notDigest .exchange := by simp [notDigest]
  have hLine : notDigest .line := by simp [notDigest]
  have hw : ¬ notDigest .digest := fun hNot => hNot rfl
  have hWritten : DigestSound (writeResults (installPlan s)) :=
    Atoms.digestSound ((atoms_installPlan s).trans (atoms_dyn_listed (dynStep_writeResults _) (.inl hExchange))) hw hs
  have hRest : Atoms notDigest (freeExcluded (writeResults (installPlan s))) (commitSweep s) :=
    (((((atoms_deriveMap _).trans (atoms_dyn_listed (dynStep_handOutcomes s _) (.inl hExchange))).trans
      (atoms_dispatch _)).trans (atoms_refreshConn _)).trans (atoms_endCommit _)).trans (atoms_runningCheck hLine _)
  exact hRest.digestSound hw (digestSound_freeExcluded hWritten)

theorem Event.digestSound (h : Event s t) (hs : DigestSound s) : DigestSound t := by
  have hWrites : notDigest .line ∧ notDigest .exchange := by simp [notDigest]
  obtain ⟨hLine, hExchange⟩ := hWrites
  have hKept : Atoms notDigest s t → DigestSound t := fun hRun => hRun.digestSound (fun hNot => hNot rfl) hs
  cases h with
  | quiet h => exact hKept h.atoms
  | line h => exact hKept (h.atoms hLine)
  | digest h => exact h.digestSound hs
  | stream h => exact h.digestSound hs
  | commit hReady => exact digestSound_commitSweep hs
  | setRing ringId n own hState hFields hFit hApart =>
    exact hKept (atoms_changeRing hLine hExchange ringId n own s hState hFields hApart)

/-- Settles O15: the codes and the comparisons are kept by every atom, and the digest by every event. -/
theorem stepKeepsCodesAndDigest : Obligations.StepKeepsCodesAndDigest :=
  ⟨fun _ _ hTables hs h =>
    step_keeps_atoms_under (fun _ _ hAtom => hAtom.tablesCanonical) (fun _ _ hAtom => hAtom.codesSound) hTables hs h,
    fun _ _ hs h => step_keeps (fun _ _ hEvent => hEvent.digestSound) hs h,
    fun _ _ hs h => step_keeps_atoms (fun _ _ hAtom => hAtom.comparisonsSound) hs h⟩

end Sys2Proof.Machine
end

section
/-!
PROOFS. The Line Monitors, the own reports and the held spans (O9, O11, O12). `Calm` says what a run of atoms leaves that does not write
the region of the line; what is left are the events at a Line Monitor, each of which ends by composing and comparing.
-/

namespace Sys2Proof.Machine

variable {w : Region → Prop} {s t u : State}

/-! ### What leaves the inputs of the Line Monitors alone -/

/-- The Line Monitors and all that they work out their defects from are as before. -/
structure SameInputs (s t : State) : Prop where
  mon : ∀ d, t.mon d = s.mon d
  lock : ∀ d, (t.lane d).lock = (s.lane d).lock
  adjacency : ∀ d, (t.lane d).adjacency = (s.lane d).adjacency
  ringId : t.node.ringId = s.node.ringId

namespace SameInputs

theorem refl (s : State) : SameInputs s s := ⟨fun _ => rfl, fun _ => rfl, fun _ => rfl, rfl⟩

theorem trans (h : SameInputs s t) (k : SameInputs t u) : SameInputs s u where
  mon d := (k.mon d).trans (h.mon d)
  lock d := (k.lock d).trans (h.lock d)
  adjacency d := (k.adjacency d).trans (h.adjacency d)
  ringId := k.ringId.trans h.ringId

theorem quiet (h : SameInputs s t) (d : Side) : t.quiet d = s.quiet d := by
  rw [State.quiet, State.quiet, h.lock, h.adjacency, h.ringId]

theorem defectsNow (h : SameInputs s t) (d : Side) : t.defectsNow d = s.defectsNow d := by
  rw [State.defectsNow, State.defectsNow, h.quiet, h.lock, h.adjacency, h.ringId, h.mon]

theorem monitorSound (h : SameInputs s t) {d : Side} (hs : MonitorSound s d) : MonitorSound t d := by
  unfold MonitorSound
  rw [h.mon, h.quiet, h.defectsNow]
  exact hs

theorem refreshReports (s : State) : SameInputs s (refreshReports s) where
  mon d := mon_refreshReports s d
  lock d := by rw [lane_refreshReports]
  adjacency d := by rw [lane_refreshReports]
  ringId := by rw [refreshReports_node]

theorem compareSpans (s : State) : SameInputs s (compareSpans s) where
  mon d := by rw [compareSpans_eq]; cases d <;> rfl
  lock d := by rw [lane_compareSpans]
  adjacency d := by rw [lane_compareSpans]
  ringId := by rw [compareSpans_node]

theorem markKey (d : Side) (key : Nat) (s : State) : SameInputs s (markKey d key s) := by
  rw [markKey_eq]
  refine ⟨fun e => State.mon_setLane _ _ _ _, fun e => ?_, fun e => ?_, by rw [State.setLane_node]⟩ <;>
  · obtain rfl | rfl := Side.eq_or_eq_other e d
    · rw [State.lane_setLane]
    · rw [State.lane_setLane_other]

end SameInputs

/-! ### Calm runs -/

/-- The inputs, the reports, the held spans and the ring are as before, and the node is Running as before. -/
structure Calm (s t : State) : Prop where
  inputs : SameInputs s t
  ringSize : t.node.ringSize = s.node.ringSize
  own : t.node.own = s.node.own
  running : t.node.state = .running ↔ s.node.state = .running
  content : ∀ d, (t.map.own d).content = (s.map.own d).content
  others : t.map.others = s.map.others
  spans : t.map.spans = s.map.spans

namespace Calm

theorem refl (s : State) : Calm s s := ⟨.refl s, rfl, rfl, Iff.rfl, fun _ => rfl, rfl, rfl⟩

theorem trans (h : Calm s t) (k : Calm t u) : Calm s u where
  inputs := h.inputs.trans k.inputs
  ringSize := k.ringSize.trans h.ringSize
  own := k.own.trans h.own
  running := k.running.trans h.running
  content d := (k.content d).trans (h.content d)
  others := k.others.trans h.others
  spans := k.spans.trans h.spans

/-- The fields that the laws of the line speak of. -/
theorem of_fields (hMonEast : t.monEast = s.monEast) (hMonWest : t.monWest = s.monWest)
    (hEast : t.laneEast.lock = s.laneEast.lock ∧ t.laneEast.adjacency = s.laneEast.adjacency)
    (hWest : t.laneWest.lock = s.laneWest.lock ∧ t.laneWest.adjacency = s.laneWest.adjacency)
    (hRing : t.node.ringId = s.node.ringId ∧ t.node.ringSize = s.node.ringSize ∧ t.node.own = s.node.own)
    (hRunning : t.node.state = .running ↔ s.node.state = .running)
    (hContent : t.map.ownEast.content = s.map.ownEast.content ∧ t.map.ownWest.content = s.map.ownWest.content)
    (hOthers : t.map.others = s.map.others) (hSpans : t.map.spans = s.map.spans) : Calm s t where
  inputs := {
    mon := fun d => by cases d; exacts [hMonEast, hMonWest]
    lock := fun d => by cases d; exacts [hEast.1, hWest.1]
    adjacency := fun d => by cases d; exacts [hEast.2, hWest.2]
    ringId := hRing.1 }
  ringSize := hRing.2.1
  own := hRing.2.2
  running := hRunning
  content d := by cases d; exacts [hContent.1, hContent.2]
  others := hOthers
  spans := hSpans

theorem composed (h : Calm s t) (d : Side) : t.composed d = s.composed d := by
  simp only [State.composed, h.inputs.mon, ne_eq, h.running]

theorem ownComposed (h : Calm s t) (hs : OwnComposed s) : OwnComposed t :=
  ⟨by rw [h.content, h.composed]; exact hs.1, by rw [h.content, h.composed]; exact hs.2⟩

/-- What a report counts with hangs on its content. -/
theorem countedState (h : Calm s t) (key : Nat) : countedState (t.report key) = countedState (s.report key) := by
  have hEast : t.map.ownEast.content = s.map.ownEast.content := h.content .east
  have hWest : t.map.ownWest.content = s.map.ownWest.content := h.content .west
  unfold State.report
  rw [h.ringSize, h.own, h.others]
  split
  · exact congrArg Content.state hEast
  · split
    · exact congrArg Content.state hWest
    · rfl

theorem workedOutSpans (h : Calm s t) : t.workedOutSpans = s.workedOutSpans := by
  have hEffective : ∀ k, t.effectiveState k = s.effectiveState k := fun k => by
    rw [State.effectiveState, State.effectiveState, h.countedState, h.countedState]
  have hWorked : t.workedOut = s.workedOut := funext fun k => by
    rw [State.workedOut, State.workedOut, hEffective]
  rw [State.workedOutSpans, State.workedOutSpans, h.ringSize, hWorked]

theorem spansWorkedOut (h : Calm s t) (hs : SpansWorkedOut s) : SpansWorkedOut t :=
  h.spans.trans (hs.trans h.workedOutSpans.symm)

theorem monitorSound (h : Calm s t) (hs : ∀ d, MonitorSound s d) (d : Side) : MonitorSound t d := h.inputs.monitorSound (hs d)

end Calm

/-- An atom that does not write the region of the line is calm. -/
theorem Atom.calm (h : Atom w s t) (hw : ¬ w .line) : Calm s t := by
  cases h with
  | ticked hLine => exact absurd hLine hw
  | fullReset hLine => exact absurd hLine hw
  | softReset hLine => exact absurd hLine hw
  | mon hLine => exact absurd hLine hw
  | other hLine => exact absurd hLine hw
  | spans hLine => exact absurd hLine hw
  | running hLine => exact absurd hLine hw
  | stopped hLine => exact absurd hLine hw
  | newRing hLine => exact absurd hLine hw
  | lane d l hWrite hReceiver =>
    obtain ⟨hLock, hAdjacency⟩ := hReceiver.resolve_left hw
    cases d with
    | east => exact .of_fields rfl rfl ⟨hLock, hAdjacency⟩ ⟨rfl, rfl⟩ ⟨rfl, rfl, rfl⟩ Iff.rfl ⟨rfl, rfl⟩ rfl rfl
    | west => exact .of_fields rfl rfl ⟨rfl, rfl⟩ ⟨hLock, hAdjacency⟩ ⟨rfl, rfl, rfl⟩ Iff.rfl ⟨rfl, rfl⟩ rfl rfl
  | own d r hContent =>
    have hSame := hContent.resolve_left hw
    cases d with
    | east => exact .of_fields rfl rfl ⟨rfl, rfl⟩ ⟨rfl, rfl⟩ ⟨rfl, rfl, rfl⟩ Iff.rfl ⟨hSame, rfl⟩ rfl rfl
    | west => exact .of_fields rfl rfl ⟨rfl, rfl⟩ ⟨rfl, rfl⟩ ⟨rfl, rfl, rfl⟩ Iff.rfl ⟨rfl, hSame⟩ rfl rfl
  | joining hState =>
    exact .of_fields rfl rfl ⟨rfl, rfl⟩ ⟨rfl, rfl⟩ ⟨rfl, rfl, rfl⟩ (by simp [hState]) ⟨rfl, rfl⟩ rfl rfl
  | syncing hState =>
    exact .of_fields rfl rfl ⟨rfl, rfl⟩ ⟨rfl, rfl⟩ ⟨rfl, rfl, rfl⟩ (by simp [hState]) ⟨rfl, rfl⟩ rfl rfl
  | dyn v hStep =>
    rw [hStep.frame]
    exact .of_fields rfl rfl ⟨rfl, rfl⟩ ⟨rfl, rfl⟩ ⟨rfl, rfl, rfl⟩ Iff.rfl ⟨rfl, rfl⟩ rfl rfl
  | digest hDigest v =>
    rw [setDigest_eq]
    exact .of_fields rfl rfl ⟨rfl, rfl⟩ ⟨rfl, rfl⟩ ⟨rfl, rfl, rfl⟩ Iff.rfl ⟨rfl, rfl⟩ rfl rfl
  | stage h i p =>
    rw [stageFields_eq]
    exact .of_fields rfl rfl ⟨rfl, rfl⟩ ⟨rfl, rfl⟩ ⟨rfl, rfl, rfl⟩ Iff.rfl ⟨rfl, rfl⟩ rfl rfl
  | _ => exact .of_fields rfl rfl ⟨rfl, rfl⟩ ⟨rfl, rfl⟩ ⟨rfl, rfl, rfl⟩ Iff.rfl ⟨rfl, rfl⟩ rfl rfl

theorem Atoms.calm (h : Atoms w s t) (hw : ¬ w .line) : Calm s t :=
  h.keeps (P := Calm s) (fun _ _ hAtom hs => hs.trans (hAtom.calm hw)) (.refl s)

/-- Every region but that of the line. -/
def notLine (r : Region) : Prop := r ≠ .line

theorem not_notLine : ¬ notLine .line := fun hNot => hNot rfl

/-! ### The machine of a Line Monitor -/

/-- The laws of a Line Monitor that do not speak of its inputs (R44 to R48, R50). -/
def Monitor.working (m : Monitor) : Prop :=
  m.down = m.defects.any ∧ (m.defects.any = true → m.integrator = 0) ∧ m.holdOffTimer.isSome = m.isHolding ∧
    m.wtrTimer.isSome = m.isWaiting

theorem MonitorSound.working {d : Side} (h : MonitorSound s d) : (s.mon d).working := h.2.2

namespace Monitor

variable {m : Monitor}

/-- A defect appears beside none: the machine leaves one of the three states that are up (R44, R50). -/
theorem working_hit (ret : ReturnState) (holdOff : Nat) {m : Monitor} (hAny : m.defects.any = true) (hHoldOff : m.holdOffTimer = none)
    (hWtr : m.wtrTimer.isSome = decide (ret = .waiting)) : (m.hit holdOff ret).working := by
  unfold hit
  split
  · exact ⟨hAny.symm, fun _ => rfl, by simp [hHoldOff, isHolding], rfl⟩
  · refine ⟨hAny.symm, fun _ => rfl, rfl, ?_⟩
    cases ret <;> simpa [isWaiting] using hWtr

theorem working_setDefects (new : Defects) (holdOff wtr : Nat) (h : m.working) : (m.setDefects new holdOff wtr).working := by
  obtain ⟨hDown, hZero, hHoldOff, hWtr⟩ := h
  have hStopped : m.isHolding = false → m.holdOffTimer = none := fun hNot => by simpa [hNot] using hHoldOff
  unfold setDefects
  dsimp only
  split
  next hAppears =>
    simp only [Bool.and_eq_true, Bool.not_eq_true'] at hAppears
    obtain ⟨hBefore, hAfter⟩ := hAppears
    rw [hBefore] at hDown
    unfold defectAppears
    dsimp only
    cases hCond : m.cond with
    | clear => exact working_hit .clear _ hAfter (hStopped (by simp [isHolding, hCond])) (by simpa [isWaiting, hCond] using hWtr)
    | degraded =>
      exact working_hit .degraded _ hAfter (hStopped (by simp [isHolding, hCond])) (by simpa [isWaiting, hCond] using hWtr)
    | waiting =>
      exact working_hit .waiting _ hAfter (hStopped (by simp [isHolding, hCond])) (by simpa [isWaiting, hCond] using hWtr)
    | holding ret held => simp [down, hCond] at hDown
    | failed => simp [down, hCond] at hDown
  next =>
    split
    next hClears =>
      simp only [Bool.and_eq_true, Bool.not_eq_true'] at hClears
      obtain ⟨hBefore, hAfter⟩ := hClears
      rw [hBefore] at hDown
      have hNone : new.any = true → m.integrator = 0 := fun hNew => by rw [hAfter] at hNew; cases hNew
      unfold defectClears
      dsimp only
      cases hCond : m.cond with
      | clear => simp [down, hCond] at hDown
      | degraded => simp [down, hCond] at hDown
      | waiting => simp [down, hCond] at hDown
      | holding ret held =>
        cases ret <;>
        · simp only [isWaiting, hCond] at hWtr
          exact ⟨hAfter.symm, hNone, rfl, hWtr⟩
      | failed =>
        simp only [isWaiting, isHolding, hCond] at hWtr hHoldOff
        dsimp only
        split
        · exact ⟨hAfter.symm, hNone, hHoldOff, hWtr⟩
        · exact ⟨hAfter.symm, hNone, hHoldOff, rfl⟩
    next hNoEdge hNoClear =>
      have hSame : m.defects.any = new.any := by
        cases hBefore : m.defects.any <;> cases hAfter : new.any <;> simp_all
      exact ⟨hDown.trans hSame, fun hNew => hZero (hSame.trans hNew), hHoldOff, hWtr⟩

theorem working_takeCount (count : Nat) (h : m.working) : (m.takeCount count).working := by
  obtain ⟨hDown, hZero, hHoldOff, hWtr⟩ := id h
  unfold takeCount
  split
  · exact h
  next hNone =>
    have hStill : ∀ n : Nat, m.defects.any = true → n = 0 := fun n hAny => absurd hAny hNone
    cases hCond : m.cond <;> simp only [down, isHolding, isWaiting, hCond] at hDown hHoldOff hWtr <;> dsimp only
    case clear => split <;> exact ⟨hDown, hStill _, hHoldOff, hWtr⟩
    case degraded => split <;> exact ⟨hDown, hStill _, hHoldOff, hWtr⟩
    case waiting => exact ⟨hDown, hStill _, hHoldOff, hWtr⟩
    case holding => exact ⟨hDown, hStill _, hHoldOff, hWtr⟩
    case failed => exact ⟨hDown, hStill _, hHoldOff, hWtr⟩

theorem working_holdOffExpires (h : m.working) : m.holdOffExpires.working := by
  obtain ⟨hDown, hZero, hHoldOff, hWtr⟩ := h
  unfold holdOffExpires
  cases hCond : m.cond <;> simp only [down, isWaiting, hCond] at hDown hWtr
  case holding => exact ⟨hDown, hZero, rfl, rfl⟩
  case clear => exact ⟨hDown, hZero, rfl, hWtr⟩
  case degraded => exact ⟨hDown, hZero, rfl, hWtr⟩
  case waiting => exact ⟨hDown, hZero, rfl, hWtr⟩
  case failed => exact ⟨hDown, hZero, rfl, hWtr⟩

theorem working_wtrExpires (h : m.working) : m.wtrExpires.working := by
  obtain ⟨hDown, hZero, hHoldOff, hWtr⟩ := h
  unfold wtrExpires
  cases hCond : m.cond with
  | waiting =>
    simp only [down, isHolding, hCond] at hDown hHoldOff
    dsimp only
    split <;> exact ⟨hDown, hZero, hHoldOff, rfl⟩
  | holding ret held =>
    simp only [down, isHolding, hCond] at hDown hHoldOff
    cases ret <;> exact ⟨hDown, hZero, hHoldOff, rfl⟩
  | clear | degraded | failed =>
    simp only [down, isHolding, hCond] at hDown hHoldOff
    exact ⟨hDown, hZero, hHoldOff, rfl⟩

/-! What the events of a Line Monitor leave of it -/

theorem takeCount_eq (m : Monitor) (count : Nat) :
    m.takeCount count = { m with integrator := (m.takeCount count).integrator, cond := (m.takeCount count).cond } := by
  unfold takeCount
  split
  · rfl
  · dsimp only
    split <;> rfl

theorem holdOffExpires_eq (m : Monitor) :
    m.holdOffExpires = { m with cond := m.holdOffExpires.cond, holdOffTimer := none, wtrTimer := m.holdOffExpires.wtrTimer } := by
  unfold holdOffExpires
  split <;> rfl

theorem wtrExpires_eq (m : Monitor) : m.wtrExpires = { m with cond := m.wtrExpires.cond, wtrTimer := none } := by
  unfold wtrExpires
  split <;> rfl

theorem isSome_tickTimer (t : Option Nat) : (tickTimer t).isSome = t.isSome := by
  rw [Bool.eq_iff_iff, Option.isSome_iff_ne_none, Option.isSome_iff_ne_none, ne_eq, ne_eq, tickTimer_eq_none]

theorem working_tick (h : m.working) : m.tick.working := by
  obtain ⟨hDown, hZero, hHoldOff, hWtr⟩ := h
  exact ⟨hDown, hZero, (isSome_tickTimer _).trans hHoldOff, (isSome_tickTimer _).trans hWtr⟩

theorem working_reset : Monitor.reset.working := ⟨rfl, fun _ => rfl, rfl, rfl⟩

end Monitor

/-! ### Working out the defects -/

theorem sameInputs_evalMonitor_lane (d : Side) (s : State) (e : Side) : (evalMonitor d s).quiet e = s.quiet e := by
  rw [State.quiet, State.quiet, evalMonitor, State.lane_setMon, State.setMon_node]

theorem defects_setDefects (m : Monitor) (new : Defects) (holdOff wtr : Nat) : (m.setDefects new holdOff wtr).defects = new := by
  rw [Monitor.setDefects_eq]

/-- A Line Monitor that is evaluated agrees with its inputs (R39, R41, R42). -/
theorem monitorSound_evalMonitor {d : Side} (h : (s.mon d).working) : MonitorSound (evalMonitor d s) d := by
  refine ⟨?_, ?_, ?_⟩
  · rw [defectsNow_evalMonitor, mon_evalMonitor]
  · rw [sameInputs_evalMonitor_lane, mon_evalMonitor]
    dsimp only
    rw [State.silenceNow, State.defectsNow]
    cases s.quiet d <;> cases (s.mon d).defects.neighbourSilent <;> rfl
  · rw [evalMonitor, State.mon_setMon]
    exact Monitor.working_setDefects (m := { s.mon d with silenceTimer := s.silenceNow d }) _ _ _ h

/-- The other Line Monitor does not see it. -/
theorem monitorSound_evalMonitor_other {d : Side} (h : MonitorSound s d.other) : MonitorSound (evalMonitor d s) d.other := by
  have hMon : (evalMonitor d s).mon d.other = s.mon d.other := by rw [evalMonitor, State.mon_setMon_other]
  have hNow : (evalMonitor d s).defectsNow d.other = s.defectsNow d.other := by
    rw [State.defectsNow, State.defectsNow, sameInputs_evalMonitor_lane, hMon, evalMonitor, State.lane_setMon, State.setMon_node]
  unfold MonitorSound
  rw [hMon, hNow, sameInputs_evalMonitor_lane]
  exact h

theorem forall_side {P : Side → Prop} (d : Side) (h : P d) (hOther : P d.other) (e : Side) : P e := by
  obtain rfl | rfl := Side.eq_or_eq_other e d
  · exact h
  · exact hOther

theorem monitorSound_lineEvent {d : Side} (h : (s.mon d).working) (hOther : MonitorSound s d.other) (e : Side) :
    MonitorSound (lineEvent d s) e :=
  (SameInputs.refreshReports (evalMonitor d s)).monitorSound
    (forall_side d (monitorSound_evalMonitor h) (monitorSound_evalMonitor_other hOther) e)

theorem monitorSound_evalMonitors (h : ∀ d, (s.mon d).working) (e : Side) : MonitorSound (evalMonitors s) e := by
  have hWest : ((evalMonitor .east s).mon .west).working := h .west
  exact forall_side .west (monitorSound_evalMonitor hWest) (monitorSound_evalMonitor_other (d := .west)
    (monitorSound_evalMonitor (h .east))) e

theorem quiet_setMon (d e : Side) (m : Monitor) (s : State) : (s.setMon d m).quiet e = s.quiet e := by
  rw [State.quiet, State.quiet, State.lane_setMon, State.setMon_node]

theorem defectsNow_setMon {d : Side} {m : Monitor} (hFail : m.lineFail = (s.mon d).lineFail) :
    (s.setMon d m).defectsNow d = { s.defectsNow d with neighbourSilent := s.quiet d && m.defects.neighbourSilent } := by
  simp only [State.defectsNow, quiet_setMon, State.mon_setMon, State.lane_setMon, State.setMon_node, hFail]

theorem monitorSound_setMon_other {d : Side} (m : Monitor) (h : MonitorSound s d.other) : MonitorSound (s.setMon d m) d.other := by
  unfold MonitorSound State.defectsNow at *
  rw [quiet_setMon, State.mon_setMon_other, State.lane_setMon, State.setMon_node]
  exact h

/-- A write of one Line Monitor that its inputs do not see. -/
theorem monitorSound_setMon {d : Side} {m : Monitor} (hs : ∀ e, MonitorSound s e) (hFail : m.lineFail = (s.mon d).lineFail)
    (hDefects : m.defects = (s.mon d).defects) (hSilence : m.silenceTimer.isSome = (s.mon d).silenceTimer.isSome)
    (hWorking : m.working) (e : Side) : MonitorSound (s.setMon d m) e := by
  obtain ⟨hNow, hTimer, -⟩ := hs d
  have hDefectsNow : (s.setMon d m).defectsNow d = s.defectsNow d := by
    rw [defectsNow_setMon hFail, hDefects]
    rfl
  have hSelf : MonitorSound (s.setMon d m) d := by
    refine ⟨by rw [hDefectsNow, State.mon_setMon, hDefects, hNow], ?_, by rw [State.mon_setMon]; exact hWorking⟩
    rw [quiet_setMon, State.mon_setMon, hSilence, hDefects]
    exact hTimer
  exact forall_side d hSelf (monitorSound_setMon_other m (hs d.other)) e

/-- A write of one lane is not seen by the Line Monitor of the other side. -/
theorem monitorSound_setLane_other {d : Side} (l : Lane) (h : MonitorSound s d.other) : MonitorSound (s.setLane d l) d.other := by
  unfold MonitorSound State.defectsNow State.quiet at *
  rw [State.mon_setLane, State.lane_setLane_other, State.setLane_node]
  exact h

/-! ### Composing and comparing -/

theorem ownComposed_takeOwns (s : State) : OwnComposed (takeOwn .west (takeOwn .east s)) := by
  constructor
  · have hEast := takeOwn_content .east s
    rw [composed_takeOwn, composed_takeOwn, show (takeOwn .west (takeOwn .east s)).map.own .east = _ from own_takeOwn_other .west _]
    exact hEast
  · rw [composed_takeOwn, takeOwn_content]

theorem ownComposed_compareSpans (h : OwnComposed s) : OwnComposed (compareSpans s) := by
  rw [compareSpans_eq]
  exact h

theorem ownComposed_refreshReports (s : State) : OwnComposed (refreshReports s) :=
  ownComposed_compareSpans (ownComposed_takeOwns s)

theorem spansWorkedOut_refreshReports (s : State) : SpansWorkedOut (refreshReports s) := spansWorkedOut_compareSpans _

/-- What the laws of the line are at the end of an event: the reports are composed, and the spans are worked out. -/
theorem runningCheck_cases (s : State) : runningCheck s = s ∨ ∃ u, runningCheck s = refreshReports u ∧ SameInputs s u := by
  unfold runningCheck
  split
  · exact .inr ⟨_, rfl, fun _ => rfl, fun _ => rfl, fun _ => rfl, rfl⟩
  · exact .inl rfl

/-- A Span Report is stored and compared, or is calm (R71 to R73). -/
theorem actOnSpanReport_cases (d : Side) (r : SpanReport) (s : State) :
    Calm s (actOnSpanReport d r s) ∨ ∃ key e, actOnSpanReport d r s =
      compareSpans (markKey d.other key (s.setOther key e)) := by
  have hOwn : ∀ o, r.span < s.node.ringSize → Calm s (takeForOwn o r s) := fun o hSpan =>
    (atoms_takeForOwn (w := notLine) o r s hSpan).calm not_notLine
  unfold actOnSpanReport
  split
  · split
    next hSpan =>
      split
      · exact .inl (hOwn .east hSpan)
      · split
        · exact .inl (hOwn .west hSpan)
        · rcases takeOther_cases d r s with hSame | hStored
          · rw [hSame]; exact .inl (.refl s)
          · exact .inr ⟨_, _, hStored⟩
    · exact .inl (.refl s)
  · exact .inl (.refl s)

/-! ### The events at the line -/

theorem SameInputs.setOther (key : Nat) (e : EndReport) (s : State) : SameInputs s (s.setOther key e) :=
  ⟨fun _ => rfl, fun _ => rfl, fun _ => rfl, rfl⟩

theorem ownComposed_markKey {d : Side} {key : Nat} (h : OwnComposed s) : OwnComposed (markKey d key s) := by
  rw [markKey_eq]
  exact h.setLane d _

theorem LineEvent.ownComposed (h : LineEvent s t) (hs : OwnComposed s) : OwnComposed t := by
  have hRun : ∀ u, Calm s u → OwnComposed (runningCheck u) := fun u hCalm => by
    rcases runningCheck_cases u with hSame | ⟨v, hEq, -⟩
    · rw [hSame]; exact hCalm.ownComposed hs
    · rw [hEq]; exact ownComposed_refreshReports v
  cases h with
  | ticked => exact hs
  | fullReset => exact ⟨rfl, rfl⟩
  | softReset => exact ⟨rfl, rfl⟩
  | degrade d => cases d <;> exact hs
  | greeting d g =>
    exact ((atoms_joinCheck (w := notLine) _).calm not_notLine).ownComposed (ownComposed_refreshReports _)
  | spanReport d r =>
    rcases actOnSpanReport_cases d r s with hCalm | ⟨key, e, hStored⟩
    · exact hCalm.ownComposed hs
    · rw [hStored]; exact ownComposed_compareSpans (ownComposed_markKey (s := s.setOther key e) hs)
  | done c b hOut => exact hRun _ ((atoms_doneSettled (w := notLine) b hOut).calm not_notLine)
  | refused c hOut => exact hRun _ ((atoms_refusedSettled (w := notLine) hOut).calm not_notLine)
  | _ => exact ownComposed_refreshReports _

theorem LineEvent.spansWorkedOut (h : LineEvent s t) (hs : SpansWorkedOut s) : SpansWorkedOut t := by
  have hRun : ∀ u, Calm s u → SpansWorkedOut (runningCheck u) := fun u hCalm => by
    rcases runningCheck_cases u with hSame | ⟨v, hEq, -⟩
    · rw [hSame]; exact hCalm.spansWorkedOut hs
    · rw [hEq]; exact spansWorkedOut_refreshReports v
  cases h with
  | ticked => exact hs
  | fullReset => exact rfl
  | softReset => exact rfl
  | degrade d => cases d <;> exact hs
  | greeting d g =>
    exact ((atoms_joinCheck (w := notLine) _).calm not_notLine).spansWorkedOut (spansWorkedOut_refreshReports _)
  | spanReport d r =>
    rcases actOnSpanReport_cases d r s with hCalm | ⟨key, e, hStored⟩
    · exact hCalm.spansWorkedOut hs
    · rw [hStored]; exact spansWorkedOut_compareSpans _
  | done c b hOut => exact hRun _ ((atoms_doneSettled (w := notLine) b hOut).calm not_notLine)
  | refused c hOut => exact hRun _ ((atoms_refusedSettled (w := notLine) hOut).calm not_notLine)
  | _ => exact spansWorkedOut_refreshReports _

theorem monitorSound_tick (h : ∀ d, MonitorSound s d) (d : Side) : MonitorSound (tick s) d := by
  obtain ⟨hNow, hTimer, hWorking⟩ := h d
  have hTick : MonitorSound (tick s) d ↔ (s.mon d).defects = s.defectsNow d ∧
      (tickTimer (s.mon d).silenceTimer).isSome = (s.quiet d && !(s.mon d).defects.neighbourSilent) ∧ (s.mon d).tick.working := by
    cases d <;> exact Iff.rfl
  rw [hTick, Monitor.isSome_tickTimer]
  exact ⟨hNow, hTimer, Monitor.working_tick hWorking⟩

/-- Writing a Line Monitor and composing. -/
theorem monitorSound_monEvent {d : Side} {m : Monitor} (h : ∀ e, MonitorSound (s.setMon d m) e) (e : Side) :
    MonitorSound (refreshReports (s.setMon d m)) e := (SameInputs.refreshReports _).monitorSound (h e)

/-- The silence timer runs out while the three conditions hold (R42). -/
theorem monitorSound_silence {d : Side} (hs : ∀ e, MonitorSound s e) (hTimer : (s.mon d).silenceTimer ≠ none) (e : Side) :
    MonitorSound (s.setMon d ((s.mon d).silenceExpires s.node.holdOff s.node.wtr)) e := by
  obtain ⟨hNow, hRuns, hWorking⟩ := hs d
  rw [Option.isSome_iff_ne_none.2 hTimer] at hRuns
  obtain ⟨hQuiet, -⟩ := (Bool.and_eq_true _ _).mp hRuns.symm
  have hEq : (s.mon d).silenceExpires s.node.holdOff s.node.wtr = { (s.mon d).silenceExpires s.node.holdOff s.node.wtr with
      lineFail := (s.mon d).lineFail, defects := { (s.mon d).defects with neighbourSilent := true }, silenceTimer := none } := by
    rw [Monitor.silenceExpires, Monitor.setDefects_eq]
  refine forall_side d ⟨?_, ?_, ?_⟩ (monitorSound_setMon_other _ (hs d.other)) e
  · rw [defectsNow_setMon (by rw [hEq]), State.mon_setMon, hEq, ← hNow, hQuiet]
    rfl
  · rw [quiet_setMon, State.mon_setMon, hEq, hQuiet]
    rfl
  · rw [State.mon_setMon]
    exact Monitor.working_setDefects (m := { s.mon d with silenceTimer := none }) _ _ _ hWorking

theorem LineEvent.monitorSound (h : LineEvent s t) (hs : ∀ d, MonitorSound s d) : ∀ d, MonitorSound t d := by
  have hRun : ∀ u, Calm s u → ∀ d, MonitorSound (runningCheck u) d := fun u hCalm d => by
    rcases runningCheck_cases u with hSame | ⟨v, hEq, hInputs⟩
    · rw [hSame]; exact hCalm.monitorSound hs d
    · rw [hEq]; exact (hInputs.trans (.refreshReports v)).monitorSound (hCalm.monitorSound hs d)
  have hLane : ∀ d l e, MonitorSound (lineEvent d (s.setLane d l)) e := fun d l e =>
    monitorSound_lineEvent (by rw [State.mon_setLane]; exact (hs d).working) (monitorSound_setLane_other l (hs d.other)) e
  cases h with
  | ticked => exact monitorSound_tick hs
  | fullReset => exact monitorSound_evalMonitors fun d => by cases d <;> exact Monitor.working_reset
  | softReset => exact monitorSound_evalMonitors fun d => by cases d <;> exact Monitor.working_reset
  | lineFail d b =>
    exact monitorSound_lineEvent (by rw [State.mon_setMon]; exact (hs d).working) (monitorSound_setMon_other _ (hs d.other))
  | blockCount d n =>
    exact monitorSound_monEvent (monitorSound_setMon hs (by rw [Monitor.takeCount_eq]) (by rw [Monitor.takeCount_eq])
      (by rw [Monitor.takeCount_eq]) (Monitor.working_takeCount n (hs d).working))
  | holdOff d hTimer =>
    exact monitorSound_monEvent (monitorSound_setMon hs (by rw [Monitor.holdOffExpires_eq]) (by rw [Monitor.holdOffExpires_eq])
      (by rw [Monitor.holdOffExpires_eq]) (Monitor.working_holdOffExpires (hs d).working))
  | wtr d hTimer =>
    exact monitorSound_monEvent (monitorSound_setMon hs (by rw [Monitor.wtrExpires_eq]) (by rw [Monitor.wtrExpires_eq])
      (by rw [Monitor.wtrExpires_eq]) (Monitor.working_wtrExpires (hs d).working))
  | silence d hTimer => exact monitorSound_monEvent (monitorSound_silence hs hTimer)
  | force d b => exact monitorSound_monEvent (monitorSound_setMon hs rfl rfl rfl (hs d).working)
  | degrade d leak declare clear => exact monitorSound_setMon hs rfl rfl rfl (hs d).working
  | badFrame d => exact hLane d _
  | goodFrame d => exact hLane d _
  | lockWindow d hTimer => exact hLane d _
  | adjacency d hTimer => exact hLane d _
  | greeting d g hLock =>
    have hWritten : ∀ (u : State) l a, u = { s.setLane d l with attn := a } →
        (u.mon d).working ∧ MonitorSound u d.other := fun u l a hu => by
      subst hu
      refine ⟨?_, monitorSound_setLane_other l (hs d.other)⟩
      rw [show State.mon { s.setLane d l with attn := a } d = s.mon d from State.mon_setLane s d d l]
      exact (hs d).working
    have hGreeted : ((if s.correct d g then correctGreeting d g s else incorrectGreeting d g s).mon d).working ∧
        MonitorSound (if s.correct d g then correctGreeting d g s else incorrectGreeting d g s) d.other := by
      split
      · exact hWritten _ _ _ (correctGreeting_eq d g s)
      · exact hWritten _ _ _ (incorrectGreeting_eq d g s)
    exact ((atoms_joinCheck (w := notLine) _).calm not_notLine).monitorSound (monitorSound_lineEvent hGreeted.1 hGreeted.2)
  | spanReport d r =>
    rcases actOnSpanReport_cases d r s with hCalm | ⟨key, e, hStored⟩
    · exact hCalm.monitorSound hs
    · rw [hStored]
      exact fun x => (((SameInputs.setOther key e s).trans (.markKey d.other key _)).trans (.compareSpans _)).monitorSound (hs x)
  | done c b hOut => exact hRun _ ((atoms_doneSettled (w := notLine) b hOut).calm not_notLine)
  | refused c hOut => exact hRun _ ((atoms_refusedSettled (w := notLine) hOut).calm not_notLine)
  | stop hState =>
    exact fun d => (SameInputs.trans (t := { stopConfirmTimers (stopPlanner s) with
      node := { s.node with state := .configuring, joinTimer := none }, fabric := s.fabric.stop })
      ⟨fun _ => rfl, fun _ => rfl, fun _ => rfl, rfl⟩ (.refreshReports _)).monitorSound (hs d)

/-! ### Every event -/

theorem calm_commitSettled (s : State) : Calm s (commitSettled s) :=
  (atoms_commitSettled (w := notLine) (by simp [notLine]) (by simp [notLine]) s).calm not_notLine

theorem mon_ringSettled (ringId n own : Nat) (s : State) (d : Side) : (ringSettled ringId n own s).mon d = s.mon d := by
  have hWritten : (ringWritten ringId n own s).mon d = (forEach s.handles dropDetour s).mon d := by cases d <;> rfl
  rw [ringSettled, (dynStep_refreshConn _).mon, (dynStep_unplans _).mon, hWritten, (dynStep_dropDetours s).mon]

/-- A law that calm runs and the entry to Running keep, and that holds after every composing, is kept by every event. -/
theorem Event.keeps_line {P : State → Prop} (hCalm : ∀ {s t}, Calm s t → P s → P t) (hLine : ∀ {s t}, LineEvent s t → P s → P t)
    (hRunning : ∀ {s u}, P s → SameInputs s u → P (refreshReports u))
    (hRing : ∀ {s} ringId n own, P s → P (changeRing ringId n own s)) (h : Event s t) (hs : P s) : P t := by
  have hDigest : notLine .digest := by simp [notLine]
  have hStream : notLine .stream := by simp [notLine]
  cases h with
  | quiet h => exact hCalm (h.atoms (w := notLine) |>.calm not_notLine) hs
  | line h => exact hLine h hs
  | digest h => exact hCalm ((h.atoms hDigest).calm not_notLine) hs
  | stream h => exact hCalm ((h.atoms hDigest hStream).calm not_notLine) hs
  | commit hReady =>
    have hSettled := hCalm (calm_commitSettled s) hs
    rw [commitSweep_eq]
    rcases runningCheck_cases (commitSettled s) with hSame | ⟨u, hEq, hInputs⟩
    · rw [hSame]; exact hSettled
    · rw [hEq]; exact hRunning hSettled hInputs
  | setRing ringId n own hState hFields hFit hApart => exact hRing ringId n own hs

theorem monitorSound_changeRing (ringId n own : Nat) (hs : ∀ d, MonitorSound s d) (d : Side) :
    MonitorSound (changeRing ringId n own s) d := by
  rw [changeRing_eq]
  exact (SameInputs.refreshReports _).monitorSound
    (monitorSound_evalMonitors (fun d => by rw [mon_ringSettled]; exact (hs d).working) d)

/-- Settles O9: a Line Monitor is evaluated again in every event that writes one of its inputs. -/
theorem stepKeepsMonitors : Obligations.StepKeepsMonitors := fun _ _ hs h =>
  step_keeps (P := fun u => ∀ d, MonitorSound u d) (fun _ _ hEvent => hEvent.keeps_line
    (P := fun u => ∀ d, MonitorSound u d) (fun hCalm hu d => hCalm.monitorSound hu d) (fun hLine hu => hLine.monitorSound hu)
    (fun hu hInputs d => (hInputs.trans (.refreshReports _)).monitorSound (hu d))
    (fun ringId n own hu => monitorSound_changeRing ringId n own hu)) hs h

/-- Settles O11: every event that writes what is composed ends by composing. -/
theorem stepKeepsOwnReports : Obligations.StepKeepsOwnReports := fun _ _ hs h =>
  step_keeps (fun _ _ hEvent => hEvent.keeps_line (fun hCalm => hCalm.ownComposed) (fun hLine => hLine.ownComposed)
    (fun _ _ => ownComposed_refreshReports _) (fun _ _ _ _ => ownComposed_refreshReports _)) hs h

/-- Settles O12: every event that writes a report or the ring ends by working out the spans. -/
theorem stepKeepsEffectiveStates : Obligations.StepKeepsEffectiveStates := fun _ _ _ hs h =>
  step_keeps (fun _ _ hEvent => hEvent.keeps_line (fun hCalm => hCalm.spansWorkedOut) (fun hLine => hLine.spansWorkedOut)
    (fun _ _ => spansWorkedOut_refreshReports _) (fun _ _ _ _ => spansWorkedOut_refreshReports _)) hs h

end Sys2Proof.Machine
end

section
/-!
PROOFS. The resets (O1 to O4), reading a response (O22), the port's order of taking (O23, O24), and the requests that read or write
settings (O25, O27, O36, O37).
-/

namespace Sys2Proof.Machine

variable {s t : State}

/-! ### The step -/

/-- Settles O1: the step is defined so. -/
theorem stepRunsFrontCommand : Obligations.StepRunsFrontCommand := fun s c rest h => by
  unfold step
  rw [h]

/-! ### Resets -/

theorem store_evalMonitors (s : State) : (evalMonitors s).store = s.store := by
  rw [evalMonitors, evalMonitor_eq .west, State.setMon_store, evalMonitor_eq .east, State.setMon_store]

/-- The Line Monitors after both have worked out their defects: each by its own inputs (R39). -/
theorem evalMonitors_eq (s : State) : evalMonitors s = { s with
    monEast := Monitor.setDefects { s.monEast with silenceTimer := s.silenceNow .east } (s.defectsNow .east) s.node.holdOff s.node.wtr,
    monWest := Monitor.setDefects { s.monWest with silenceTimer := s.silenceNow .west } (s.defectsNow .west) s.node.holdOff
      s.node.wtr } := rfl

/-- Settles O2: every block but the two Line Monitors is replaced; those evaluate a Line Fail that is active with a hold-off of 0. -/
theorem fullResetGivesResetState : Obligations.FullResetGivesResetState := fun s => by
  show Host.Outcome.next (fullReset s) = _
  have hEval : ∀ east west : Bool, evalMonitors { State.reset with
      monEast := { Monitor.reset with lineFail := east }, monWest := { Monitor.reset with lineFail := west }, pending := s.pending } =
      { State.reset with
        monEast := monitorAfterReset east, monWest := monitorAfterReset west, pending := s.pending } := fun east west => by
    cases east <;> cases west <;> rfl
  exact congrArg Host.Outcome.next (hEval s.monEast.lineFail s.monWest.lineFail)

/-- Settles O4: every table is empty, every unit at rest. -/
theorem resetMeetsInvariants : Obligations.ResetMeetsInvariants := by
  have hTables : TablesCanonical State.reset := ⟨rfl, rfl, rfl, rfl, rfl, rfl, rfl, rfl⟩
  have hFree : ∀ h, State.reset.record h = Record.free := fun _ => rfl
  have hMonitor : ∀ d, (State.reset.mon d).degradeInRange ∧ MonitorSound State.reset d ∧ (State.reset.lane d).sound := fun d => by
    cases d <;> exact ⟨by simp [Monitor.degradeInRange, State.mon, State.reset, Monitor.reset],
      ⟨rfl, rfl, rfl, fun h => (by cases h), rfl, rfl⟩, Lane.sound_reset⟩
  have hNoActive : ∀ h, (State.reset.record h).lifecycle ≠ .active := fun h hActive => (by cases hActive)
  refine ⟨?_, hTables, Nat.zero_le _, hMonitor, ?_, ⟨rfl, rfl⟩, rfl, ?_, fun h _ _ hActive => absurd hActive (hNoActive h),
    fun h => ⟨fun _ => rfl, fun hUse => absurd rfl hUse⟩, ?_, ?_, ?_, ?_, ?_, fun i j q hi => (by cases hi),
    exchangesSound_iff.2 fun h => by rw [hFree]; exact exchangeLaw_free _, ?_, ?_⟩
  · exact ⟨rfl, fun c hc => (by cases hc)⟩
  · exact ⟨.inl ⟨rfl, rfl, rfl, rfl⟩, iff_of_true rfl NodeState.noConfusion, iff_of_true rfl NodeState.noConfusion,
      iff_of_true rfl rfl, iff_of_true rfl rfl⟩
  · exact ⟨fun _ => rfl, fun b h => iff_of_false (List.not_mem_nil (a := h)) fun hUse => hUse.1 rfl,
      fun h _ _ hUse => absurd rfl hUse⟩
  · exact ⟨rfl, rfl, by rw [show State.reset.map.delays = [] from rfl, delayImage_empty]; exact (zero_add _).symm⟩
  · intro d
    cases d <;> exact iff_of_false Bool.false_ne_true fun h => Adjacency.noConfusion h.1
  · exact ⟨fun _ => Nat.zero_lt_succ _, fun e he => (by cases he), fun span slot h _ =>
      iff_of_false (fun hSome => (by cases hSome)) (by rintro ⟨e, he, -⟩; cases he)⟩
  · exact fun e he => (by cases he)
  · exact ⟨iff_of_true rfl rfl, fun i => iff_of_false EntryStatus.noConfusion (by rintro ⟨c, hc, -⟩; cases hc),
      fun c hc => (by cases hc), fun _ _ => rfl, Nat.zero_lt_succ _, .inl rfl⟩
  · exact ⟨fun hOpen => (by cases hOpen), fun _ _ => rfl⟩
  · exact ⟨Nat.zero_le _, List.Pairwise.nil, fun e he => (by cases he), fun h hh => (by cases hh)⟩

/-! ### Reading a response -/

theorem exec_readTransaction_notReady (bits : Nat) (h : s.port.state ≠ .answered) :
    exec (.readTransaction bits) s = .next (driveOut (notReadyFrame s.attn.calls) bits s) := by
  show execReadTransaction bits s = _
  unfold execReadTransaction
  split
  next hState _ => exact absurd hState h
  next => rfl

theorem exec_readTransaction_answered {r : Response} (bits : Nat) (hState : s.port.state = .answered)
    (hHolder : s.port.holder = some r) :
    exec (.readTransaction bits) s = .next (if 8 * r.length ≤ bits then readWhole (driveOut (r.frame s.attn.calls) bits s)
      else driveOut (r.frame s.attn.calls) bits s) := by
  show execReadTransaction bits s = _
  unfold execReadTransaction
  rw [hState, hHolder]

theorem length_frame (r : Response) (attention : Bool) : (r.frame attention).length = r.data.length + 7 := by
  simp [Response.frame, closeFrame, be2, be1, flagsByte]

/-- Whatever the read does beside, MP_DO drives the frame of the held response. -/
theorem output_of_read {r : Response} {bits : Nat} (hState : s.port.state = .answered) (hHolder : s.port.holder = some r)
    (h : exec (.readTransaction bits) s = .next t) : t.port.output = { frame := r.frame s.attn.calls, bits := bits } := by
  rw [exec_readTransaction_answered bits hState hHolder] at h
  obtain rfl := Host.Outcome.next.inj h
  split
  · unfold readWhole
    dsimp only
    split <;> rfl
  · rfl

theorem bit_of_frame {o : PortOutput} {j k : Nat} {b : Byte} (h : o.frame[j]? = some b) (hk : k < 8) :
    o.bit (8 * j + k) = b.getMsbD k := by
  have hByte : (8 * j + k) / 8 = j := by omega
  have hBit : (8 * j + k) % 8 = k := by omega
  rw [PortOutput.bit, hByte, hBit, List.getD_eq_getElem?_getD, h]
  rfl

/-- Settles O22: what a read does beside driving MP_DO hangs on the number of bits alone. -/
theorem readsEmptyHolderOnlyWhenWhole : Obligations.ReadsEmptyHolderOnlyWhenWhole := fun s bits => by
  refine ⟨exec_readTransaction_notReady bits, fun r hState hHolder => ?_⟩
  have hExec := exec_readTransaction_answered bits hState hHolder
  refine ⟨fun hPart => ?_, fun hWhole hUnarmed => ?_, fun t hNext => ?_⟩
  · rw [hExec, if_neg (by rw [Response.length]; omega)]
    rfl
  · rw [hExec, if_pos (by rw [Response.length]; omega), readWhole]
    exact congrArg Host.Outcome.next (if_neg (by rw [show (driveOut _ bits s).port.softResetArmed = _ from hUnarmed]; decide))
  · have hOutput := output_of_read hState hHolder hNext
    rw [hOutput]
    exact ⟨fun j b k hByte hk => bit_of_frame hByte hk, fun k hk => bit_after_frame _ k (by rw [length_frame]; exact hk)⟩

/-! ### The soft reset -/

theorem integrator_setDefects_of_zero {m : Monitor} (h : m.integrator = 0) (new : Defects) (holdOff wtr : Nat) :
    (m.setDefects new holdOff wtr).integrator = 0 := by
  have hHit : ∀ (n : Monitor) ret, (n.hit holdOff ret).integrator = 0 := fun n ret => by
    unfold Monitor.hit
    split <;> rfl
  unfold Monitor.setDefects
  dsimp only
  split
  · unfold Monitor.defectAppears
    split
    · exact hHit _ _
    · exact hHit _ _
    · exact hHit _ _
    · rfl
    · rfl
  · split
    · rw [Monitor.defectClears_eq]; exact h
    · exact h

theorem mon_softReset (s : State) (d : Side) : ∃ u : State, (softReset s).mon d =
    Monitor.setDefects { (s.mon d).softReset with silenceTimer := u.silenceNow d } (u.defectsNow d) s.node.holdOff s.node.wtr := by
  cases d <;> exact ⟨_, rfl⟩

/-- Settles O3: reading the response whole makes the soft reset take effect on the state with the response gone. -/
theorem softResetKeepsTableClearsRuntime : Obligations.SoftResetKeepsTableClearsRuntime :=
    fun s r bits hTables hState hHolder hArmed hWhole => by
  obtain ⟨hRecords, -, -, -, -, -, -, hEntries⟩ := id hTables
  have hExec := exec_readTransaction_answered bits hState hHolder
  rw [if_pos (by rw [Response.length]; exact hWhole), readWhole] at hExec
  let u : State := { driveOut (r.frame s.attn.calls) bits s with
    port := { (driveOut (r.frame s.attn.calls) bits s).port with state := .ready, holder := none } }
  refine ⟨softReset u, hExec.trans (congrArg Host.Outcome.next (if_pos hArmed)), rfl, fun h => record_softReset (s := u) hRecords h,
    ?_, fun d => ?_, fun d => ?_, rfl, rfl, fun i => entry_softReset (s := u) hEntries i, rfl, rfl, rfl, rfl⟩
  · rw [store_softReset]; rfl
  · obtain ⟨v, hMon⟩ := mon_softReset u d
    have hSound : MonitorSound (softReset u) d := monitorSound_evalMonitors (fun e => by cases e <;> exact Monitor.working_reset) d
    refine ⟨?_, ?_, ?_, ?_, ?_, ?_, hSound⟩
    all_goals rw [hMon]
    · rw [Monitor.setDefects_eq]; cases d <;> rfl
    · rw [Monitor.setDefects_eq]; cases d <;> rfl
    · rw [Monitor.setDefects_eq]; cases d <;> rfl
    · rw [Monitor.setDefects_eq]; cases d <;> rfl
    · rw [Monitor.setDefects_eq]; cases d <;> rfl
    · exact integrator_setDefects_of_zero (by cases d <;> rfl) _ _ _
  · cases d <;> rfl

/-! ### Requests before and beside a response -/

/-- A request that is taken at once, by what its carrying out answers on the state with the holder cleared (R156, R160). -/
theorem exec_answered {i : Instr} {tag : Byte} {carry : State → Carried} {u : State} {status : Status} {data : List Byte}
    (hExec : ∀ v, exec i v = .next (takeRequest i tag carry v)) (hAccepts : Accepts s)
    (hCarry : carry (clearHolder s) = { state := clearHolder u, status := status, data := data }) :
    exec i s = .next (u.withRequest i tag status data) := by
  rw [hExec, takeRequest_accepts _ _ _ s hAccepts, hCarry]
  rfl

/-- Settles O23: the request finds the soft reset taken, and on the state after it nothing waits. -/
theorem armedSoftResetComesFirst : Obligations.ArmedSoftResetComesFirst := fun i s hAnswered hArmed hTakes => by
  obtain ⟨tag, carry, hExec, -⟩ := exec_taking hTakes
  rw [hExec, hExec]
  have hBefore : beforeTaking s = softReset s := if_pos ⟨hAnswered, hArmed⟩
  have hPort : (softReset s).port.state = .ready := rfl
  have hAfter : beforeTaking (softReset s) = softReset s := if_neg (by rw [hPort]; simp)
  rw [takeRequest_not_working i tag carry (by rw [hAnswered]; decide), takeRequest_not_working i tag carry (by rw [hPort]; decide),
    hBefore, hAfter]

/-- Settles O24. -/
theorem malformedFramesAreAnswered : Obligations.MalformedFramesAreAnswered := fun b s hAccepts => by
  have hTag : frameTag b = if 2 < min (b.getD 0 0).toNat b.length then b.getD 2 0 else 0 := by
    cases b with
    | nil => rfl
    | cons l rest =>
      have hFirst : (l :: rest).getD 0 0 = l := rfl
      rw [frameTag, hFirst, List.getD_eq_getElem?_getD, List.getD_eq_getElem?_getD, List.getElem?_take]
      split
      next hLong =>
        split
        next => rfl
        next hShort => rw [List.getElem?_eq_none (by omega)]; rfl
      next hShort => rw [if_neg (by omega)]; rfl
  rw [← hTag]
  exact ⟨exec_answered (fun _ => rfl) hAccepts rfl, exec_answered (fun _ => rfl) hAccepts rfl⟩

/-! ### Requests that read -/

theorem sideOperand_sideCode (d : Side) : sideOperand (sideCode d) = some d := by cases d <;> rfl

/-- Settles O25. -/
theorem readRequestsChangeOnlyThePort : Obligations.ReadRequestsChangeOnlyThePort := fun s tag hAccepts => by
  refine ⟨exec_answered (fun _ => rfl) hAccepts rfl, fun h hh => exec_answered (fun _ => rfl) hAccepts ?_,
    exec_answered (fun _ => rfl) hAccepts rfl, exec_answered (fun _ => rfl) hAccepts rfl,
    fun d => exec_answered (fun _ => rfl) hAccepts ?_, fun span hSpan => exec_answered (fun _ => rfl) hAccepts ?_,
    fun first count hFirst hLow hHigh hRange => exec_answered (fun _ => rfl) hAccepts ?_⟩
  · exact if_neg (by simp [badHandle, Config.handleCount]; omega)
  · rw [carryReadLane, sideOperand_sideCode]; rfl
  · exact if_neg (by omega)
  · exact if_pos (by simp [connectionsRangeOk]; omega)

/-! ### Settings -/

theorem clampHoldOff_eq (v : Nat) : clampHoldOff v = if 2550 < v then 2550 else v - v % 10 := by
  unfold clampHoldOff
  split <;> omega

theorem clampWtr_eq (v : Nat) : clampWtr v = min v 3600 := by
  unfold clampWtr
  split <;> omega

theorem clampConfirm_eq (v : Nat) : clampConfirm v = max 5 (min v 1000) := by
  unfold clampConfirm
  split
  · omega
  · split <;> omega

theorem clampReassert_eq (v : Nat) : clampReassert v = max 1 (min v 1000) := by
  unfold clampReassert
  split
  · omega
  · split <;> omega

theorem clampCadence_eq (v : Nat) : clampCadence v =
    if v = 0 then 1 else if v = 3 then 2 else if 5 ≤ v ∧ v ≤ 7 then 4 else if 8 < v then 8 else v := by
  unfold clampCadence
  split_ifs <;> omega

theorem clampDeclare_eq (v : Nat) : clampDeclare v = max 1 v := by
  unfold clampDeclare
  split <;> omega

theorem clampClear_eq (v declare : Nat) (hDeclare : 1 ≤ declare) : clampClear v declare = min v (declare - 1) := by
  unfold clampClear
  split <;> omega

theorem clampStatus_eq (b : Bool) (p : Prop) {_ : Decidable p} (h : b = true ↔ p) : clampStatus b = if p then .ok else .clamped := by
  unfold clampStatus
  by_cases hp : p
  · rw [if_pos hp, if_pos (h.2 hp)]
  · rw [if_neg hp, if_neg fun hb => hp (h.1 hb)]

/-- Settles O27: the clamps of the model are those of the tables, and a status is CLAMPED where one of them replaced a value. -/
theorem settingsAreTakenClamped : Obligations.SettingsAreTakenClamped := by
  refine ⟨fun s tag a b c d e hAccepts => ?_, fun s tag d leak declare clear hAccepts => ?_⟩
  · refine exec_answered (carry := carrySetTimers a b c d e) (fun _ => rfl) hAccepts ?_
    rw [← clampHoldOff_eq, ← clampWtr_eq, ← clampConfirm_eq, ← clampReassert_eq, ← clampCadence_eq]
    rw [← clampStatus_eq (decide (clampHoldOff a = a) && decide (clampWtr b = b) && decide (clampConfirm c = c) &&
      decide (clampReassert d = d) && decide (clampCadence e = e)) _ (by simp [and_assoc])]
    rfl
  · refine exec_answered (carry := carrySetDegrade (sideCode d) leak.toNat declare.toNat clear.toNat) (fun _ => rfl) hAccepts ?_
    have hDeclare : 1 ≤ clampDeclare declare.toNat := by rw [clampDeclare_eq]; omega
    rw [← clampDeclare_eq, ← clampClear_eq _ _ hDeclare, carrySetDegrade, sideOperand_sideCode]
    rw [← clampStatus_eq (decide (clampDeclare declare.toNat = declare.toNat) &&
      decide (clampClear clear.toNat (clampDeclare declare.toNat) = clear.toNat)) _ (by simp)]
    cases d <;> rfl

/-! ### Find Circuit and Next Changed -/

/-- The bucket of a circuit number holds the record that holds it (R17). -/
theorem lookup_eq_some (hs : LabelsSound s) {h c : Nat} (hUse : s.inUse h) (hCircuit : (s.record h).plan.circuit = c) :
    s.lookup c = some h := by
  obtain ⟨-, hBucket, hApart⟩ := hs
  have hMem : h ∈ s.bucket (bucketOf c) := (hBucket _ h).2 ⟨hUse, by rw [hCircuit]⟩
  cases hFind : s.lookup c with
  | none => exact absurd hCircuit (by simpa using List.find?_eq_none.1 hFind h hMem)
  | some k =>
    have hk : (s.record k).plan.circuit = c := by simpa using List.find?_some hFind
    have hUsed : s.inUse k := ((hBucket _ k).1 (List.mem_of_find?_eq_some hFind)).1
    by_contra hNe
    exact hApart k h (fun hEq => hNe (by rw [hEq])) hUsed hUse (hk.trans hCircuit.symm)

theorem lookup_eq_none (hs : LabelsSound s) {c : Nat} (hNone : ∀ h, s.inUse h → (s.record h).plan.circuit ≠ c) :
    s.lookup c = none :=
  List.find?_eq_none.2 fun h hh => by simpa using hNone h ((hs.2.1 _ h).1 hh).1

theorem setErase_head {h : Nat} {rest : List Nat} (hOrder : rising (h :: rest) = true) : setErase (h :: rest) h = rest := by
  have hFirst := (List.pairwise_cons.1 ((rising_iff _).1 hOrder)).1
  rw [setErase, List.filter_cons, if_neg (by simp)]
  exact List.filter_eq_self.2 fun k hk => by have := hFirst k hk; simp; omega

/-- Settles O36. -/
theorem findCircuitAndNextChanged : Obligations.FindCircuitAndNextChanged := by
  refine ⟨fun s tag c hAccepts hLabels hc => ⟨fun h hUse hCircuit => ?_, fun hNone => ?_⟩, fun s tag hAccepts =>
    ⟨fun hEmpty => ?_, fun h rest hChanged hOrder => ?_⟩⟩
  · refine exec_answered (carry := carryFindCircuit c) (fun _ => rfl) hAccepts ?_
    have hFound : (clearHolder s).lookup c = some h := lookup_eq_some hLabels hUse hCircuit
    rw [carryFindCircuit, if_neg hc, hFound]
    rfl
  · refine exec_answered (carry := carryFindCircuit c) (fun _ => rfl) hAccepts ?_
    have hFound : (clearHolder s).lookup c = none := lookup_eq_none hLabels hNone
    rw [carryFindCircuit, if_neg hc, hFound]
    rfl
  · refine exec_answered (carry := carryNextChanged) (fun _ => rfl) hAccepts ?_
    have hNone : (clearHolder s).store.changed = [] := hEmpty
    rw [carryNextChanged, hNone]
    rfl
  · refine exec_answered (carry := carryNextChanged) (fun _ => rfl) hAccepts ?_
    have hSome : (clearHolder s).store.changed = h :: rest := hChanged
    rw [carryNextChanged, hSome]
    have hErased : unmarkChanged h (clearHolder s) = clearHolder { s with store := { s.store with changed := rest } } := by
      unfold unmarkChanged
      rw [hSome, setErase_head hOrder]
      rfl
    dsimp only
    rw [hErased]
    rfl

/-! ### The Stream's opening and closing -/

/-- Settles O37. -/
theorem streamBeginsAndAborts : Obligations.StreamBeginsAndAborts := fun s tag first count activate hAccepts => by
  refine ⟨fun hClosed hLow hHigh hRun => exec_answered (fun _ => rfl) hAccepts ?_,
    fun hOpen => exec_answered (fun _ => rfl) hAccepts ?_, exec_answered (fun _ => rfl) hAccepts rfl⟩
  · exact (if_neg hClosed).trans (if_neg (by simp only [Config.handleCount]; omega))
  · exact if_pos hOpen

end Sys2Proof.Machine
end

section
/-!
PROOFS. Events at one Line Monitor (03): a change of the Line Fail level, the three timers, and force and release. Each writes
one monitor and ends as an event at it, so its frame is that of `lineFrame_refreshReports`.
-/

namespace Sys2Proof.Machine

variable {s t : State} {d : Side}

/-! ### Line Fail -/

/-- The set of defects goes to one that is as much present: the machine stands (R41). -/
theorem Monitor.setDefects_of_any_eq {m : Monitor} {new : Defects} (h : new.any = m.defects.any) (holdOff wtr : Nat) :
    m.setDefects new holdOff wtr = { m with defects := new } := by
  unfold Monitor.setDefects
  rw [h, if_neg (by simp), if_neg (by simp)]

/-- The first defect appears (R41). -/
theorem Monitor.setDefects_of_appears {m : Monitor} {new : Defects} (hOld : m.defects.any = false) (hNew : new.any = true)
    (holdOff wtr : Nat) : m.setDefects new holdOff wtr = { m with defects := new }.defectAppears holdOff := by
  unfold Monitor.setDefects
  rw [hOld, hNew, if_pos (by simp)]

/-- The last defect goes away (R41). -/
theorem Monitor.setDefects_of_clears {m : Monitor} {new : Defects} (hOld : m.defects.any = true) (hNew : new.any = false)
    (holdOff wtr : Nat) : m.setDefects new holdOff wtr = { m with defects := new }.defectClears wtr := by
  unfold Monitor.setDefects
  rw [hOld, hNew, if_neg (by simp), if_pos (by simp)]

/-- The first defect, appearing in a return state, zeroes the integrator, and the machine holds off, or fails at once (R44,
R50). -/
theorem Monitor.setDefects_of_hit {m : Monitor} {new : Defects} {ret : ReturnState} (hOld : m.defects.any = false)
    (hNew : new.any = true) (h : m.cond = ret.cond) (holdOff wtr : Nat) :
    m.setDefects new holdOff wtr = { m with
      defects := new, integrator := 0, cond := if holdOff = 0 then .failed else .holding ret m.output,
      wtrTimer := if holdOff = 0 then none else m.wtrTimer,
      holdOffTimer := if holdOff = 0 then m.holdOffTimer else some (holdOff * 1000) } := by
  have hOutput : Monitor.output { m with defects := new } = m.output := by
    unfold Monitor.output
    rw [h]
    cases ret <;> rfl
  have hHit : Monitor.defectAppears { m with defects := new } holdOff = Monitor.hit { m with defects := new } holdOff ret := by
    unfold Monitor.defectAppears
    rw [h]
    cases ret <;> rfl
  rw [Monitor.setDefects_of_appears hOld hNew, hHit, Monitor.hit, hOutput]
  split <;> rfl

/-- A silence timer that runs as R42 has it stands at an evaluation. -/
theorem MonitorSound.silenceNow (h : MonitorSound s d) : s.silenceNow d = (s.mon d).silenceTimer := by
  obtain ⟨-, hTimer, -⟩ := h
  rw [State.silenceNow, ← hTimer]
  cases (s.mon d).silenceTimer <;> rfl

/-- The defects after the Line Fail input has taken the level `b` (R41). -/
def State.defectsAt (s : State) (d : Side) (b : Bool) : Defects :=
  { (s.mon d).defects with
    lineFail := b, signallingLoss := decide ((s.lane d).lock = .hunting ∧ b = false ∧ s.node.ringId ≠ 0) }

/-- A change of the Line Fail level writes the level, and the machine acts on the defects that follow (R39). -/
theorem exec_lineFail (h : MonitorSound s d) (b : Bool) :
    exec (.lineFail d b) s = .next (refreshReports (s.setMon d
      (Monitor.setDefects { s.mon d with lineFail := b } (s.defectsAt d b) s.node.holdOff s.node.wtr))) := by
  have hSet : ∀ m n : Monitor, (s.setMon d m).setMon d n = s.setMon d n := fun m n => by cases d <;> rfl
  have hSilence : (s.setMon d { s.mon d with lineFail := b }).silenceNow d = (s.mon d).silenceTimer := by
    rw [← h.silenceNow, State.silenceNow, State.silenceNow, quiet_setMon, State.mon_setMon]
  have hDefects : (s.setMon d { s.mon d with lineFail := b }).defectsNow d = s.defectsAt d b := by
    obtain ⟨hNow, -⟩ := h
    rw [State.defectsNow, quiet_setMon, State.mon_setMon, State.lane_setMon, State.setMon_node, State.defectsAt, hNow,
      State.defectsNow]
    cases b <;> simp
  show Host.Outcome.next (lineEvent d (s.setMon d { s.mon d with lineFail := b })) = _
  rw [lineEvent, evalMonitor, hSilence, hDefects, hSet, State.setMon_node, State.mon_setMon]

/-- Some defect is present in Holding and in Failed alone (R44, R46). -/
theorem MonitorSound.cond_of_any (h : MonitorSound s d) (hAny : (s.mon d).defects.any = true) :
    (∃ ret held, (s.mon d).cond = .holding ret held) ∨ (s.mon d).cond = .failed := by
  obtain ⟨-, -, hDown, -⟩ := h
  rw [hAny, Monitor.down] at hDown
  cases hCond : (s.mon d).cond with
  | holding ret held => exact .inl ⟨ret, held, rfl⟩
  | failed => exact .inr rfl
  | clear | degraded | waiting => rw [hCond] at hDown; exact absurd hDown (by decide)

/-- Settles O40: the level gives the new set of defects, and the machine acts when that set goes from empty to not empty or
back. -/
theorem lineFailHoldsFailsAndRecovers : Obligations.LineFailHoldsFailsAndRecovers := fun s d hs ho => by
  obtain ⟨hNow, hTimer, hDown, hZero, hHoldOff, hWtr⟩ := id hs
  have hFollows : ∀ b, ∃ t, exec (.lineFail d b) s = .next t ∧ LineFrame d s t ∧
      t.mon d = Monitor.setDefects { s.mon d with lineFail := b } (s.defectsAt d b) s.node.holdOff s.node.wtr := fun b =>
    ⟨_, exec_lineFail hs b, lineFrame_refreshReports ho d _, by rw [mon_refreshReports, State.mon_setMon]⟩
  refine ⟨fun ret hLevel hNone hCond => ?_, fun hLevel hAlone hQuiet => ?_, fun hLevel hAlone hHunting hRing hAdj => ?_,
    fun b hOther => ?_⟩
  · obtain ⟨t, hExec, hFrame, hMon⟩ := hFollows true
    refine ⟨t, hExec, hFrame, ?_⟩
    have hDefects : s.defectsAt d true = { Defects.empty with lineFail := true } := by
      rw [State.defectsAt, hNone]
      simp [Defects.empty]
    rw [hMon, hDefects]
    exact Monitor.setDefects_of_hit (m := { s.mon d with lineFail := true }) (by show (s.mon d).defects.any = _; rw [hNone]; rfl)
      rfl hCond _ _
  · obtain ⟨t, hExec, hFrame, hMon⟩ := hFollows false
    have hAny : (s.mon d).defects.any = true := by rw [hAlone]; rfl
    have hDefects : s.defectsAt d false = Defects.empty := by
      rw [State.defectsAt, hAlone]
      obtain hLocked | hRing := hQuiet
      · simp [hLocked, Defects.empty]
      · simp [hRing, Defects.empty]
    rw [hDefects] at hMon
    replace hMon := hMon.trans (Monitor.setDefects_of_clears (m := { s.mon d with lineFail := false }) hAny rfl _ _)
    refine ⟨t, hExec, hFrame, ?_⟩
    rw [hMon]
    obtain ⟨ret, held, hCond⟩ | hCond := hs.cond_of_any hAny
    · simp only [Monitor.defectClears, hCond]
      simp [hZero hAny]
    · have hStopped : (s.mon d).holdOffTimer = none := by
        rw [Monitor.isHolding, hCond] at hHoldOff
        simpa using hHoldOff
      simp only [Monitor.defectClears, hCond]
      split
      · exact ⟨rfl, hZero hAny, hStopped, rfl, by simp, by simp_all, by simp⟩
      · exact ⟨rfl, hZero hAny, hStopped, rfl, by simp, by simp, by simp_all⟩
  · obtain ⟨t, hExec, hFrame, hMon⟩ := hFollows false
    have hDefects : s.defectsAt d false = { Defects.empty with signallingLoss := true } := by
      rw [State.defectsAt, hAlone]
      simp [hHunting, hRing, Defects.empty]
    rw [hDefects] at hMon
    replace hMon := hMon.trans (Monitor.setDefects_of_any_eq (m := { s.mon d with lineFail := false })
      (by show _ = (s.mon d).defects.any; rw [hAlone]; rfl) _ _)
    exact ⟨t, hExec, hFrame, by rw [hMon], by rw [hMon]⟩
  · obtain ⟨t, hExec, hFrame, hMon⟩ := hFollows b
    have hOld : (s.mon d).defects.any = true := by
      obtain h | h | ⟨h, -⟩ := hOther <;> simp [Defects.any, h]
    have hNew : (s.defectsAt d b).any = true := by
      obtain h | h | ⟨-, h⟩ := hOther <;> simp [Defects.any, State.defectsAt, h]
    refine ⟨t, hExec, hFrame, ?_⟩
    exact hMon.trans (Monitor.setDefects_of_any_eq (m := { s.mon d with lineFail := b }) (hNew.trans hOld.symm) _ _)

/-! ### The three timers -/

theorem exec_holdOffTimerExpiry (h : (s.mon d).holdOffTimer ≠ none) :
    exec (.holdOffTimerExpiry d) s = .next (refreshReports (s.setMon d (s.mon d).holdOffExpires)) := by
  obtain ⟨n, hn⟩ := Option.ne_none_iff_exists'.1 h
  show execHoldOffTimerExpiry d s = _
  rw [execHoldOffTimerExpiry, hn]

theorem exec_wtrTimerExpiry (h : (s.mon d).wtrTimer ≠ none) :
    exec (.wtrTimerExpiry d) s = .next (refreshReports (s.setMon d (s.mon d).wtrExpires)) := by
  obtain ⟨n, hn⟩ := Option.ne_none_iff_exists'.1 h
  show execWtrTimerExpiry d s = _
  rw [execWtrTimerExpiry, hn]

theorem exec_silenceTimerExpiry (h : (s.mon d).silenceTimer ≠ none) :
    exec (.silenceTimerExpiry d) s =
      .next (refreshReports (s.setMon d ((s.mon d).silenceExpires s.node.holdOff s.node.wtr))) := by
  obtain ⟨n, hn⟩ := Option.ne_none_iff_exists'.1 h
  show execSilenceTimerExpiry d s = _
  rw [execSilenceTimerExpiry, hn]

/-- What an expiry makes of one monitor is what the state after it holds, in the frame of an event at that monitor. -/
theorem exists_lineFrame {i : Instr} {m n : Monitor} (ho : OwnComposed s)
    (hExec : exec i s = .next (refreshReports (s.setMon d m))) (hMon : m = n) :
    ∃ t, exec i s = .next t ∧ LineFrame d s t ∧ t.mon d = n :=
  ⟨_, hExec, lineFrame_refreshReports ho d m, by rw [mon_refreshReports, State.mon_setMon, hMon]⟩

/-- Settles O42: each timer by what its expiry makes of the monitor. -/
theorem lineTimersExpire : Obligations.LineTimersExpire := fun s d ho => by
  refine ⟨fun hStopped => ?_, fun hStopped => ?_, fun hStopped => ?_,
    fun ret held hCond hRuns => exists_lineFrame ho (exec_holdOffTimerExpiry hRuns) ?_,
    fun hCond hRuns => exists_lineFrame ho (exec_wtrTimerExpiry hRuns) ?_,
    fun held hCond hRuns => exists_lineFrame ho (exec_wtrTimerExpiry hRuns) ?_,
    fun ret hRuns hNone hCond => exists_lineFrame ho (exec_silenceTimerExpiry hRuns) ?_,
    fun hRuns hAny => exists_lineFrame ho (exec_silenceTimerExpiry hRuns) ?_⟩
  · show execHoldOffTimerExpiry d s = _
    rw [execHoldOffTimerExpiry, hStopped]
  · show execWtrTimerExpiry d s = _
    rw [execWtrTimerExpiry, hStopped]
  · show execSilenceTimerExpiry d s = _
    rw [execSilenceTimerExpiry, hStopped]
  · rw [Monitor.holdOffExpires, hCond]
  · rw [Monitor.wtrExpires, hCond]
  · rw [Monitor.wtrExpires, hCond]
  · have hNew : ({ (s.mon d).defects with neighbourSilent := true } : Defects) = { Defects.empty with neighbourSilent := true } := by
      rw [hNone]
    refine (congrArg (fun new => Monitor.setDefects { s.mon d with silenceTimer := none } new _ _) hNew).trans ?_
    exact Monitor.setDefects_of_hit (m := { s.mon d with silenceTimer := none })
      (by show (s.mon d).defects.any = _; rw [hNone]; rfl) rfl hCond _ _
  · refine Monitor.setDefects_of_any_eq (m := { s.mon d with silenceTimer := none }) ?_ _ _
    show _ = (s.mon d).defects.any
    rw [hAny]
    simp [Defects.any]

/-! ### Force and release -/

/-- A request that the port takes is carried out on the state with the holder empty, which leaves its response in hand
(R156). -/
theorem exec_request {i : Instr} {tag : Byte} {carry : State → Carried}
    (hExec : ∀ v, exec i v = .next (takeRequest i tag carry v)) (hAccepts : Accepts s)
    (hPort : (carry (clearHolder s)).state.port = (clearHolder s).port) :
    exec i s = .next (State.withRequest { (carry (clearHolder s)).state with port := s.port } i tag
      (carry (clearHolder s)).status (carry (clearHolder s)).data) := by
  rw [hExec, takeRequest_accepts _ _ _ s hAccepts, putInHand, hPort]
  rfl

/-- Settles O43: both requests write the flag and compose the report of that side again. -/
theorem forceWritesFlagAndReport : Obligations.ForceWritesFlagAndReport := fun s tag d hAccepts ho => by
  have hWrites : ∀ (i : Instr) (flag : Bool), (∀ v, exec i v = .next (takeRequest i tag (carryForce (sideCode d) flag) v)) →
      ∃ t, LineFrame d s t ∧ t.mon d = { s.mon d with force := flag } ∧
        exec i s = .next (t.withRequest i tag .ok (contentBytes (t.map.own d).content)) := fun i flag hExec => by
    have hCarry : carryForce (sideCode d) flag (clearHolder s) =
        { state := setForce d flag (clearHolder s), status := .ok,
          data := contentBytes ((setForce d flag (clearHolder s)).map.own d).content } := by
      rw [carryForce, sideOperand_sideCode]
    have hFrame : LineFrame d (clearHolder s) (setForce d flag (clearHolder s)) :=
      lineFrame_refreshReports (s := clearHolder s) ho d { (clearHolder s).mon d with force := flag }
    have hMonitor : (setForce d flag (clearHolder s)).mon d = { (clearHolder s).mon d with force := flag } := by
      rw [setForce, mon_refreshReports, State.mon_setMon]
    have hPort : (carryForce (sideCode d) flag (clearHolder s)).state.port = (clearHolder s).port := by
      rw [hCarry]
      show (setForce d flag (clearHolder s)).port = _
      rw [port_setForce]
    have hRun := exec_request hExec hAccepts hPort
    rw [hCarry] at hRun
    generalize setForce d flag (clearHolder s) = t at *
    obtain ⟨hContent, hSame, hEpoch, hOther, hMon, hLane, hMarks, hOthers, hDelays, hNode, hStore, hFabric, -, hPending⟩ := hFrame
    exact ⟨{ t with port := s.port }, ⟨hContent, hSame, hEpoch, hOther, hMon, hLane, hMarks, hOthers, hDelays, hNode, hStore,
      hFabric, rfl, hPending⟩, hMonitor, hRun⟩
  exact ⟨hWrites _ true fun _ => rfl, hWrites _ false fun _ => rfl⟩

end Sys2Proof.Machine
end

section
/-!
PROOFS. What the unit sends by itself: the reassert command (07), the attempts of a confirm timer (08), and the frame of each slot
(04).
-/

namespace Sys2Proof.Machine

variable {s t : State}

/-! ### Reassertion -/

theorem chooseDirty_of_dirtySet_nil (h : s.dirtySet = []) : s.chooseDirty = none := by simp [State.chooseDirty, h]

/-- Settles O57: the driver is asked once the request is pending. -/
theorem reassertionSendsEntryAtPointer : Obligations.ReassertionSendsEntryAtPointer := fun s hRuns => by
  have hExec : exec .reassertionTimerExpiry s = .next (dispatch { s with fabric := { s.fabric with
      reassertPending := true, reassertTimer := some s.reassertTime } }) := by
    obtain ⟨n, hn⟩ := Option.ne_none_iff_exists'.1 hRuns
    show execReassertionTimerExpiry s = _
    rw [execReassertionTimerExpiry, hn]
  refine ⟨fun hBusy => ?_, fun hFree hClean hRunning => ?_⟩
  · rw [hExec, dispatch, if_pos (.inl hBusy)]
    rfl
  · have hChoice : ({ s with fabric := { s.fabric with
        reassertPending := true, reassertTimer := some s.reassertTime } } : State).chooseDirty = none :=
      chooseDirty_of_dirtySet_nil hClean
    rw [hExec, dispatch, if_neg (by rintro (hBusy | hConf); exacts [hBusy hFree, by simp [hRunning] at hConf]), hChoice]
    exact congrArg Host.Outcome.next (if_pos ⟨hRunning, rfl⟩)

/-! ### The confirm timer -/

theorem exec_confirmTimerExpiry {h : Nat} {r : Role} (hRole : s.endRole h = some r)
    (hRuns : (s.record h).exchange.timer ≠ none) : exec (.confirmTimerExpiry h) s = .next (confirmExpires h r s) := by
  obtain ⟨n, hn⟩ := Option.ne_none_iff_exists'.1 hRuns
  show execConfirmTimerExpiry h s = _
  rw [execConfirmTimerExpiry, hn, hRole]

/-- An exchange written with its confirm state as it was marks nothing (R139). -/
theorem setExchange_of_state_eq {h : Nat} {x : Exchange} (hState : x.state = (s.record h).exchange.state) :
    setExchange h x s = s.setRec h { s.record h with exchange := x } := by
  rw [setExchange_eq, if_pos hState]

/-- An exchange written with another confirm state marks the record (R139). -/
theorem setExchange_of_state_ne {h : Nat} {x : Exchange} (hState : x.state ≠ (s.record h).exchange.state) :
    setExchange h x s = markChanged h (s.setRec h { s.record h with exchange := x }) := by
  rw [setExchange_eq, if_neg hState]

theorem mem_changed_markChanged (h k : Nat) (s : State) :
    k ∈ (markChanged h s).store.changed ↔ k = h ∨ k ∈ s.store.changed := by
  rw [markChanged_eq]
  exact mem_setInsert _ _ _

theorem causeIn_raise (a : Attention) (c b : Cause) :
    causeIn (a.raise c).pending b = (causeIn a.pending b || decide (b = c)) := by
  rw [Attention.raise_pending, causeIn_or, causeIn_causeBit]

/-- Settles O58: the four cases of the expiry. -/
theorem confirmTimerSendsUpToEight : Obligations.ConfirmTimerSendsUpToEight := fun s h r hRole hRuns => by
  have hExec := exec_confirmTimerExpiry hRole hRuns
  refine ⟨fun hMine => ?_, fun hMine hMore => ⟨_, hExec, ?_⟩, fun hMine hLast hTheirs => ?_, fun hMine hLast hTheirs hState =>
    ⟨_, hExec, ?_⟩⟩
  · rw [hExec, confirmExpires, if_pos hMine]
    exact congrArg Host.Outcome.next (setExchange_of_state_eq (x := { (s.record h).exchange with sending := false, timer := none }) rfl)
  · have hSent : confirmExpires h r s = (sendConfirm h r (s.record h).exchange.heardTheirs s).setRec h
        { s.record h with exchange := { (s.record h).exchange with
          attempts := (s.record h).exchange.attempts + 1, timer := some (s.node.confirmInterval * 1000) } } := by
      rw [confirmExpires, if_neg (by simp [hMine]), if_pos hMore, setExchange_of_state_eq (by rw [record_sendConfirm]),
        record_sendConfirm]
      rfl
    rw [hSent]
    refine ⟨by rw [record_setRec, if_pos rfl], fun k hk => by rw [record_setRec, if_neg hk, record_sendConfirm], ?_, ?_, ?_⟩
    · show (sendConfirm h r _ s).lane _ = _
      rw [sendConfirm, giveConfirm_eq, State.lane_setLane]
      rfl
    · show (sendConfirm h r _ s).lane _ = _
      rw [sendConfirm, giveConfirm_eq, State.lane_setLane_other]
    · rw [sendConfirm, giveConfirm_eq]
      generalize (s.record h).plan.detourSide r = e
      cases e <;> rfl
  · rw [hExec, confirmExpires, if_neg (by simp [hMine]), if_neg (by simp only [Config.maxAttempts]; omega), if_pos hTheirs]
    exact congrArg Host.Outcome.next (setExchange_of_state_eq (x := { (s.record h).exchange with sending := false, timer := none }) rfl)
  · have hStop : confirmExpires h r s = raiseCause .restorationUnconfirmed (markChanged h (s.setRec h
        { s.record h with exchange := { (s.record h).exchange with state := .unconfirmed, sending := false, timer := none } })) := by
      rw [confirmExpires, if_neg (by simp [hMine]), if_neg (by simp only [Config.maxAttempts]; omega), if_neg (by simp [hTheirs]),
        setExchange_of_state_ne (by simp [hState])]
    rw [hStop]
    refine ⟨?_, fun k hk => ?_, ?_, ?_, ?_⟩
    · show (markChanged h _).record h = _
      rw [record_markChanged, record_setRec, if_pos rfl]
    · show (markChanged h _).record k = _
      rw [record_markChanged, record_setRec, if_neg hk]
    · exact (mem_changed_markChanged _ _ _).2 (.inl rfl)
    · exact (causeIn_raise _ _ _).trans (by simp)
    · rw [markChanged_eq]
      rfl

/-! ### The frame slot -/

theorem fromKnown_of_unknown {keys : List Nat} (h : ∀ k ∈ keys, s.report k = none) : s.fromKnown keys = [] := by
  induction keys with
  | nil => rfl
  | cons k l ih => rw [State.fromKnown, h k (by simp)]; exact ih fun j hj => h j (by simp [hj])

theorem fromKnown_of_known {pre rest : List Nat} {k : Nat} {e : EndReport} (hPre : ∀ j ∈ pre, s.report j = none)
    (hKnown : s.report k = some e) : s.fromKnown (pre ++ k :: rest) = k :: rest := by
  induction pre with
  | nil => rw [List.nil_append, State.fromKnown, hKnown]
  | cons j l ih => rw [List.cons_append, State.fromKnown, hPre j (by simp)]; exact ih fun i hi => hPre i (by simp [hi])

theorem setLane_both (s : State) (east west : Lane) :
    (s.setLane .east east).setLane .west west = { s with laneEast := east, laneWest := west } := rfl

/-- A slot with no known key to report: the pending set is emptied, and the rest of the choices follow (R68, R70). -/
theorem slotLane_of_unknown {d : Side} (hRing : s.node.ringId ≠ 0)
    (hNotOverdue : ¬ ((s.lane d).greetDue = true ∧ 48 ≤ (s.lane d).dueReports))
    (hUnknown : ∀ k ∈ (s.lane d).pendingKeys, s.report k = none) :
    s.slotLane d = ((s.lane d).leaveKeys []).sendRest (greetingFrame (s.greetingFor d)) := by
  unfold State.slotLane
  dsimp only
  rw [if_neg hRing, if_neg hNotOverdue, fromKnown_of_unknown hUnknown]

theorem slotLane_of_overdue {d : Side} (hRing : s.node.ringId ≠ 0)
    (hOverdue : (s.lane d).greetDue = true ∧ 48 ≤ (s.lane d).dueReports) :
    s.slotLane d = (s.lane d).sendGreeting (greetingFrame (s.greetingFor d)) := by
  unfold State.slotLane
  dsimp only
  rw [if_neg hRing, if_pos hOverdue]

/-- A slot with a known key to report: the lowest is sent (R68). -/
theorem slotLane_of_known {d : Side} {pre rest : List Nat} {k : Nat} {e : EndReport} (hRing : s.node.ringId ≠ 0)
    (hNotOverdue : ¬ ((s.lane d).greetDue = true ∧ 48 ≤ (s.lane d).dueReports))
    (hKeys : (s.lane d).pendingKeys = pre ++ k :: rest) (hPre : ∀ j ∈ pre, s.report j = none) (hKnown : s.report k = some e) :
    s.slotLane d = { (s.lane d).leaveKeys rest with
      tx := spanReportFrame (reportFor k e),
      dueReports := if (s.lane d).greetDue then (s.lane d).dueReports + 1 else (s.lane d).dueReports } := by
  unfold State.slotLane
  dsimp only
  rw [if_neg hRing, if_neg hNotOverdue, hKeys, fromKnown_of_known hPre hKnown]
  dsimp only
  rw [hKnown]

/-- The frame slot writes both lanes and nothing else (R56). -/
theorem exec_frameSlot (s : State) :
    exec .frameSlot s = .next { s with laneEast := s.slotLane .east, laneWest := s.slotLane .west } := by
  show execFrameSlot s = _
  rw [execFrameSlot, setLane_both]

theorem lane_withLanes (s : State) (f : Side → Lane) (d : Side) :
    ({ s with laneEast := f .east, laneWest := f .west } : State).lane d = f d := by cases d <;> rfl

theorem exec_greetingTimerExpiry {d : Side} (h : (s.lane d).greetTimer ≠ none) :
    exec (.greetingTimerExpiry d) s = .next (s.setLane d (s.lane d).greetingDue) := by
  obtain ⟨n, hn⟩ := Option.ne_none_iff_exists'.1 h
  show execGreetingTimerExpiry d s = _
  rw [execGreetingTimerExpiry, hn]

/-- Settles O49: each lane's frame by the choices of R70. -/
theorem slotsSendInOrder : Obligations.SlotsSendInOrder := by
  refine ⟨fun s => ?_, fun s d hRuns => exec_greetingTimerExpiry hRuns⟩
  refine ⟨_, exec_frameSlot s, rfl, fun d => ?_⟩
  rw [lane_withLanes s s.slotLane]
  have hGreeting : s.greetingFor d =
    { ringId := s.node.ringId, sender := s.node.own, senderSide := d, ringSize := s.node.ringSize, digest := s.store.digest, nodeState := s.node.state,
      heard := decide ((s.lane d).adjacency = .heard ∨ (s.lane d).adjacency = .up), mapSent := (s.lane d).mapSent } := by
    simp only [State.greetingFor, Bool.decide_or]
  have hEmptied : (s.lane d).leaveKeys [] = { s.lane d with
      pendingKeys := [],
      mapSent := (s.lane d).mapSent ||
        (decide ((s.lane d).adjacency = Adjacency.up) && decide ((s.lane d).pendingKeys ≠ [])) } := by
    simp [Lane.leaveKeys]
  have hRest : (s.node.ringId ≠ 0 → (∀ k ∈ (s.lane d).pendingKeys, s.report k = none) → (s.lane d).greetDue = false →
      s.slotLane d = match (s.lane d).queue with
        | p :: rest => { (s.lane d).leaveKeys [] with queue := rest, tx := pathConfirmFrame p }
        | [] => { (s.lane d).leaveKeys [] with tx := fillFrame }) := fun hRing hUnknown hIdle => by
    rw [slotLane_of_unknown hRing (by simp [hIdle]) hUnknown, Lane.sendRest, if_neg (by simp [Lane.leaveKeys, hIdle])]
    rfl
  refine ⟨fun hRing => ?_, fun hRing hOverdue => ?_, fun hRing hNot pre k rest e hKeys hPre hKnown => ?_,
    fun hRing hNot hUnknown hDue => ?_, fun hRing hUnknown hIdle p rest hQueue => ?_, fun hRing hUnknown hIdle hQueue => ?_⟩
  · unfold State.slotLane
    exact if_pos hRing
  · rw [← hGreeting, slotLane_of_overdue hRing hOverdue]
    rfl
  · rw [slotLane_of_known hRing hNot hKeys hPre hKnown]
    simp [Lane.leaveKeys, hKeys, reportFor, endOfKey]
  · rw [slotLane_of_unknown hRing hNot hUnknown, ← hGreeting, ← hEmptied, Lane.sendRest, if_pos (by exact hDue)]
    rfl
  · rw [hRest hRing hUnknown hIdle, hQueue, hEmptied]
  · rw [hRest hRing hUnknown hIdle, hEmptied]
    simp only [hQueue]

end Sys2Proof.Machine
end

section
/-!
PROOFS. One command of the Planner (06): the handle that gathering looks at (O50), the candidate that a class pass treats (O51), and
the entry that the Extra pass treats (O52).
-/

namespace Sys2Proof.Machine

variable {s t : State}

/-! ### Gathering -/

theorem arcCond_eq_unusable {snap : List SnapSpan} {arc : List Nat} :
    arcCond snap arc = .unusable ↔ ∃ k ∈ arc, snapCond snap k = .unusable := by
  unfold arcCond
  split_ifs with hLost hImpaired
  · simpa using hLost
  · simpa using hLost
  · simpa using hLost

theorem arcCond_eq_good {snap : List SnapSpan} {arc : List Nat} :
    arcCond snap arc = .good ↔ ∀ k ∈ arc, snapCond snap k = .good := by
  unfold arcCond
  split_ifs with hLost hImpaired
  · obtain ⟨k, hk, hCond⟩ := by simpa using hLost
    simpa using ⟨k, hk, by simp [hCond]⟩
  · obtain ⟨k, hk, hCond⟩ := by simpa using hImpaired
    simpa using ⟨k, hk, by simp [hCond]⟩
  · simp only [List.any_eq_true, decide_eq_true_eq, not_exists, not_and] at hLost hImpaired
    refine iff_of_true rfl fun k hk => ?_
    cases hCond : snapCond snap k with
    | good => rfl
    | impaired => exact absurd hCond (hImpaired k hk)
    | unusable => exact absurd hCond (hLost k hk)

theorem delayPasses_iff {ceiling : Option Nat} {delay : Nat} :
    delayPasses ceiling delay = true ↔ ∀ c, ceiling = some c → delay ≤ c := by
  cases ceiling <;> simp [delayPasses]

/-- A record without a detour is Suppressed on a lost arc, and Working otherwise (R99, R102). -/
theorem withoutDetour_cases (snap : List SnapSpan) (arc : List Nat) (w : Reason) :
    ((∃ k ∈ arc, snapCond snap k = .unusable) → withoutDetour (arcCond snap arc) w = .settled .suppressed w) ∧
      ((¬ ∃ k ∈ arc, snapCond snap k = .unusable) → withoutDetour (arcCond snap arc) w = .settled .working w) := by
  rw [← arcCond_eq_unusable, withoutDetour]
  exact ⟨fun hLost => by rw [if_pos hLost], fun hNot => by rw [if_neg hNot]⟩

/-- Evaluation gives the verdict of R98 to R102. -/
theorem verdictOf_evaluate (snap : List SnapSpan) (n : Nat) (p : Planning) : verdictOf snap n p (evaluate snap n p) := by
  have hKept := withoutDetour_cases snap (p.workingArc n)
  have hNotGood : (¬ ∀ k ∈ p.workingArc n, snapCond snap k = .good) → arcCond snap (p.workingArc n) ≠ .good :=
    fun hNot hGood => hNot (arcCond_eq_good.1 hGood)
  have hRouted : arcGood snap (p.detourArc n) = true ↔ ∀ k ∈ p.detourArc n, snapCond snap k = .good := by simp [arcGood]
  unfold verdictOf evaluate
  dsimp only
  cases p.kind with
  | extra => simp
  | unprot =>
    refine ⟨by simp, fun _ hGood => by simp [arcCond_eq_good.2 hGood], fun _ hNot => ?_, by simp, by simp, by simp, by simp⟩
    simp only [if_neg (hNotGood hNot)]
    exact hKept .unprotected
  | prot =>
    refine ⟨by simp, fun _ hGood => by simp [arcCond_eq_good.2 hGood], by simp, fun _ hNot hLockout => ?_,
      fun _ hNot hLockout hNoRoute => ?_, fun _ hNot hLockout hRoute hLate => ?_, fun _ hNot hLockout hRoute hInTime => ?_⟩
    · simp only [if_neg (hNotGood hNot), hLockout, if_true]
      exact hKept .lockedOut
    · simp only [if_neg (hNotGood hNot), hLockout, Bool.false_eq_true, if_false,
        Bool.eq_false_iff.2 fun h => hNoRoute (hRouted.1 h), Bool.not_false, if_true]
      exact hKept .noRoute
    · have hFails : delayPasses p.ceiling (arcDelay snap (p.detourArc n)) = false :=
        Bool.eq_false_iff.2 fun h => hLate (delayPasses_iff.1 h)
      simp only [if_neg (hNotGood hNot), hLockout, Bool.false_eq_true, if_false, hRouted.2 hRoute, Bool.not_true, hFails,
        Bool.not_false, if_true]
      exact hKept .overDelay
    · have hPasses : delayPasses p.ceiling (arcDelay snap (p.detourArc n)) = true := delayPasses_iff.2 hInTime
      simp only [if_neg (hNotGood hNot), hLockout, Bool.false_eq_true, if_false, hRouted.2 hRoute, Bool.not_true, hPasses]
      rw [← arcCond_eq_unusable, passFor]
      exact ⟨fun hLost => by rw [if_pos hLost], fun hUsable => by rw [if_neg hUsable]⟩

/-- Settles O50: what gathering does by the lifecycle of the record at its position. -/
theorem gatheringEvaluatesEachRecord : Obligations.GatheringEvaluatesEachRecord := fun s hPhase hPos => by
  have hExec : exec .gatherHandle s = .next (gatherOne s) := if_pos ⟨hPhase, hPos⟩
  have hNext : (if Config.handleCount ≤ s.planner.gatherPos + 1 then Phase.classPass 7 .a else .gathering) =
      if s.planner.gatherPos = 4095 then .classPass 7 .a else .gathering := if_congr (by simp only [Config.handleCount]; omega) rfl rfl
  refine ⟨fun hActive hIn => ⟨_, verdictOf_evaluate _ _ _, ?_⟩, fun hRetiring => ?_, fun hNoEntry => ?_⟩
  · rw [hExec, gatherOne]
    dsimp only
    rw [hNext]
    simp [hActive, hIn]
  · rw [hExec, gatherOne]
    dsimp only
    rw [hNext, hRetiring]
  · rw [hExec, gatherOne]
    dsimp only
    rw [hNext]
    obtain hFree | hStaged | ⟨hActive, hLate⟩ := hNoEntry
    · rw [hFree]
    · rw [hStaged]
    · simp [hActive, hLate]

/-! ### The order of the passes -/

theorem passRank_inj {c c' : Nat} {p q : Pass} (h : passRank c p = passRank c' q) : c = c' ∧ p = q := by
  cases p <;> cases q <;> simp only [passRank] at h
  · exact ⟨by omega, rfl⟩
  · omega
  · omega
  · exact ⟨by omega, rfl⟩

/-- The pass that follows is the one of the next lower rank (R103). -/
theorem nextPass_eq_some {c c' : Nat} {p q : Pass} (h : nextPass c p = some (c', q)) : passRank c p = passRank c' q + 1 := by
  cases p with
  | a => cases h; rfl
  | b =>
    cases c with
    | zero => cases h
    | succ c => cases h; simp only [passRank]; omega

theorem nextPass_eq_none {c : Nat} {p : Pass} (h : nextPass c p = none) : passRank c p = 0 := by
  cases p with
  | a => cases h
  | b =>
    cases c with
    | zero => rfl
    | succ c => cases h

theorem hasMark_iff {buffer : List PlanEntry} {v : Verdict} : hasMark buffer v = true ↔ ∃ x ∈ buffer, x.verdict = v := by
  simp [hasMark]

/-- With no entry marked for this pass or a later one, the passes end in the Extra pass (R103). -/
theorem settleFrom_of_no_mark {buffer : List PlanEntry} {fuel c : Nat} {p : Pass}
    (hNone : ∀ x ∈ buffer, ∀ c' q, x.verdict = .forClass c' q → passRank c p < passRank c' q) :
    settleFrom buffer fuel c p = .extraPass := by
  induction fuel generalizing c p with
  | zero => rfl
  | succ fuel ih =>
    have hUnmarked : ¬ hasMark buffer (.forClass c p) = true := fun hMark => by
      obtain ⟨x, hx, hv⟩ := hasMark_iff.1 hMark
      exact lt_irrefl _ (hNone x hx c p hv)
    rw [settleFrom, if_neg hUnmarked]
    cases hNext : nextPass c p with
    | none => rfl
    | some next =>
      obtain ⟨c', q⟩ := next
      have hRank := nextPass_eq_some hNext
      exact ih fun x hx c'' q' hv => by have := hNone x hx c'' q' hv; omega

/-- The passes come to the first one, from this one on, that an entry is marked for (R103). -/
theorem settleFrom_of_mark {buffer : List PlanEntry} {fuel c cls : Nat} {p pass : Pass} (hFuel : passRank c p < fuel)
    (hMark : hasMark buffer (.forClass cls pass) = true) (hFrom : passRank cls pass ≤ passRank c p)
    (hFirst : ∀ x ∈ buffer, ∀ c' q, x.verdict = .forClass c' q → passRank c' q ≤ passRank c p →
      passRank c' q ≤ passRank cls pass) : settleFrom buffer fuel c p = .classPass cls pass := by
  induction fuel generalizing c p with
  | zero => omega
  | succ fuel ih =>
    rw [settleFrom]
    by_cases hHere : hasMark buffer (.forClass c p) = true
    · obtain ⟨x, hx, hv⟩ := hasMark_iff.1 hHere
      obtain ⟨rfl, rfl⟩ := passRank_inj (le_antisymm (hFirst x hx c p hv le_rfl) hFrom)
      rw [if_pos hHere]
    · rw [if_neg hHere]
      have hNe : passRank cls pass ≠ passRank c p := fun hEq => by
        obtain ⟨rfl, rfl⟩ := passRank_inj hEq
        exact hHere hMark
      cases hNext : nextPass c p with
      | none => have := nextPass_eq_none hNext; omega
      | some next =>
        obtain ⟨c', q⟩ := next
        have hRank := nextPass_eq_some hNext
        exact ih (by omega) (by omega) fun x hx c'' q' hv hLe => hFirst x hx c'' q' hv (by omega)

theorem settledPhase_of_ended {p : Planner} (h : PassesEnded p) : p.settledPhase = .extraPass := by
  obtain hExtra | ⟨cls, pass, hPhase, -, hNone⟩ := h
  · rw [Planner.settledPhase, hExtra]
  · rw [Planner.settledPhase, hPhase]
    exact settleFrom_of_no_mark hNone

/-! ### One entry of the buffer -/

theorem firstWith_append {v : Verdict} {pre post : List PlanEntry} {e : PlanEntry} (he : e.verdict = v)
    (hPre : ∀ x ∈ pre, x.verdict ≠ v) : firstWith v (pre ++ e :: post) = some e := by
  rw [firstWith, List.find?_append, List.find?_eq_none.2 (by simpa using hPre)]
  simp [he]

theorem settleFirst_append {v : Verdict} {f : PlanEntry → Verdict} {pre post : List PlanEntry} {e : PlanEntry}
    (he : e.verdict = v) (hPre : ∀ x ∈ pre, x.verdict ≠ v) :
    settleFirst v f (pre ++ e :: post) = pre ++ { e with verdict := f e } :: post := by
  induction pre with
  | nil => exact if_pos he
  | cons x l ih =>
    rw [List.cons_append, settleFirst, if_neg (hPre x (by simp)), ih fun y hy => hPre y (by simp [hy])]
    rfl

/-- A class pass that has an entry marked for it treats the first (R104). -/
theorem exec_classPassEntry {cls : Nat} {pass : Pass} {e : PlanEntry} (hPhase : s.planner.settledPhase = .classPass cls pass)
    (hFirst : firstWith (.forClass cls pass) s.planner.buffer = some e) :
    exec .classPassEntry s =
      .next (treatCandidate cls pass e { s with planner := { s.planner with phase := .classPass cls pass } }) := by
  show execClassPassEntry s = _
  unfold execClassPassEntry
  rw [hPhase]
  dsimp only
  rw [hFirst]

/-- Settles O51: the pass that is reached, and its first candidate. -/
theorem grantsAreAllOrNone : Obligations.GrantsAreAllOrNone := by
  refine ⟨fun s cls at0 pass from0 pre post e slot hPhase hLast hFrom hFirst hBuffer hVerdict hPre hSlot hSlotLt => ?_,
    fun s at0 from0 hPhase hLast hNone => ?_⟩
  · have hMark : hasMark s.planner.buffer (.forClass cls pass) = true := hasMark_iff.2 ⟨e, by simp [hBuffer], hVerdict⟩
    have hReached : s.planner.settledPhase = .classPass cls pass := by
      rw [Planner.settledPhase, hPhase]
      exact settleFrom_of_mark (by cases from0 <;> simp only [passRank] <;> omega) hMark hFrom hFirst
    have hTaken : firstWith (.forClass cls pass) s.planner.buffer = some e := by
      rw [hBuffer]
      exact firstWith_append hVerdict hPre
    have hExec := exec_classPassEntry hReached hTaken
    have hGetD : e.plan.protSlot.getD 0 = slot := by rw [hSlot]; rfl
    refine ⟨fun hFree => ⟨_, hExec, ?_, fun k q hq => ?_⟩, fun ⟨k, hk, hHeld⟩ => ?_⟩
    · rw [treatCandidate, hGetD, if_pos (arcFree_iff.2 hFree), hBuffer, settleFirst_append hVerdict hPre]
    · rw [treatCandidate, hGetD, if_pos (arcFree_iff.2 hFree)]
      exact (grantAt_grantArc hSlotLt hq _ _ _).trans (if_congr and_comm rfl rfl)
    · have hNotFree : ¬ arcFree s.planner.nextGrants (e.plan.detourArc s.node.ringSize) slot = true :=
        fun hFree => hHeld (arcFree_iff.1 hFree k hk)
      have hLost := arcCond_eq_unusable (snap := s.planner.snapshot) (arc := e.plan.workingArc s.node.ringSize)
      refine ⟨if arcCond s.planner.snapshot (e.plan.workingArc s.node.ringSize) = .unusable then .suppressed else .working,
        fun h => if_pos (hLost.2 h), fun h => if_neg fun hCond => h (hLost.1 hCond), ?_⟩
      rw [hExec, treatCandidate, hGetD, if_neg hNotFree, hBuffer, settleFirst_append hVerdict hPre]
      rfl
  · have hEnded : s.planner.settledPhase = .extraPass := settledPhase_of_ended (.inr ⟨at0, from0, hPhase, hLast, hNone⟩)
    show execClassPassEntry s = _
    unfold execClassPassEntry
    rw [hEnded]

/-- Settles O52: the Extra pass by the two tests of R106. -/
theorem extrasGiveWay : Obligations.ExtrasGiveWay := fun s pre post e hEnded hBuffer hVerdict hPre => by
  have hExec : exec .extraPassEntry s = .next (treatExtra { s with planner := { s.planner with phase := .extraPass } }) :=
    if_pos (settledPhase_of_ended hEnded)
  have hSettles : ∀ o w, extraVerdict s.planner.snapshot s.planner.nextGrants s.node.ringSize e.plan = .settled o w →
      exec .extraPassEntry s = .next { s with planner := { s.planner with
        phase := .extraPass, buffer := pre ++ { e with verdict := .settled o w } :: post } } := fun o w hGives => by
    rw [hExec, treatExtra]
    dsimp only
    rw [hBuffer, settleFirst_append hVerdict hPre, hGives]
  by_cases hLost : ∃ k ∈ e.plan.workingArc s.node.ringSize, snapCond s.planner.snapshot k = .unusable
  · exact ⟨.preempted, .arcLost, hSettles _ _ (if_pos (by simpa using hLost)), fun _ => ⟨rfl, rfl⟩, fun h => absurd hLost h,
      fun h => absurd hLost h⟩
  · by_cases hTaken : ∃ k ∈ e.plan.workingArc s.node.ringSize, grantAt s.planner.nextGrants k e.plan.workSlot ≠ none
    · exact ⟨.preempted, .outranked, hSettles _ _ ((if_neg (by simpa using hLost)).trans (if_pos (by simpa using hTaken))),
        fun h => absurd h hLost, fun _ _ => ⟨rfl, rfl⟩, fun _ h => absurd hTaken h⟩
    · exact ⟨.riding, .none, hSettles _ _ ((if_neg (by simpa using hLost)).trans (if_neg (by simpa using hTaken))),
        fun h => absurd h hLost, fun _ h => absurd h hTaken, fun _ _ => ⟨rfl, rfl⟩⟩

end Sys2Proof.Machine
end

section
/-!
PROOFS. Frames that a lane carries (04): a Span Report (O46) and a Path Confirm (O48). A good frame leaves a line whose Line Monitor,
reports and spans are worked out as it was, but for the receiver of the lane.
-/

namespace Sys2Proof.Machine

variable {s t : State} {d : Side}

/-! ### A good frame in Locked -/

/-- Working out the defects of a Line Monitor that agrees with its inputs changes nothing (R39). -/
theorem evalMonitor_of_sound (h : MonitorSound s d) : evalMonitor d s = s := by
  have hSilence := h.silenceNow
  obtain ⟨hNow, -⟩ := h
  rw [evalMonitor, hSilence, ← hNow, Monitor.setDefects_of_any_eq (m := { s.mon d with silenceTimer := (s.mon d).silenceTimer }) rfl]
  exact State.setMon_mon s d

/-- A write of a lane that keeps its lock and its adjacency is calm. -/
theorem calm_setLane {l : Lane} (hLock : l.lock = (s.lane d).lock) (hAdj : l.adjacency = (s.lane d).adjacency) :
    Calm s (s.setLane d l) := by
  cases d with
  | east => exact .of_fields rfl rfl ⟨hLock, hAdj⟩ ⟨rfl, rfl⟩ ⟨rfl, rfl, rfl⟩ Iff.rfl ⟨rfl, rfl⟩ rfl rfl
  | west => exact .of_fields rfl rfl ⟨rfl, rfl⟩ ⟨hLock, hAdj⟩ ⟨rfl, rfl, rfl⟩ Iff.rfl ⟨rfl, rfl⟩ rfl rfl

theorem takeGood_of_sound (hs : MonitorSound s d) (ho : OwnComposed s) (hw : SpansWorkedOut s)
    (hLocked : (s.lane d).lock = .locked) : takeGood d s = s.setLane d (s.lane d).keptLock := by
  have hCalm : Calm s (s.setLane d (s.lane d).keptLock) := calm_setLane rfl rfl
  rw [takeGood, Lane.countGood_keeps hLocked, lineEvent, evalMonitor_of_sound (hCalm.inputs.monitorSound hs)]
  exact refreshReports_of_unchanged (hCalm.ownComposed ho) (hCalm.spansWorkedOut hw)

/-- A frame that is acted on counts, and is then acted on (R57). -/
theorem takeFrame_of_sound {act : State → State} (hs : MonitorSound s d) (ho : OwnComposed s) (hw : SpansWorkedOut s)
    (hLocked : (s.lane d).lock = .locked) (hRing : s.node.ringId ≠ 0) :
    takeFrame d true act s = act (s.setLane d (s.lane d).keptLock) := by
  have hActs : s.actsOn d = true := by simp [State.actsOn, hLocked, hRing]
  rw [takeFrame, hActs, takeGood_of_sound hs ho hw hLocked]
  rfl

/-! ### Span Reports -/

theorem ownKey_east_ne_west (n k n' k' : Nat) : ownKey n k .east ≠ ownKey n' k' .west := by
  simp only [ownKey, keyOf]; omega

/-- Outside the own keys a report is what the Span Map holds of the key (R78). -/
theorem report_of_not_own {key : Nat} (hEast : key ≠ ownKey s.node.ringSize s.node.own .east)
    (hWest : key ≠ ownKey s.node.ringSize s.node.own .west) : s.report key = Table.get none s.map.others key := by
  rw [State.report, if_neg fun h => hEast h.2, if_neg fun h => hWest h.2]

/-- Writing the report of one key changes what is known of that key alone (R72). -/
theorem report_setOther {key : Nat} (hEast : key ≠ ownKey s.node.ringSize s.node.own .east)
    (hWest : key ≠ ownKey s.node.ringSize s.node.own .west) (e : EndReport) (k : Nat) :
    (s.setOther key e).report k = if k = key then some e else s.report k := by
  by_cases hk : k = key
  · subst hk
    rw [if_pos rfl, report_of_not_own (s := s.setOther k e) hEast hWest]
    show Table.get none (Table.set none s.map.others k (some e)) k = _
    exact Table.get_set_eq _ _ _ _
  · rw [if_neg hk, State.report, State.report]
    have hSame : Table.get none (s.setOther key e).map.others k = Table.get none s.map.others k := by
      show Table.get none (Table.set none s.map.others key (some e)) k = _
      exact Table.get_set_ne _ _ _ hk
    rw [hSame]
    rfl

theorem report_compareSpans (s : State) (k : Nat) : (compareSpans s).report k = s.report k := by
  rw [compareSpans_eq]; rfl

theorem report_markKey (e : Side) (key : Nat) (s : State) (k : Nat) : (markKey e key s).report k = s.report k := by
  rw [markKey_eq]; cases e <;> rfl

/-- A report for a key that is unknown, or that is newer, is stored (R72). -/
theorem takeOther_of_fresh {r : SpanReport}
    (hFresh : ∀ e, Table.get none s.map.others (reportKey r) = some e → newer r.epoch e.epoch = true) :
    takeOther d r s = compareSpans (markKey d.other (reportKey r)
      (s.setOther (reportKey r) { content := reportContent r, epoch := r.epoch })) := by
  unfold takeOther
  dsimp only
  split
  · rfl
  next held hHeld => rw [if_pos (hFresh held hHeld)]; rfl

/-- A report that is not newer is discarded (R72). -/
theorem takeOther_of_stale {r : SpanReport} {e : EndReport} (hHeld : Table.get none s.map.others (reportKey r) = some e)
    (hStale : ¬ newer r.epoch e.epoch = true) : takeOther d r s = s := by
  unfold takeOther
  dsimp only
  rw [hHeld]
  exact if_neg hStale

theorem newer_iff (x y : BitVec 16) : newer x y = true ↔ 1 ≤ (x - y).toNat ∧ (x - y).toNat ≤ 32767 := by simp [newer]

/-- What is stored of a report for a key that is not an own key, and what it leaves (R72, R84). -/
theorem stored_spanReport {key : Nat} {e : EndReport} (hEast : key ≠ ownKey s.node.ringSize s.node.own .east)
    (hWest : key ≠ ownKey s.node.ringSize s.node.own .west) :
    let t := compareSpans (markKey d.other key (s.setOther key e))
    t.report key = some e ∧ (∀ k, k ≠ key → t.report k = s.report k) ∧ SpansWorkedOut t ∧ t.lane d = s.lane d ∧
      t.lane d.other = { s.lane d.other with
        pendingKeys := if (s.lane d.other).adjacency = .up then setInsert (s.lane d.other).pendingKeys key
          else (s.lane d.other).pendingKeys } ∧
      t.node = s.node ∧ t.store = s.store ∧ t.monEast = s.monEast ∧ t.monWest = s.monWest ∧
      t.fabric = { s.fabric with cadence := t.fabric.cadence } ∧ t.port = s.port ∧ t.pending = s.pending := by
  intro t
  have hReport : ∀ k, t.report k = if k = key then some e else s.report k := fun k => by
    rw [report_compareSpans, report_markKey, report_setOther hEast hWest]
  have hLane : ∀ f, t.lane f = (markKey d.other key (s.setOther key e)).lane f := fun f => lane_compareSpans _ f
  rw [markKey_eq] at hLane
  refine ⟨by rw [hReport, if_pos rfl], fun k hk => by rw [hReport, if_neg hk], spansWorkedOut_compareSpans _, ?_, ?_, ?_⟩
  · rw [hLane]
    cases d <;> rfl
  · rw [hLane]
    cases d <;> rfl
  · simp only [t]
    rw [markKey_eq, compareSpans_eq]
    cases d <;> exact ⟨rfl, rfl, rfl, rfl, rfl, rfl, rfl⟩

/-- A report that is adopted for an own key takes the next epoch and marks the key on both lanes (R68, R73). -/
theorem takeForOwn_of_adopted {o : Side} {r : SpanReport} (hAdopts : newer r.epoch (s.map.own o).epoch = true ∨
    (r.epoch = (s.map.own o).epoch ∧ reportContent r ≠ (s.map.own o).content)) :
    takeForOwn o r s =
      markBoth (reportKey r) { s with map := s.map.setOwn o { s.map.own o with epoch := r.epoch + 1 } } := if_pos hAdopts

theorem reportContent_ne_iff (r : SpanReport) (c : Content) : reportContent r ≠ c ↔ r.state ≠ c.state ∨ r.cause ≠ c.cause := by
  obtain ⟨state, cause⟩ := c
  simp only [reportContent, ne_eq, Content.mk.injEq]
  tauto

/-- Settles O46: the frame counts, and what is done with the report is told by its key and its epoch. -/
theorem spanReportsFloodByEpoch : Obligations.SpanReportsFloodByEpoch := fun s d r hs ho hw hLocked hRing hRange => by
  intro key base ownEast ownWest heard
  have hKey : key = reportKey r := by
    simp only [key, reportKey]
    cases r.spanEnd <;> rfl
  clear_value key
  subst hKey
  have hExec : exec (.spanReport d r) s = .next (actOnSpanReport d r base) := by
    show Host.Outcome.next (takeFrame d (spanReportInRange r) (actOnSpanReport d r) s) = _
    rw [hRange, takeFrame_of_sound hs ho hw hLocked hRing]
  have hNode : base.node = s.node := State.setLane_node _ _ _
  have hMap : base.map = s.map := State.setLane_map _ _ _
  have hAdj : ∀ e, (base.lane e).adjacency = (s.lane e).adjacency := (calm_setLane rfl rfl : Calm s base).inputs.adjacency
  have hReport : ∀ k, base.report k = s.report k := fun k => by rw [State.report, State.report, hNode, hMap]
  have hActs : heard → r.span < s.node.ringSize → actOnSpanReport d r base =
      if reportKey r = ownEast then takeForOwn .east r base
      else if reportKey r = ownWest then takeForOwn .west r base else takeOther d r base := fun hHeard hSpan => by
    rw [actOnSpanReport, hAdj, hNode, if_pos hHeard, if_pos hSpan]
  refine ⟨fun hNot => ?_, fun hHeard hSpan hEast hWest => ?_, fun hHeard hSpan o hOwn => ?_⟩
  · rw [hExec, actOnSpanReport, hAdj, hNode]
    obtain hDeaf | hOut := hNot
    · rw [if_neg hDeaf]
    · rw [if_neg (not_lt.2 hOut), ite_self]
  · have hEast' : reportKey r ≠ ownKey base.node.ringSize base.node.own .east := by rw [hNode]; exact hEast
    have hWest' : reportKey r ≠ ownKey base.node.ringSize base.node.own .west := by rw [hNode]; exact hWest
    have hHeld : s.report (reportKey r) = Table.get none base.map.others (reportKey r) := by
      rw [report_of_not_own hEast hWest, hMap]
    rw [hHeld, hExec, hActs hHeard hSpan, if_neg hEast, if_neg hWest]
    refine ⟨fun hStale => ?_, fun hFresh => ?_⟩
    · push Not at hStale
      obtain ⟨e, hKnown, hOld⟩ := hStale
      rw [takeOther_of_stale hKnown fun hNewer => absurd ((newer_iff _ _).1 hNewer) (by omega)]
    · rw [takeOther_of_fresh fun e he => (newer_iff _ _).2 (hFresh e he)]
      obtain ⟨hStored, hOthers, hSpans, hLane, hMarked, hRest⟩ := stored_spanReport (d := d) hEast' hWest'
        (e := { content := reportContent r, epoch := r.epoch })
      simp only [hReport, hAdj] at hOthers hMarked
      refine ⟨_, rfl, hStored, hOthers, hSpans, hLane, hMarked.trans ?_, ?_⟩
      · rw [show base.lane d.other = s.lane d.other from State.lane_setLane_other _ _ _]
      · obtain ⟨hNode', hStore, hMonEast, hMonWest, hFabric, hPort, hPending⟩ := hRest
        exact ⟨hNode'.trans hNode, hStore.trans (State.setLane_store _ _ _), hMonEast.trans (State.setLane_monEast _ _ _),
          hMonWest.trans (State.setLane_monWest _ _ _), hFabric.trans (by rw [show base.fabric = s.fabric from State.setLane_fabric _ _ _]),
          hPort.trans (State.setLane_port _ _ _), hPending.trans (State.setLane_pending _ _ _)⟩
  · have hTaken : actOnSpanReport d r base = takeForOwn o r base := by
      rw [hActs hHeard hSpan]
      cases o with
      | east => exact if_pos hOwn
      | west => exact (if_neg fun h => ownKey_east_ne_west _ _ _ _ (h.symm.trans hOwn)).trans (if_pos hOwn)
    have hAdopts : (newer r.epoch (base.map.own o).epoch = true ∨
        (r.epoch = (base.map.own o).epoch ∧ reportContent r ≠ (base.map.own o).content)) ↔
        (1 ≤ (r.epoch - (s.map.own o).epoch).toNat ∧ (r.epoch - (s.map.own o).epoch).toNat ≤ 32767) ∨
          (r.epoch = (s.map.own o).epoch ∧
            (r.state ≠ (s.map.own o).content.state ∨ r.cause ≠ (s.map.own o).content.cause)) := by
      rw [newer_iff, hMap, reportContent_ne_iff]
    rw [hExec, hTaken]
    refine ⟨fun hNot => congrArg Host.Outcome.next (if_neg fun h => hNot (hAdopts.1 h)), fun hYes => ?_⟩
    rw [takeForOwn_of_adopted (hAdopts.2 hYes)]
    refine ⟨_, rfl, ?_, fun e => ?_, ?_⟩
    · rw [markBoth_eq, hMap]
    · rw [lane_markBoth, lane_withMap, hAdj]
      cases e <;> cases d <;> rfl
    · rw [markBoth_eq]
      cases d <;> rfl

/-! ### Path Confirms -/

/-- Writing an exchange writes the records, the changed set and the Attention Unit at most (R139). -/
theorem setExchange_frame (h : Nat) (x : Exchange) (s : State) :
    setExchange h x s = { s with
      store := { s.store with
        records := (setExchange h x s).store.records, changed := (setExchange h x s).store.changed },
      attn := (setExchange h x s).attn } := by
  rw [setExchange_eq]
  split
  · rfl
  · rw [markChanged_eq]; rfl

/-- A write of an exchange marks its record exactly where the confirm state changes (R139). -/
theorem mem_changed_setExchange (h k : Nat) (x : Exchange) (s : State) :
    k ∈ (setExchange h x s).store.changed ↔ (k = h ∧ x.state ≠ (s.record h).exchange.state) ∨ k ∈ s.store.changed := by
  rw [setExchange_eq]
  split
  next hSame =>
    show k ∈ s.store.changed ↔ _
    simp [hSame]
  next hChanges =>
    rw [mem_changed_markChanged]
    show k = h ∨ k ∈ s.store.changed ↔ _
    simp [hChanges]

/-- A confirm that is taken is heard, and Awaiting and Unconfirmed go to Restored (R144, R146). -/
theorem heardConfirm_eq (x : Exchange) (heard : Bool) : x.heardConfirm heard = { x with
    heardTheirs := true, theyHeardMine := x.theyHeardMine || (heard && decide (1 ≤ x.attempts)),
    state := if x.state = .awaiting ∨ x.state = .unconfirmed then .restored else x.state } := by
  unfold Exchange.heardConfirm
  cases hState : x.state <;> simp

theorem heardConfirm_moves (x : Exchange) (heard : Bool) :
    (x.heardConfirm heard).state ≠ x.state ↔ x.state = .awaiting ∨ x.state = .unconfirmed := by
  rw [heardConfirm_eq]
  cases hState : x.state <;> simp

theorem replies_iff (x : Exchange) (heard : Bool) :
    x.replies heard = true ↔ heard = false ∧ (x.state = .awaiting ∨ x.state = .restored ∨ x.state = .unconfirmed) := by
  simp [Exchange.replies, or_assoc]

theorem takesConfirm_iff {p : PathConfirm} : s.takesConfirm d p = true ↔ ∃ r, s.endRole p.handle = some r ∧
    s.node.state ≠ .configuring ∧ (s.record p.handle).outcome = .detour ∧ p.sender = (s.record p.handle).plan.otherEnd r ∧
    d = (s.record p.handle).plan.detourSide r ∧ p.check = recordCheck (s.record p.handle).code := by
  unfold State.takesConfirm
  cases s.endRole p.handle <;> simp [and_assoc]

/-- A confirm that is taken is heard, and answered where R145 has a reply. -/
theorem confirmArrives_of_taken {p : PathConfirm} {r : Role} (hRole : s.endRole p.handle = some r)
    (hTakes : s.takesConfirm d p = true) : confirmArrives d p s =
      if (s.record p.handle).exchange.replies p.heard then
        sendConfirm p.handle r true (setExchange p.handle ((s.record p.handle).exchange.heardConfirm p.heard) s)
      else setExchange p.handle ((s.record p.handle).exchange.heardConfirm p.heard) s := by
  unfold confirmArrives
  rw [hRole]
  exact if_pos hTakes

theorem confirmArrives_of_not_taken {p : PathConfirm} (hNot : ¬ s.takesConfirm d p = true) : confirmArrives d p s = s := by
  unfold confirmArrives
  split
  · rfl
  · exact if_neg hNot

/-- The lanes after a reply: the confirm is given to the lane of the detour side (R142). -/
theorem giveConfirm_setExchange (d : Side) (q : PathConfirm) (h : Nat) (x : Exchange) (s : State) (e : Side) :
    (giveConfirm d q (setExchange h x s)).lane e = (giveConfirm d q s).lane e := by
  rw [giveConfirm_eq, giveConfirm_eq, lane_setExchange]
  obtain rfl | rfl := Side.eq_or_eq_other e d
  · rw [State.lane_setLane, State.lane_setLane]
  · rw [State.lane_setLane_other, State.lane_setLane_other, lane_setExchange]

/-- Settles O48: the sender, the target and the hops tell what becomes of a confirm, and R143 whether the unit takes it. -/
theorem pathConfirmsAreForwardedOrTaken : Obligations.PathConfirmsAreForwardedOrTaken :=
    fun s d p hs ho hw hLocked hRing hRange => by
  intro base give
  have hExec : exec (.pathConfirm d p) s = .next (actOnPathConfirm d p base) := by
    show Host.Outcome.next (takeFrame d (confirmInRange p) (actOnPathConfirm d p) s) = _
    rw [hRange, takeFrame_of_sound hs ho hw hLocked hRing]
  have hNode : base.node = s.node := State.setLane_node _ _ _
  have hAdj : ∀ e, (base.lane e).adjacency = (s.lane e).adjacency := (calm_setLane rfl rfl : Calm s base).inputs.adjacency
  have hRecord : ∀ k, base.record k = s.record k := fun k => by rw [State.record, State.record, State.setLane_store]
  have hEndRole : ∀ k, base.endRole k = s.endRole k := fun k => by rw [State.endRole, State.endRole, hRecord, hNode]
  have hActs : (s.lane d).adjacency = .up → p.sender ≠ s.node.own → actOnPathConfirm d p base =
      if p.target = s.node.own then confirmArrives d p base else forwardConfirm d p base := fun hUp hSender => by
    rw [actOnPathConfirm, hAdj, hNode, if_pos hUp, if_neg hSender]
  refine ⟨fun hDropped => ?_, fun hUp hSender hTarget => ?_, fun hUp hSender hTarget => ?_⟩
  · rw [hExec, actOnPathConfirm, hAdj, hNode]
    obtain hDown | hOwn := hDropped
    · rw [if_neg hDown]
    · rw [if_pos hOwn, ite_self]
  · rw [hExec, hActs hUp hSender, if_neg hTarget, forwardConfirm]
    rfl
  · rw [hActs hUp hSender, if_pos hTarget] at hExec
    have hTakes : base.takesConfirm d p = true ↔ ∃ r, s.endRole p.handle = some r ∧ s.node.state ≠ .configuring ∧
        (s.record p.handle).outcome = .detour ∧ p.sender = (s.record p.handle).plan.otherEnd r ∧
        d = (s.record p.handle).plan.detourSide r ∧ p.check = recordCheck (s.record p.handle).code := by
      rw [takesConfirm_iff, hNode]
      simp only [hRecord, hEndRole]
    refine ⟨fun hNone => ?_, fun r hTaken => ⟨_, hExec, ?_⟩⟩
    · rw [hExec, confirmArrives_of_not_taken fun h => by obtain ⟨r, hr⟩ := hTakes.1 h; exact hNone r hr]
    · obtain ⟨hRole, -, -, hOther, hSide, hCheck⟩ := id hTaken
      rw [confirmArrives_of_taken ((hEndRole _).trans hRole) (hTakes.2 ⟨r, hTaken⟩), hRecord]
      set x := (s.record p.handle).exchange with hx
      set heard := setExchange p.handle (x.heardConfirm p.heard) base with hHeard
      have hHeardRecord : ∀ k, heard.record k =
          if k = p.handle then { s.record p.handle with exchange := x.heardConfirm p.heard } else s.record k := fun k => by
        rw [hHeard, record_setExchange, hRecord, hRecord]
      set reply : PathConfirm :=
        { handle := p.handle, check := p.check, sender := s.node.own, target := p.sender, heard := true,
          hops := BitVec.ofNat 8 s.node.ringSize }
      have hReply : sendConfirm p.handle r true heard = giveConfirm d reply heard := by
        have hHeardNode : heard.node = s.node := by rw [hHeard, setExchange_frame]; exact hNode
        rw [sendConfirm, State.confirmFor, hHeardRecord, if_pos rfl, hHeardNode]
        simp only [← hSide, ← hOther, ← hCheck, reply]
      have hGive : ∀ e, (giveConfirm d reply heard).lane e = (give base d reply).lane e := giveConfirm_setExchange d reply _ _ base
      have hStore : ∀ q, (giveConfirm d q heard).store = heard.store := fun q => by rw [giveConfirm_eq, State.setLane_store]
      have hPlace : ∀ t : State, t = heard ∨ t = giveConfirm d reply heard →
          t.record p.handle = { s.record p.handle with exchange := { x with
            heardTheirs := true, theyHeardMine := x.theyHeardMine || (p.heard && decide (1 ≤ x.attempts)),
            state := if x.state = .awaiting ∨ x.state = .unconfirmed then .restored else x.state } } ∧
          OtherRecords p.handle s t ∧ (∀ k, k ∈ t.store.changed ↔
            (k = p.handle ∧ (x.state = .awaiting ∨ x.state = .unconfirmed)) ∨ k ∈ s.store.changed) ∧
          t = { s with
            store := { s.store with records := t.store.records, changed := t.store.changed },
            laneEast := t.laneEast, laneWest := t.laneWest, attn := t.attn } := fun t ht => by
        have hSame : t.store = heard.store := by obtain rfl | rfl := ht; exacts [rfl, hStore _]
        have hRec : ∀ k, t.record k = heard.record k := fun k => by rw [State.record, State.record, hSame]
        refine ⟨?_, fun k hk => ?_, fun k => ?_, ?_⟩
        · rw [hRec, hHeardRecord, if_pos rfl, heardConfirm_eq]
        · rw [hRec, hHeardRecord, if_neg hk]
        · rw [hSame, hHeard, mem_changed_setExchange, hRecord, heardConfirm_moves, State.setLane_store]
        · obtain rfl | rfl := ht
          · rw [hHeard, setExchange_frame]
            cases d <;> rfl
          · rw [giveConfirm_eq, hHeard, setExchange_frame]
            cases d <;> rfl
      by_cases hReplies : x.replies p.heard = true
      · rw [if_pos hReplies, hReply]
        obtain ⟨hMine, hOthers, hChanged, hFrame⟩ := hPlace _ (.inr rfl)
        exact ⟨hMine, hOthers, hChanged, fun e => by rw [if_pos ((replies_iff _ _).1 hReplies)]; exact hGive e, hFrame⟩
      · rw [if_neg hReplies]
        obtain ⟨hMine, hOthers, hChanged, hFrame⟩ := hPlace _ (.inl rfl)
        exact ⟨hMine, hOthers, hChanged, fun e => by
          rw [if_neg fun h => hReplies ((replies_iff _ _).2 h), hHeard, lane_setExchange], hFrame⟩

end Sys2Proof.Machine
end

section
/-!
PROOFS. Requests that change the digest: a span delay (O28), Discard and Retire (O33), Activate (O34) and Amend (O35). What a change
of the digest does to the lanes and what a trigger does to the Planner are said once.
-/

namespace Sys2Proof.Machine

variable {s t u : State}

/-! ### A request that is carried out -/

/-- A request that the port takes leaves what its carrying out makes, with the response in hand (R156). -/
theorem exec_carried {i : Instr} {tag : Byte} {carry : State → Carried} {status : Status} {data : List Byte}
    (hExec : ∀ v, exec i v = .next (takeRequest i tag carry v)) (hAccepts : Accepts s)
    (hCarry : carry (clearHolder s) = { state := u, status := status, data := data }) (hPort : u.port = (clearHolder s).port) :
    exec i s = .next (State.withRequest { u with port := s.port } i tag status data) := by
  have hRun := exec_request hExec hAccepts (by rw [hCarry]; exact hPort)
  rwa [hCarry] at hRun

/-! ### A change of the digest -/

theorem causeIn_raiseIf (b : Bool) (c e : Cause) (s : State) :
    causeIn (raiseIf b c s).attn.pending e = (causeIn s.attn.pending e || (b && decide (e = c))) := by
  rw [raiseIf_eq]
  cases b
  · simp
  · exact (causeIn_raise s.attn c e).trans (by simp)

/-- Table Disagreement after the comparison on one lane (R66). -/
theorem disagreement_compareDigest (d : Side) (s : State) :
    causeIn (compareDigest d s).attn.pending .tableDisagreement =
      (causeIn s.attn.pending .tableDisagreement || ((s.lane d).comparedWith s.store.digest && !(s.lane d).differs)) := by
  rw [compareDigest_raises, causeIn_raiseIf, State.setLane_attn]
  simp

/-- No other cause is raised by a comparison (R66). -/
theorem causeIn_compareDigest_of_ne (d : Side) (s : State) {c : Cause} (hc : c ≠ .tableDisagreement) :
    causeIn (compareDigest d s).attn.pending c = causeIn s.attn.pending c := by
  rw [compareDigest_raises, causeIn_raiseIf, State.setLane_attn]
  simp [hc]

theorem Lane.comparedWith_cases (l : Lane) (digest : BitVec 32) :
    (∀ g, l.adjacency = .up → l.neighbour = some g → l.comparedWith digest = decide (g.digest ≠ digest)) ∧
      (l.adjacency ≠ .up ∨ l.neighbour = none → l.comparedWith digest = l.differs) :=
  ⟨fun _ hUp hSome => Lane.comparedWith_up digest hUp hSome,
    fun h => h.elim (Lane.comparedWith_of_not_up l digest) (Lane.comparedWith_of_none digest)⟩

/-- A write of the digest moves the comparisons alone (R66). -/
theorem lanesButDigest_setDigest (v : BitVec 32) (s : State) : LanesButDigest false s (setDigest v s) := by
  have hDigest : (setDigest v s).store.digest = v := by rw [setDigest_eq]
  by_cases hv : v = s.store.digest
  · have hSame : setDigest v s = s := if_pos hv
    rw [hSame]
    exact ⟨fun d => rfl, fun _ _ => rfl, fun h => absurd rfl h, fun _ _ => rfl, by simp⟩
  · have hLane : ∀ d, (setDigest v s).lane d = (s.lane d).compared v := fun d => by rw [lane_setDigest, if_neg hv]
    have hDiffers : ∀ d, ((setDigest v s).lane d).differs = (s.lane d).comparedWith v := fun d => by rw [hLane]; rfl
    refine ⟨fun d => by rw [hLane]; rfl, fun hSame => absurd (hDigest.symm.trans hSame) hv, fun _ d g hUp hSome => ?_,
      fun d hNot => ?_, ?_⟩
    · rw [hDiffers, hDigest, ((s.lane d).comparedWith_cases v).1 g hUp hSome]
    · rw [hDiffers, ((s.lane d).comparedWith_cases v).2 hNot]
    · have hAttn : causeIn (setDigest v s).attn.pending .tableDisagreement =
          (causeIn s.attn.pending .tableDisagreement || ((s.lane .east).comparedWith v && !(s.lane .east).differs) ||
            ((s.lane .west).comparedWith v && !(s.lane .west).differs)) := by
        rw [setDigest, if_neg hv, disagreement_compareDigest, disagreement_compareDigest, digest_compareDigest,
          show Side.west = Side.east.other from rfl, lane_compareDigest_other]
        rfl
      rw [hAttn]
      simp only [hDiffers, Bool.or_eq_true, Bool.and_eq_true, Bool.not_eq_true', or_assoc]
      refine or_congr_right ⟨fun h => h.elim (fun h => ⟨.east, h⟩) fun h => ⟨.west, h⟩, fun ⟨d, h⟩ => ?_⟩
      cases d
      exacts [.inl h, .inr h]

/-- The comparisons speak of the lanes, the digest and Table Disagreement alone. -/
theorem LanesButDigest.congr {q : Bool} {s' t' : State} (h : LanesButDigest q s t)
    (hLane : ∀ d, s'.lane d = s.lane d) (hDigest : s'.store.digest = s.store.digest)
    (hCause : causeIn s'.attn.pending .tableDisagreement = causeIn s.attn.pending .tableDisagreement)
    (hLane' : ∀ d, t'.lane d = t.lane d) (hDigest' : t'.store.digest = t.store.digest)
    (hCause' : causeIn t'.attn.pending .tableDisagreement = causeIn t.attn.pending .tableDisagreement) :
    LanesButDigest q s' t' := by
  unfold LanesButDigest DigestCompared at *
  simp only [hLane, hDigest, hCause, hLane', hDigest', hCause']
  exact h

/-! ### A trigger of the host -/

theorem hostTriggered_hostTrigger (hState : u.node.state = s.node.state) : HostTriggered u.planner s (hostTrigger u) := by
  unfold HostTriggered
  rw [← hState]
  refine ⟨fun h => ?_, fun h hBusy => ?_, fun h hIdle => ?_⟩
  · rw [hostTrigger, if_pos h]
  · rw [hostTrigger, if_neg h, if_neg hBusy]
  · rw [hostTrigger, if_neg h, if_pos hIdle]
    rfl

theorem record_hostTrigger (s : State) (k : Nat) : (hostTrigger s).record k = s.record k := by rw [hostTrigger_eq]; rfl

theorem lane_hostTrigger (s : State) (d : Side) : (hostTrigger s).lane d = s.lane d := by rw [hostTrigger_eq]; cases d <;> rfl

/-! ### Span delays -/

/-- Settles O28. -/
theorem spanDelayEntersDigestAndPlan : Obligations.SpanDelayEntersDigestAndPlan := fun s tag span delay hAccepts hSpan => by
  have hInRange : ¬ Config.delayCount ≤ span := by simp only [Config.delayCount]; omega
  refine ⟨fun hSame => exec_answered (carry := carrySetSpanDelay span delay) (fun _ => rfl) hAccepts ?_, fun hNew => ?_⟩
  · rw [carrySetSpanDelay, if_neg hInRange]
    dsimp only
    rw [if_pos (by exact hSame), State.delayBytes, hSame]
    rfl
  · set delays := Table.set 0 s.map.delays span delay with hDelays
    set v := s.store.digest - crc32 (delayImage s.map.delays) + crc32 (delayImage delays) with hv
    set u : State := { clearHolder s with map := { s.map with delays := delays } } with hu
    have hGet : ∀ k, Table.get 0 delays k = if k = span then delay else Table.get 0 s.map.delays k := fun k => Table.get_set _ _ _ _ _
    have hCarry : carrySetSpanDelay span delay (clearHolder s) =
        { state := hostTrigger (setDigest v u), status := .ok, data := be1 span ++ be2 delay.toNat } := by
      have hNew' : delay ≠ Table.get 0 (clearHolder s).map.delays span := hNew
      have hWritten : writeDelay span delay (clearHolder s) = hostTrigger (setDigest v u) := rfl
      have hMap : (hostTrigger (setDigest v u)).map.delays = delays := by rw [hostTrigger_eq, setDigest_eq]
      rw [carrySetSpanDelay, if_neg hInRange]
      dsimp only
      rw [if_neg hNew', hWritten, State.delayBytes, hMap, hGet, if_pos rfl]
    refine ⟨_, exec_carried (carry := carrySetSpanDelay span delay) (fun _ => rfl) hAccepts hCarry ?_, ?_⟩
    · rw [port_hostTrigger, port_setDigest]
    · have hTriggered : HostTriggered (setDigest v u).planner s (hostTrigger (setDigest v u)) :=
        hostTriggered_hostTrigger (by rw [setDigest_eq]; rfl)
      have hPlanner : (setDigest v u).planner = s.planner := by rw [setDigest_eq]; rfl
      have hLanes : LanesButDigest false s (hostTrigger (setDigest v u)) :=
        (lanesButDigest_setDigest v u).congr (fun d => by cases d <;> rfl) rfl rfl (fun d => lane_hostTrigger _ d)
          (by rw [hostTrigger_eq]) (by rw [hostTrigger_eq])
      obtain ⟨hMap, hStore, hNode, hMonEast, hMonWest, hFabric, hPending⟩ : (hostTrigger (setDigest v u)).map = { s.map with delays := delays } ∧
          (hostTrigger (setDigest v u)).store = { s.store with digest := v } ∧ (hostTrigger (setDigest v u)).node = s.node ∧
          (hostTrigger (setDigest v u)).monEast = s.monEast ∧ (hostTrigger (setDigest v u)).monWest = s.monWest ∧
          (hostTrigger (setDigest v u)).fabric = s.fabric ∧ (hostTrigger (setDigest v u)).pending = s.pending := by
        rw [hostTrigger_eq, setDigest_eq]
        exact ⟨rfl, rfl, rfl, rfl, rfl, rfl, rfl⟩
      rw [hPlanner] at hTriggered
      generalize hostTrigger (setDigest v u) = t at *
      refine ⟨fun k => ?_, ?_, ?_, hTriggered, hLanes, rfl, hNode, hMonEast, hMonWest, hFabric, hPending⟩
      · show Table.get 0 t.map.delays k = _
        rw [hMap, hGet]
      · show t.map = { s.map with delays := t.map.delays }
        rw [hMap]
      · show t.store = { s.store with digest := s.store.digest - crc32 (delayImage s.map.delays) + crc32 (delayImage t.map.delays) }
        rw [hMap, hStore]

/-! ### Discard and Retire -/

theorem withBlock_none (h : Nat) (status : Status) (s : State) :
    withBlock h status none s = { state := s, status := status, data := s.blockBytes h } := by simp [withBlock]

/-- Where every bucket holds the records in use, a handle whose record stands keeps its place (R17). -/
theorem mem_bucket_of_same {b k : Nat} (hs : LabelsSound s) (ht : LabelsSound t) (hSame : t.record k = s.record k) :
    k ∈ t.bucket b ↔ k ∈ s.bucket b := by
  obtain ⟨-, hMem, -⟩ := hs
  obtain ⟨-, hMem', -⟩ := ht
  rw [hMem, hMem', State.inUse, State.inUse, hSame]

theorem not_mem_bucket_of_free {b h : Nat} (hs : LabelsSound s) (hFree : s.record h = Record.free) : h ∉ s.bucket b :=
  fun hMem => ((hs.2.1 b h).1 hMem).1 (by rw [hFree]; rfl)

/-- What becoming Free does to the record, the Label Index and the changed set (R4, R17, R20). -/
theorem freeRecord_effects (h : Nat) (hs : LabelsSound s) :
    (freeRecord h s).record h = Record.free ∧ OtherRecords h s (freeRecord h s) ∧ (∀ b, h ∉ (freeRecord h s).bucket b) ∧
      (∀ b k, k ≠ h → (k ∈ (freeRecord h s).bucket b ↔ k ∈ s.bucket b)) ∧
      (∀ k, k ∈ (freeRecord h s).store.changed ↔ k ≠ h ∧ k ∈ s.store.changed) ∧
      freeRecord h s = { s with store := { s.store with
        records := (freeRecord h s).store.records, labelIndex := (freeRecord h s).store.labelIndex,
        changed := (freeRecord h s).store.changed } } := by
  have hLabels := labelsSound_freeRecord h hs
  have hMine : (freeRecord h s).record h = Record.free := by rw [record_freeRecord, if_pos rfl]
  have hOther : OtherRecords h s (freeRecord h s) := fun k hk => by rw [record_freeRecord, if_neg hk]
  exact ⟨hMine, hOther, fun b => not_mem_bucket_of_free hLabels hMine, fun b k hk => mem_bucket_of_same hs hLabels (hOther k hk),
    fun k => (mem_setErase _ _ _).trans and_comm, rfl⟩

theorem badHandle_of_lt {h : Nat} (hh : h < 4096) : badHandle h = false := by simp [badHandle, Config.handleCount]; omega

/-- A Retire in Configuring frees the record, and its code leaves the digest (R15, R19). -/
theorem retireFields_configuring (h : Nat) (hs : LabelsSound s) (hState : s.node.state = .configuring) :
    let t := retireFields h s
    t.record h = Record.free ∧ OtherRecords h s t ∧ LanesButDigest false s t ∧ RecordFrame s t ∧
      t.store.digest = s.store.digest - (s.record h).code ∧ (∀ b, h ∉ t.bucket b) ∧
      (∀ b k, k ≠ h → (k ∈ t.bucket b ↔ k ∈ s.bucket b)) ∧ (∀ k, k ∈ t.store.changed ↔ k ≠ h ∧ k ∈ s.store.changed) ∧
      t.planner = s.planner := by
  intro t
  obtain ⟨hFree, hOther, hBucket, hBuckets, hChanged, -⟩ := freeRecord_effects h hs
  have ht : t = setDigest (s.store.digest - (s.record h).code) (freeRecord h s) := if_pos hState
  have hRecord : ∀ k, t.record k = (freeRecord h s).record k := fun k => by rw [ht, record_setDigest]
  have hLanes := lanesButDigest_setDigest (s.store.digest - (s.record h).code) (freeRecord h s)
  have hIndex : ∀ b, t.bucket b = (freeRecord h s).bucket b := fun b => bucket_of_labelIndex (by rw [ht, setDigest_eq]) b
  have hSame : t.store.changed = (freeRecord h s).store.changed := by rw [ht, setDigest_eq]
  refine ⟨(hRecord h).trans hFree, fun k hk => (hRecord k).trans (hOther k hk), ?_, ?_, ?_, fun b => ?_, fun b k hk => ?_,
    fun k => ?_, ?_⟩
  · rw [ht]
    exact hLanes.congr (fun d => by cases d <;> rfl) rfl rfl (fun _ => rfl) rfl rfl
  · rw [ht, setDigest_eq]
    exact ⟨rfl, rfl, rfl, rfl, rfl, rfl, rfl⟩
  · rw [ht, setDigest_eq]
  · rw [hIndex]; exact hBucket b
  · rw [hIndex]; exact hBuckets b k hk
  · rw [hSame]; exact hChanged k
  · rw [ht, setDigest_eq]
    rfl

/-- A Retire elsewhere marks the record as Retiring, and the Planner is triggered (R15, R112). -/
theorem retireFields_elsewhere (h : Nat) (hState : s.node.state ≠ .configuring) :
    let t := retireFields h s
    t.record h = { s.record h with lifecycle := .retiring } ∧ OtherRecords h s t ∧ LanesButDigest false s t ∧
      RecordFrame s t ∧ t.store = { s.store with records := t.store.records } ∧ t.attn = s.attn ∧
      HostTriggered s.planner s t := by
  intro t
  have ht : t = hostTrigger (s.setRec h { s.record h with lifecycle := .retiring }) := if_neg hState
  have hRecord : ∀ k, t.record k = if k = h then { s.record h with lifecycle := .retiring } else s.record k := fun k => by
    rw [ht, record_hostTrigger, record_setRec]
  have hLane : ∀ d, t.lane d = s.lane d := fun d => by rw [ht, lane_hostTrigger]; cases d <;> rfl
  have hFrame := hostTrigger_eq (s.setRec h { s.record h with lifecycle := .retiring })
  have hDigest : t.store.digest = s.store.digest := by rw [ht, hFrame]; rfl
  refine ⟨by rw [hRecord, if_pos rfl], fun k hk => by rw [hRecord, if_neg hk], ⟨fun d => ?_, ?_, ?_, ?_, ?_⟩, ?_, ?_, ?_, ?_⟩
  · rw [hLane]; rfl
  · exact fun _ d => by rw [hLane]
  · exact fun hNot => absurd hDigest hNot
  · exact fun d _ => by rw [hLane]
  · have hAttn : t.attn = s.attn := by rw [ht, hFrame]; rfl
    simp [hAttn, hLane]
  · rw [ht, hFrame]
    exact ⟨rfl, rfl, rfl, rfl, rfl, rfl, rfl⟩
  · rw [ht, hFrame]
    rfl
  · rw [ht, hFrame]
    rfl
  · rw [ht]
    exact hostTriggered_hostTrigger (u := s.setRec h { s.record h with lifecycle := .retiring }) rfl

/-- Settles O33: a Discard frees the record, and a Retire frees it in Configuring and marks it elsewhere. -/
theorem discardAndRetireRecord : Obligations.DiscardAndRetireRecord := fun s tag h hAccepts hLabels hh => by
  have hHandle := badHandle_of_lt hh
  refine ⟨fun hStaged => ?_, fun hActive => ?_⟩
  · have hCarry : carryDiscard h (clearHolder s) =
        { state := freeRecord h (clearHolder s), status := .ok, data := (freeRecord h (clearHolder s)).blockBytes h } := by
      rw [carryDiscard, hHandle, if_neg (by simp), if_neg (by exact not_not.2 hStaged)]
      exact withBlock_none _ _ _
    obtain ⟨hFree, hOther, hBucket, hBuckets, hChanged, -⟩ := freeRecord_effects (s := clearHolder s) h hLabels
    exact ⟨_, exec_carried (carry := carryDiscard h) (fun _ => rfl) hAccepts hCarry rfl, hFree, hOther, hBucket, hBuckets,
      hChanged, rfl, rfl⟩
  · have hCarry : carryRetire h (clearHolder s) =
        { state := retireFields h (clearHolder s), status := .ok, data := (retireFields h (clearHolder s)).blockBytes h } := by
      rw [carryRetire, hHandle, if_neg (by simp), if_neg (by exact not_not.2 hActive)]
      exact withBlock_none _ _ _
    have hExec := exec_carried (carry := carryRetire h) (i := .retireRecord tag h) (tag := tag) (fun _ => rfl) hAccepts hCarry
      (port_retireFields _ _)
    by_cases hConf : s.node.state = .configuring
    · obtain ⟨hFree, hOther, hLanes, hFrame, hRest⟩ := retireFields_configuring (s := clearHolder s) h hLabels hConf
      exact ⟨_, hExec, hOther, hLanes, hFrame, rfl, fun _ => ⟨hFree, hRest⟩, fun hNot => absurd hConf hNot⟩
    · obtain ⟨hRetiring, hOther, hLanes, hFrame, hRest⟩ := retireFields_elsewhere (s := clearHolder s) h hConf
      exact ⟨_, hExec, hOther, hLanes, hFrame, rfl, fun hIs => absurd hIs hConf, fun _ => ⟨hRetiring, hRest⟩⟩

end Sys2Proof.Machine
end

section
/-!
PROOFS. Accepted Stage (O32), Activate (O34) and Amend (O35) requests.
-/

namespace Sys2Proof.Machine

variable {s t u : State}

/-! ### Stage -/

/-- What staging does to the records and the Label Index (R9, R10, R17). -/
theorem stageFields_effects {h : Nat} {p : Planning} (port : Option Byte) (hs : LabelsSound s)
    (hApart : ∀ k, k ≠ h → s.inUse k → (s.record k).plan.circuit ≠ p.circuit) :
    let t := stageFields h p port s
    t.record h = { s.record h with lifecycle := .staged, plan := p, port := port, code := recordCode h p } ∧
      OtherRecords h s t ∧ (∀ b, h ∈ t.bucket b ↔ b = bucketOf p.circuit) ∧
      ∀ b k, k ≠ h → (k ∈ t.bucket b ↔ k ∈ s.bucket b) := by
  intro t
  have hLabels : LabelsSound t := labelsSound_stageFields (labelHolder_eq_none.2 hApart) hs
  have hMine : t.record h = { s.record h with lifecycle := .staged, plan := p, port := port, code := recordCode h p } := by
    rw [record_stageFields, if_pos rfl]
    rfl
  have hOther : OtherRecords h s t := fun k hk => by rw [record_stageFields, if_neg hk]
  refine ⟨hMine, hOther, fun b => ?_, fun b k hk => mem_bucket_of_same hs hLabels (hOther k hk)⟩
  obtain ⟨-, hMem, -⟩ := hLabels
  rw [hMem, State.inUse, hMine]
  simp [eq_comm]

/-- Settles O32: the checks pass, and the fields are written. -/
theorem stageWritesOneRecord : Obligations.StageWritesOneRecord :=
    fun s tag h i p hAccepts hLabels hh hHandle hPlan hLife hApart => by
  have hCheck : (clearHolder s).stageRequestCheck h i = .pass := by
    have hPass : (clearHolder s).stageCheck h i = .pass :=
      stageCheck_pass_iff.2 ⟨hLife, p, hPlan, labelHolder_eq_none.2 hApart⟩
    rw [State.stageRequestCheck, hPass]
    exact if_neg (not_not.2 hHandle)
  have hCarry : carryStage h i (clearHolder s) =
      { state := stageFields h p (imagePort i) (clearHolder s), status := .ok,
        data := (stageFields h p (imagePort i) (clearHolder s)).blockBytes h } := by
    rw [carryStage, badHandle_of_lt hh, if_neg (by simp), hCheck, stageImage, hPlan]
    exact withBlock_none _ _ _
  have hPort : (stageFields h p (imagePort i) (clearHolder s)).port = (clearHolder s).port := by rw [stageFields_eq]
  obtain ⟨hMine, hOther, hBucket, hBuckets⟩ := stageFields_effects (s := clearHolder s) (imagePort i) hLabels hApart
  refine ⟨_, exec_carried (carry := carryStage h i) (fun _ => rfl) hAccepts hCarry hPort, hMine, hOther, hBucket, hBuckets, ?_, rfl⟩
  have hFrame := stageFields_eq h p (imagePort i) (clearHolder s)
  generalize stageFields h p (imagePort i) (clearHolder s) = u at *
  rw [hFrame]
  rfl

/-! ### Activate -/

theorem forEach_cons (h : Nat) (l : List Nat) (f : Nat → State → State) (s : State) :
    forEach (h :: l) f s = forEach l f (f h s) := rfl

/-- Each record of the list becomes Active (R13). -/
theorem record_makeActives (l : List Nat) (s : State) (k : Nat) :
    (forEach l makeActive s).record k = if k ∈ l then { s.record k with lifecycle := .active } else s.record k := by
  induction l generalizing s with
  | nil => simp [forEach]
  | cons h l ih =>
    rw [forEach_cons, ih, record_makeActive]
    by_cases hk : k = h
    · subst hk
      simp
    · simp [hk]

/-- What making records Active writes beside the records: while a sweep runs the handles join the late set (R13, R96). -/
theorem makeActives_eq (l : List Nat) (s : State) : forEach l makeActive s = { s with
    store := { s.store with records := (forEach l makeActive s).store.records },
    planner := if s.planner.phase = .idle then s.planner
      else { s.planner with late := l.foldl setInsert s.planner.late } } := by
  induction l generalizing s with
  | nil => simp [forEach]
  | cons h l ih =>
    rw [forEach_cons, ih]
    unfold makeActive
    by_cases hIdle : s.planner.phase = .idle
    · simp [hIdle, State.setRec]
    · simp [hIdle, State.setRec]

/-- What an activation does: the records, the digest with their codes, the trigger and the comparisons (R13, R19, R66,
R112). -/
theorem activateAll_effects (l : List Nat) (s : State) :
    let t := activateAll l s
    (∀ k, t.record k = if k ∈ l then { s.record k with lifecycle := .active } else s.record k) ∧
      t.store = { s.store with
        records := t.store.records, digest := s.store.digest + (l.map fun h => (s.record h).code).sum } ∧
      HostTriggered (if s.planner.phase = .idle then s.planner
        else { s.planner with late := l.foldl setInsert s.planner.late }) s t ∧
      LanesButDigest false s t ∧ RecordFrame s t := by
  intro t
  set v := s.store.digest + (l.map fun h => (s.record h).code).sum with hv
  have ht : t = hostTrigger (setDigest v (forEach l makeActive s)) := by
    show hostTrigger (setDigest (s.store.digest + s.codeSum l) (forEach l makeActive s)) = _
    rw [codeSum_eq]
  have hActives := makeActives_eq l s
  refine ⟨fun k => ?_, ?_, ?_, ?_, ?_⟩
  · rw [ht, record_hostTrigger, record_setDigest, record_makeActives]
  · rw [ht, hostTrigger_eq, setDigest_eq, hActives]
  · have hPlanner : (setDigest v (forEach l makeActive s)).planner = if s.planner.phase = .idle then s.planner
        else { s.planner with late := l.foldl setInsert s.planner.late } := by rw [setDigest_eq, hActives]
    rw [ht, ← hPlanner]
    exact hostTriggered_hostTrigger (by rw [setDigest_eq, hActives])
  · have hLanes := lanesButDigest_setDigest v (forEach l makeActive s)
    rw [ht]
    exact hLanes.congr (fun d => by rw [hActives]; cases d <;> rfl) (by rw [hActives]) (by rw [hActives])
      (fun d => lane_hostTrigger _ d) (by rw [hostTrigger_eq]) (by rw [hostTrigger_eq])
  · rw [ht, hostTrigger_eq, setDigest_eq, hActives]
    exact ⟨rfl, rfl, rfl, rfl, rfl, rfl, rfl⟩

/-- Settles O34: the checks pass, and the record is made Active. -/
theorem activateAddsRecordToTable : Obligations.ActivateAddsRecordToTable :=
    fun s tag h hAccepts hh hStaged hFits hPresent hApart => by
  have hCheck : (clearHolder s).activateCheck h = .pass := activateCheck_pass_iff.2 ⟨hStaged, ⟨hFits, hPresent⟩,
    slotClashWith_eq_none.2 fun k hk hActive => (hApart k hk hActive).1,
    portClashWith_eq_none.2 fun k hk hActive => (hApart k hk hActive).2⟩
  have hCarry : carryActivate h (clearHolder s) =
      { state := activateAll [h] (clearHolder s), status := .ok, data := (activateAll [h] (clearHolder s)).blockBytes h } := by
    rw [carryActivate, badHandle_of_lt hh, if_neg (by simp), hCheck]
    exact withBlock_none _ _ _
  obtain ⟨hRecord, hStore, hTriggered, hLanes, hFrame⟩ := activateAll_effects [h] (clearHolder s)
  have hExec := exec_carried (carry := carryActivate h) (i := .activateRecord tag h) (tag := tag) (fun _ => rfl) hAccepts hCarry
    (port_activateAll _ _)
  generalize activateAll [h] (clearHolder s) = t at *
  refine ⟨_, hExec, (hRecord h).trans (if_pos (by simp)), fun k hk => (hRecord k).trans (if_neg (by simpa using hk)),
    hStore.trans ?_, hTriggered, hLanes, hFrame, rfl⟩
  rw [List.map_singleton, List.sum_singleton]
  rfl

end Sys2Proof.Machine
end

section
/-!
PROOFS. An accepted Amend (O35): the fields and the code, the digest, the exchange that it restarts, and the trigger.
-/

namespace Sys2Proof.Machine

variable {s t u w : State}

/-! ### The restart of an exchange -/

/-- What the restart of the exchange of one record may do: it writes that exchange, marks that record, and leaves every field of
a lane but the queue (R139, R152). -/
structure RestartOf (h : Nat) (x : Exchange) (queue : Side → List PathConfirm) (w v : State) : Prop where
  mine : v.record h = { w.record h with exchange := x }
  others : OtherRecords h w v
  changed : ∀ k, k = h ∨ k ∈ v.store.changed ↔ k = h ∨ k ∈ w.store.changed
  lanes : ∀ e, v.lane e = { w.lane e with queue := queue e }
  frame : v = { w with
    store := { w.store with records := v.store.records, changed := v.store.changed },
    laneEast := v.laneEast, laneWest := v.laneWest, attn := v.attn }
  disagreement : causeIn v.attn.pending .tableDisagreement = causeIn w.attn.pending .tableDisagreement

theorem restartOf_same (h : Nat) (w : State) : RestartOf h (w.record h).exchange (fun e => (w.lane e).queue) w w :=
  ⟨rfl, fun _ _ => rfl, fun _ => Iff.rfl, fun _ => rfl, rfl, rfl⟩

theorem causeIn_markChanged_of_ne (h : Nat) (s : State) {c : Cause} (hc : c ≠ .recordsChanged) :
    causeIn (markChanged h s).attn.pending c = causeIn s.attn.pending c := by
  rw [markChanged, causeIn_raiseIf]
  simp [hc]

theorem causeIn_setExchange_of_ne (h : Nat) (x : Exchange) (s : State) {c : Cause} (hc : c ≠ .recordsChanged) :
    causeIn (setExchange h x s).attn.pending c = causeIn s.attn.pending c := by
  rw [setExchange_eq]
  split
  · rfl
  · rw [causeIn_markChanged_of_ne _ _ hc]
    rfl

theorem restartOf_setExchange (h : Nat) (x : Exchange) (w : State) :
    RestartOf h x (fun e => (w.lane e).queue) w (setExchange h x w) where
  mine := by rw [record_setExchange, if_pos rfl]
  others k hk := by rw [record_setExchange, if_neg hk]
  changed k := by
    rw [mem_changed_setExchange]
    tauto
  lanes e := by rw [lane_setExchange]
  frame := by
    rw [setExchange_frame]
  disagreement := causeIn_setExchange_of_ne _ _ _ (by decide)

/-- A confirm that is given to a lane joins its queue, and writes nothing else. -/
theorem RestartOf.give {h : Nat} {x : Exchange} (d : Side) (q : PathConfirm) (w : State) :
    RestartOf h x (fun e => ((giveConfirm d q w).lane e).queue) w (setExchange h x (giveConfirm d q w)) where
  mine := by rw [record_setExchange, if_pos rfl, record_giveConfirm]
  others k hk := by rw [record_setExchange, if_neg hk, record_giveConfirm]
  changed k := by
    rw [mem_changed_setExchange, giveConfirm_eq, State.setLane_store]
    tauto
  lanes e := by
    rw [lane_setExchange, giveConfirm_eq]
    obtain rfl | rfl := Side.eq_or_eq_other e d
    · rw [State.lane_setLane]
    · rw [State.lane_setLane_other]
  frame := by
    rw [setExchange_frame, giveConfirm_eq]
    cases d <;> rfl
  disagreement := by
    rw [causeIn_setExchange_of_ne _ _ _ (by decide), giveConfirm_eq, State.setLane_attn]

theorem restartSending_of_not {h : Nat} (hNot : ¬ ((w.endRole h).isSome = true ∧
    ((w.record h).exchange.state = .awaiting ∨ (w.record h).exchange.state = .unconfirmed))) : restartSending h w = w := by
  unfold restartSending
  dsimp only
  split
  · rfl
  next r hRole => exact if_neg fun hState => hNot ⟨by simp [hRole], hState⟩

theorem restartSending_configuring {h : Nat} {r : Role} (hRole : w.endRole h = some r)
    (hState : (w.record h).exchange.state = .awaiting ∨ (w.record h).exchange.state = .unconfirmed)
    (hConf : w.node.state = .configuring) : restartSending h w =
      setExchange h { (w.record h).exchange with state := .awaiting, attempts := 0, sending := true } w := by
  unfold restartSending
  dsimp only
  rw [hRole]
  exact (if_pos hState).trans (if_pos hConf)

theorem restartSending_elsewhere {h : Nat} {r : Role} (hRole : w.endRole h = some r)
    (hState : (w.record h).exchange.state = .awaiting ∨ (w.record h).exchange.state = .unconfirmed)
    (hConf : w.node.state ≠ .configuring) : restartSending h w =
      setExchange h { (w.record h).exchange with
        state := .awaiting, attempts := 1, sending := true, timer := some (w.node.confirmInterval * 1000) }
        (sendConfirm h r (w.record h).exchange.heardTheirs w) := by
  unfold restartSending
  dsimp only
  rw [hRole]
  exact (if_pos hState).trans (if_neg hConf)

/-! ### The fields, the code and the digest -/

/-- The state after an Amend has written the fields, the code and the digest (R14, R18, R19). -/
structure AmendedFields (h : Nat) (p : Planning) (port : Option Byte) (s w : State) : Prop where
  mine : w.record h = { s.record h with plan := p, port := port, code := recordCode h p }
  others : OtherRecords h s w
  digest : w.store.digest = s.store.digest - (s.record h).code + recordCode h p
  store : w.store = { s.store with records := w.store.records, digest := w.store.digest }
  lanes : LanesButDigest false s w
  planner : w.planner = s.planner
  frame : RecordFrame s w

theorem lanesButDigest_refl (s : State) : LanesButDigest false s s :=
  ⟨fun _ => rfl, fun _ _ => rfl, fun h => absurd rfl h, fun _ _ => rfl, by simp⟩

/-- An Amend that leaves the planning fields writes the local port alone (R14). -/
theorem amendedFields_port {h : Nat} (port : Option Byte) (hCode : (s.record h).code = recordCode h (s.record h).plan) :
    AmendedFields h (s.record h).plan port s (amendPort h port s) where
  mine := by
    rw [amendPort, record_setRec, if_pos rfl, ← hCode]
  others k hk := by rw [amendPort, record_setRec, if_neg hk]
  digest := by
    rw [← hCode, sub_add_cancel]
    rfl
  store := rfl
  lanes := (lanesButDigest_refl s).congr (fun _ => rfl) rfl rfl (fun d => by cases d <;> rfl) rfl rfl
  planner := rfl
  frame := ⟨rfl, rfl, rfl, rfl, rfl, rfl, rfl⟩

/-- The state that an Amend of the planning fields makes before the exchange restarts (R14, R18, R19). -/
def amendCode (h : Nat) (p : Planning) (port : Option Byte) (s : State) : State :=
  setDigest (s.store.digest - (s.record h).code + recordCode h p)
    ((amendPort h port s).setRec h { s.record h with plan := p, port := port, code := recordCode h p })

theorem amendedFields_code (h : Nat) (p : Planning) (port : Option Byte) (s : State) :
    AmendedFields h p port s (amendCode h p port s) where
  mine := by rw [amendCode, record_setDigest, record_setRec, if_pos rfl]
  others k hk := by rw [amendCode, record_setDigest, record_setRec, if_neg hk, amendPort, record_setRec, if_neg hk]
  digest := by rw [amendCode, setDigest_eq]
  store := by
    rw [amendCode, setDigest_eq]
    rfl
  lanes := by
    have hLanes := lanesButDigest_setDigest (s.store.digest - (s.record h).code + recordCode h p)
      ((amendPort h port s).setRec h { s.record h with plan := p, port := port, code := recordCode h p })
    exact hLanes.congr (fun d => by cases d <;> rfl) rfl rfl (fun _ => rfl) rfl rfl
  planner := by
    rw [amendCode, setDigest_eq]
    rfl
  frame := by
    rw [amendCode, setDigest_eq]
    exact ⟨rfl, rfl, rfl, rfl, rfl, rfl, rfl⟩

theorem amendPlanning_of_ne {h : Nat} {p : Planning} (port : Option Byte) (hNew : p ≠ (s.record h).plan) :
    amendPlanning h p (amendPort h port s) = restartSending h (amendCode h p port s) := by
  have hRecord : (amendPort h port s).record h = { s.record h with port := port } := by
    rw [amendPort, record_setRec, if_pos rfl]
  rw [amendPlanning, hRecord]
  exact if_neg hNew

/-- What the fields, the restart and the trigger of an Amend make together. -/
theorem AmendedFields.finish {h : Nat} {p : Planning} {port : Option Byte} {x : Exchange} {queue : Side → List PathConfirm}
    {v : State} (hw : AmendedFields h p port s w) (hv : RestartOf h x queue w v) (ht : t = hostTrigger (markChanged h v)) :
    t.record h = { s.record h with plan := p, port := port, code := recordCode h p, exchange := x } ∧ OtherRecords h s t ∧
      t.store.digest = s.store.digest - (s.record h).code + recordCode h p ∧
      (∀ k, k ∈ t.store.changed ↔ k = h ∨ k ∈ s.store.changed) ∧ t.store.labelIndex = s.store.labelIndex ∧
      HostTriggered s.planner s t ∧ LanesButDigest true s t ∧ RecordFrame s t ∧ ∀ d, (t.lane d).queue = queue d := by
  have hFrame := hostTrigger_eq (markChanged h v)
  have hRecord : ∀ k, t.record k = v.record k := fun k => by rw [ht, record_hostTrigger, record_markChanged]
  have hLane : ∀ d, t.lane d = { w.lane d with queue := queue d } := fun d => by
    rw [← hv.lanes, ht, lane_hostTrigger, markChanged_eq]
    cases d <;> rfl
  have hStore : t.store = { v.store with changed := setInsert v.store.changed h } := by
    rw [ht, hFrame, markChanged_eq]
  have hvStore : v.store = { w.store with records := v.store.records, changed := v.store.changed } := by rw [hv.frame]
  have hDigest : t.store.digest = w.store.digest := by rw [hStore, hvStore]
  have hNode : (markChanged h v).node = s.node := by rw [markChanged_eq, hv.frame]; exact hw.frame.1
  refine ⟨?_, fun k hk => ?_, ?_, fun k => ?_, ?_, ?_, ?_, ?_, fun d => by rw [hLane]⟩
  · rw [hRecord, hv.mine, hw.mine]
  · rw [hRecord, hv.others k hk, hw.others k hk]
  · rw [hDigest, hw.digest]
  · rw [hStore, mem_setInsert, hv.changed, hw.store]
  · rw [hStore, hvStore, hw.store]
  · have hPlanner : (markChanged h v).planner = s.planner := by rw [markChanged_eq, hv.frame]; exact hw.planner
    rw [← hPlanner, ht]
    exact hostTriggered_hostTrigger (by rw [hNode])
  · obtain ⟨hwLane, hwSame, hwMoved, hwQuiet, hwCause⟩ := hw.lanes
    have hDiffers : ∀ d, (t.lane d).differs = (w.lane d).differs := fun d => by rw [hLane]
    have hCause : causeIn t.attn.pending .tableDisagreement = causeIn w.attn.pending .tableDisagreement := by
      rw [← hv.disagreement, ← causeIn_markChanged_of_ne h v (c := .tableDisagreement) (by decide), ht, hFrame]
    unfold LanesButDigest DigestCompared
    simp only [hDiffers, hDigest, hCause]
    refine ⟨fun d => ?_, hwSame, hwMoved, hwQuiet, hwCause⟩
    rw [hLane, hwLane]
    rfl
  · obtain ⟨hwNode, hEast, hWest, hMap, hFabric, hStream, hPending⟩ := hw.frame
    rw [ht, hFrame, markChanged_eq, hv.frame]
    exact ⟨hwNode, hEast, hWest, hMap, hFabric, hStream, hPending⟩

/-- An amended record restarts its exchange: a planning field changed, this node is one of its ends, and the exchange is Awaiting
or Unconfirmed (R152). -/
def State.amendRestarts (s : State) (h : Nat) (p : Planning) : Prop :=
  p ≠ (s.record h).plan ∧ (s.endRole h).isSome = true ∧
    ((s.record h).exchange.state = .awaiting ∨ (s.record h).exchange.state = .unconfirmed)

/-- The Path Confirm that a restart sends, with the new record check (R141, R152). -/
def State.restartConfirm (s : State) (h : Nat) (p : Planning) (r : Role) : PathConfirm :=
  { handle := h, check := recordCheck (recordCode h p), sender := s.node.own, target := (s.record h).plan.otherEnd r,
    heard := (s.record h).exchange.heardTheirs, hops := BitVec.ofNat 8 s.node.ringSize }

/-- The exchange and the queues after an Amend (R152). -/
structure AmendRestart (h : Nat) (p : Planning) (s : State) (x : Exchange) (queue : Side → List PathConfirm) : Prop where
  stands : ¬ s.amendRestarts h p → x = (s.record h).exchange
  waits : s.amendRestarts h p → s.node.state = .configuring →
    x = { (s.record h).exchange with state := .awaiting, attempts := 0, sending := true }
  sends : s.amendRestarts h p → s.node.state ≠ .configuring → x = { (s.record h).exchange with
    state := .awaiting, attempts := 1, sending := true, timer := some (s.node.confirmInterval * 1000) }
  silent : ¬ s.amendRestarts h p ∨ s.node.state = .configuring → ∀ d, queue d = (s.lane d).queue
  queued : ∀ r, s.amendRestarts h p → s.node.state ≠ .configuring → s.endRole h = some r →
    queue ((s.record h).plan.detourSide r) =
        (if (s.lane ((s.record h).plan.detourSide r)).adjacency = .up ∧
            (s.lane ((s.record h).plan.detourSide r)).queue.length < 16 then
          (s.lane ((s.record h).plan.detourSide r)).queue ++ [s.restartConfirm h p r]
        else (s.lane ((s.record h).plan.detourSide r)).queue) ∧
      queue ((s.record h).plan.detourSide r).other = (s.lane ((s.record h).plan.detourSide r).other).queue

theorem amendRestart_of_not {h : Nat} {p : Planning} (hNot : ¬ s.amendRestarts h p) :
    AmendRestart h p s (s.record h).exchange fun e => (s.lane e).queue :=
  ⟨fun _ => rfl, fun hIs => absurd hIs hNot, fun hIs => absurd hIs hNot, fun _ _ => rfl, fun _ hIs => absurd hIs hNot⟩

/-- An Amend writes its fields, and then restarts the exchange where R152 says. -/
theorem amendPlanning_restarts {h : Nat} {p : Planning} {port : Option Byte}
    (hCode : (s.record h).code = recordCode h (s.record h).plan)
    (hPlan : p = { (s.record h).plan with prio := p.prio, ceiling := p.ceiling, lockout := p.lockout }) :
    ∃ w x queue, AmendedFields h p port s w ∧ RestartOf h x queue w (amendPlanning h p (amendPort h port s)) ∧
      AmendRestart h p s x queue := by
  by_cases hSame : p = (s.record h).plan
  · have hPort : amendPlanning h p (amendPort h port s) = amendPort h port s := if_pos (by
      rw [amendPort, record_setRec, if_pos rfl]; exact hSame)
    have hQueue : (fun e => ((amendPort h port s).lane e).queue) = fun e => (s.lane e).queue := by
      funext e; cases e <;> rfl
    have hExchange : ((amendPort h port s).record h).exchange = (s.record h).exchange := by
      rw [amendPort, record_setRec, if_pos rfl]
    rw [hPort]
    refine ⟨amendPort h port s, _, _, by rw [hSame]; exact amendedFields_port port hCode, ?_, amendRestart_of_not fun hNot => hNot.1 hSame⟩
    rw [← hExchange, ← hQueue]
    exact restartOf_same h (amendPort h port s)
  · have hw := amendedFields_code h p port s
    rw [amendPlanning_of_ne port hSame]
    generalize amendCode h p port s = w at *
    obtain ⟨hLanes, -⟩ := hw.lanes
    have hQueue : ∀ e, (w.lane e).queue = (s.lane e).queue := fun e => by rw [hLanes]; rfl
    have hAdj : ∀ e, (w.lane e).adjacency = (s.lane e).adjacency := fun e => by rw [hLanes]
    have hNode : w.node = s.node := hw.frame.1
    have hExchange : (w.record h).exchange = (s.record h).exchange := by rw [hw.mine]
    have hRole : w.endRole h = s.endRole h := by
      rw [State.endRole, State.endRole, hw.mine, hNode]
      dsimp only
      rw [hPlan]
      rfl
    by_cases hRestarts : s.amendRestarts h p
    · obtain ⟨-, hEnd, hState⟩ := id hRestarts
      obtain ⟨r, hr⟩ := Option.isSome_iff_exists.1 hEnd
      have hState' : (w.record h).exchange.state = .awaiting ∨ (w.record h).exchange.state = .unconfirmed := by rwa [hExchange]
      by_cases hConf : s.node.state = .configuring
      · rw [restartSending_configuring (hRole.trans hr) hState' (by rw [hNode]; exact hConf), hExchange]
        exact ⟨w, _, _, hw, restartOf_setExchange _ _ _, fun hNot => absurd hRestarts hNot, fun _ _ => rfl,
          fun _ hNot => absurd hConf hNot, fun _ => hQueue, fun _ _ hNot => absurd hConf hNot⟩
      · rw [restartSending_elsewhere (hRole.trans hr) hState' (by rw [hNode]; exact hConf), hExchange, hNode, sendConfirm]
        refine ⟨w, _, _, hw, RestartOf.give _ _ _, fun hNot => absurd hRestarts hNot, fun _ hIs => absurd hIs hConf,
          fun _ _ => rfl, fun hNot => hNot.elim (fun hNot => absurd hRestarts hNot) fun hIs => absurd hIs hConf,
          fun r' _ _ hr' => ?_⟩
        obtain rfl : r' = r := Option.some.inj (hr'.symm.trans hr)
        have hSide : (w.record h).plan.detourSide r' = (s.record h).plan.detourSide r' := by
          rw [hw.mine]
          dsimp only
          rw [hPlan]
          rfl
        have hConfirm : w.confirmFor h r' (s.record h).exchange.heardTheirs = s.restartConfirm h p r' := by
          rw [State.confirmFor, State.restartConfirm, hw.mine, hNode]
          dsimp only
          rw [show p.otherEnd r' = (s.record h).plan.otherEnd r' by rw [hPlan]; rfl]
        rw [hSide, hConfirm, giveConfirm_eq]
        exact ⟨by rw [State.lane_setLane, hQueue, hAdj], by rw [State.lane_setLane_other, hQueue]⟩
    · rw [restartSending_of_not fun hIs => hRestarts ⟨hSame, by rw [← hRole]; exact hIs.1, by rw [← hExchange]; exact hIs.2⟩]
      refine ⟨w, _, _, hw, ?_, amendRestart_of_not hRestarts⟩
      have hSameRest := restartOf_same h w
      rwa [hExchange, show (fun e => (w.lane e).queue) = fun e => (s.lane e).queue from funext hQueue] at hSameRest

/-- Settles O35: the checks pass; an Amend without a change has no effect, and another writes the fields and restarts the
exchange. -/
theorem amendReplacesFieldsAndCode : Obligations.AmendReplacesFieldsAndCode :=
    fun s tag h i p hAccepts hh hActive hCode hHandle hPlan hFits hApart => by
  have hCheck : (clearHolder s).amendCheck h i = .pass :=
    (amendCheck_pass_iff hPlan).2 ⟨hActive, hHandle, hFits, portHeld_eq_false.2 hApart⟩
  have hCarry : carryAmend h i (clearHolder s) =
      { state := amendFields h p (imagePort i) (clearHolder s), status := .ok,
        data := (amendFields h p (imagePort i) (clearHolder s)).blockBytes h } := by
    rw [carryAmend, badHandle_of_lt hh, if_neg (by simp), hCheck, hPlan]
    exact withBlock_none _ _ _
  refine ⟨fun hSame hSamePort => ?_, fun hChanges => ?_⟩
  · refine exec_answered (carry := carryAmend h i) (fun _ => rfl) hAccepts ?_
    have hNone : amendFields h p (imagePort i) (clearHolder s) = clearHolder s := if_pos ⟨hSame, hSamePort⟩
    rw [hCarry, hNone]
    rfl
  · have hExec := exec_carried (carry := carryAmend h i) (i := .amendRecord tag h i) (tag := tag) (fun _ => rfl) hAccepts hCarry
      (port_amendFields _ _ _ _)
    obtain ⟨w, x, queue, hFields, hRestart, hResult⟩ := amendPlanning_restarts (s := clearHolder s) (h := h) (p := p)
      (port := imagePort i) hCode (plan_of_amendFits hFits)
    have hAmended : amendFields h p (imagePort i) (clearHolder s) =
        hostTrigger (markChanged h (amendPlanning h p (amendPort h (imagePort i) (clearHolder s)))) := if_neg hChanges
    obtain ⟨hMine, hOthers, hDigest, hChanged, hIndex, hTriggered, hLanes, hFrame, hQueue⟩ := hFields.finish hRestart hAmended
    generalize amendFields h p (imagePort i) (clearHolder s) = t at *
    have hExchange : (t.record h).exchange = x := by rw [hMine]
    refine ⟨_, hExec, ?_, fun hNot => ?_, fun hIs hConf => ?_, fun hIs hConf => ?_, hOthers, hDigest, hChanged, hIndex, hTriggered,
      hLanes, hFrame, fun hSilent d => (hQueue d).trans (hResult.silent hSilent d), fun r hIs hConf hRole => ?_, rfl⟩
    · show t.record h = { s.record h with
        plan := p, port := imagePort i, code := recordCode h p, exchange := (t.record h).exchange }
      rw [hExchange, hMine]
      rfl
    · exact hExchange.trans (hResult.stands hNot)
    · exact hExchange.trans (hResult.waits hIs hConf)
    · exact hExchange.trans (hResult.sends hIs hConf)
    · obtain ⟨hThis, hThat⟩ := hResult.queued r hIs hConf hRole
      exact ⟨(hQueue _).trans hThis, (hQueue _).trans hThat⟩

end Sys2Proof.Machine
end

section
/-!
PROOFS. A Stream Chunk (O38). Its images are taken one by one: what one image does is said once (`imageTaken`), and a Chunk is
its first image and then the rest.
-/

namespace Sys2Proof.Machine

variable {s t u : State}

/-! ### One image -/

/-- The state after an image that passes: staged at the next handle, with one image less to come (R22). -/
def imageTaken (i : StageImage) (s : State) : State :=
  (stageImage s.store.stream.next i s).setStream
    { (stageImage s.store.stream.next i s).store.stream with
      remaining := (stageImage s.store.stream.next i s).store.stream.remaining - 1 }

theorem imageTaken_of_plan {i : StageImage} {p : Planning} (hPlan : imagePlanning i = some p) (s : State) :
    imageTaken i s = (stageFields s.store.stream.next p (imagePort i) s).setStream
      { s.store.stream with remaining := s.store.stream.remaining - 1 } := by
  have hStage : stageImage s.store.stream.next i s = stageFields s.store.stream.next p (imagePort i) s := by
    rw [stageImage, hPlan]
  have hStream : (stageFields s.store.stream.next p (imagePort i) s).store.stream = s.store.stream := by rw [stageFields_eq]
  rw [imageTaken, hStage, hStream]

/-- Taking an image writes the records, the Label Index and remaining. -/
theorem imageTaken_eq (i : StageImage) (s : State) : imageTaken i s = { s with store := { s.store with
    records := (imageTaken i s).store.records, labelIndex := (imageTaken i s).store.labelIndex,
    stream := { s.store.stream with remaining := s.store.stream.remaining - 1 } } } := by
  cases hPlan : imagePlanning i with
  | none =>
    have hStage : stageImage s.store.stream.next i s = s := by rw [stageImage, hPlan]
    rw [imageTaken, hStage]
    rfl
  | some p =>
    rw [imageTaken_of_plan hPlan, stageFields_eq]
    rfl

theorem stream_imageTaken (i : StageImage) (s : State) :
    (imageTaken i s).store.stream = { s.store.stream with remaining := s.store.stream.remaining - 1 } := by
  rw [imageTaken_eq]

theorem port_imageTaken (i : StageImage) (s : State) : (imageTaken i s).port = s.port := by rw [imageTaken_eq]

theorem stageCheck_of_busy {h : Nat} (i : StageImage)
    (hBusy : (s.record h).lifecycle = .active ∨ (s.record h).lifecycle = .retiring) :
    s.stageCheck h i = .fail .wrongState none := if_pos hBusy

theorem stageCheck_of_noPlan {h : Nat} {i : StageImage}
    (hFree : ¬ ((s.record h).lifecycle = .active ∨ (s.record h).lifecycle = .retiring)) (hPlan : imagePlanning i = none) :
    s.stageCheck h i = .fail .invalidField none := by
  rw [State.stageCheck, if_neg hFree, hPlan]

theorem stageCheck_of_clash {h : Nat} {i : StageImage} {p : Planning}
    (hFree : ¬ ((s.record h).lifecycle = .active ∨ (s.record h).lifecycle = .retiring)) (hPlan : imagePlanning i = some p)
    (hClash : ∃ k, k ≠ h ∧ s.inUse k ∧ (s.record k).plan.circuit = p.circuit) :
    ∃ k, s.stageCheck h i = .fail .labelClash (some k) := by
  obtain ⟨j, hj, hUse, hSame⟩ := hClash
  cases hLabel : s.labelHolder h p.circuit with
  | none => exact absurd hSame (labelHolder_eq_none.1 hLabel j hj hUse)
  | some k => exact ⟨k, by simp only [State.stageCheck, if_neg hFree, hPlan, hLabel]⟩

/-! ### The images of a Chunk -/

theorem stageChunk_ended (l : List StageImage) (n : Nat) (hEnded : s.store.stream.remaining = 0) :
    stageChunk l n s = { state := s, accepted := n, halted := none } := by
  cases l with
  | nil => rfl
  | cons i l => exact if_pos hEnded

theorem stageChunk_failed {i : StageImage} {l : List StageImage} {n : Nat} {status : Status} {k : Option Nat}
    (hMore : s.store.stream.remaining ≠ 0) (hCheck : s.stageCheck s.store.stream.next i = .fail status k) :
    stageChunk (i :: l) n s =
      { state := haltStream s.store.stream.next (haltReasonOf status) none s, accepted := n, halted := some status } := by
  rw [stageChunk, if_neg hMore]
  simp only [hCheck]

theorem stageChunk_passed {i : StageImage} {l : List StageImage} {n : Nat} (hMore : s.store.stream.remaining ≠ 0)
    (hCheck : s.stageCheck s.store.stream.next i = .pass) : stageChunk (i :: l) n s = stageChunk l (n + 1) (imageTaken i s) := by
  rw [stageChunk, if_neg hMore]
  simp only [hCheck]
  rfl

/-- The number accepted counts on from where it starts. -/
theorem stageChunk_counts (l : List StageImage) (n k : Nat) (s : State) :
    stageChunk l (n + k) s = { stageChunk l n s with accepted := (stageChunk l n s).accepted + k } := by
  induction l generalizing n s with
  | nil => rfl
  | cons i l ih =>
    by_cases hMore : s.store.stream.remaining = 0
    · rw [stageChunk_ended _ _ hMore, stageChunk_ended _ _ hMore]
    · cases hCheck : s.stageCheck s.store.stream.next i with
      | fail status h => rw [stageChunk_failed hMore hCheck, stageChunk_failed hMore hCheck]
      | pass => rw [stageChunk_passed hMore hCheck, stageChunk_passed hMore hCheck, Nat.add_right_comm, ih]

theorem accepted_stageChunk_le (l : List StageImage) (n : Nat) (s : State) : (stageChunk l n s).accepted ≤ n + l.length := by
  induction l generalizing n s with
  | nil => exact le_rfl
  | cons i l ih =>
    by_cases hMore : s.store.stream.remaining = 0
    · rw [stageChunk_ended _ _ hMore]
      exact Nat.le_add_right _ _
    · cases hCheck : s.stageCheck s.store.stream.next i with
      | fail status h =>
        rw [stageChunk_failed hMore hCheck]
        exact Nat.le_add_right _ _
      | pass =>
        rw [stageChunk_passed hMore hCheck, List.length_cons]
        exact (ih _ _).trans (by omega)

/-! ### The Chunk as a request -/

/-- What a Chunk that is not refused makes of the staging of its images: it halts, it finishes the Stream, or more is to
come (R22, R23). -/
def chunkCarried (r : ChunkResult) : Carried :=
  match r.halted with
  | some status => withChunk status r.accepted r.state
  | none =>
    if r.state.store.stream.remaining = 0 then withChunk (finishStream r.state).2 r.accepted (finishStream r.state).1
    else withChunk .ok r.accepted r.state

theorem carryStreamChunk_opened {images : List StageImage} (hOpen : s.store.stream.state = .opened)
    (hLength : 1 ≤ images.length ∧ images.length ≤ 8) : carryStreamChunk images s = chunkCarried (stageChunk images 0 s) := by
  rw [carryStreamChunk, if_neg (not_not.2 hOpen), if_neg (by omega)]
  rfl

theorem chunkCarried_halted {status : Status} {n : Nat} :
    chunkCarried { state := s, accepted := n, halted := some status } = withChunk status n s := rfl

theorem chunkCarried_ended {n : Nat} (hEnded : s.store.stream.remaining = 0) :
    chunkCarried { state := s, accepted := n, halted := none } = withChunk (finishStream s).2 n (finishStream s).1 := if_pos hEnded

theorem chunkCarried_more {n : Nat} (hMore : s.store.stream.remaining ≠ 0) :
    chunkCarried { state := s, accepted := n, halted := none } = withChunk .ok n s := if_neg hMore

/-- The response gives the Stream as it then stands, and the number accepted. -/
theorem chunkCarried_eq (r : ChunkResult) :
    chunkCarried r = withChunk (chunkCarried r).status r.accepted (chunkCarried r).state := by
  unfold chunkCarried
  split
  · rfl
  · split <;> rfl

/-- The number accepted goes into the response alone. -/
theorem chunkCarried_counts (r : ChunkResult) (n : Nat) :
    chunkCarried { r with accepted := n } = withChunk (chunkCarried r).status n (chunkCarried r).state := by
  unfold chunkCarried
  dsimp only
  split
  · rfl
  · split <;> rfl

theorem finishStream_plain (h : s.store.stream.activate = false) : finishStream s = (completeStream s, .ok) :=
  if_neg (by simp [h])

theorem port_chunkCarried (r : ChunkResult) : (chunkCarried r).state.port = r.state.port := by
  unfold chunkCarried
  split
  · rfl
  · split
    · exact port_finishStream _
    · rfl

/-- A Chunk that is not refused, as a request that is carried out. -/
theorem exec_streamChunk (tag : Byte) {images : List StageImage} (hAccepts : Accepts s)
    (hOpen : s.store.stream.state = .opened) (hLength : 1 ≤ images.length ∧ images.length ≤ 8) :
    exec (.streamChunk tag images) s = .next (State.withRequest
      { (chunkCarried (stageChunk images 0 (clearHolder s))).state with port := s.port } (.streamChunk tag images) tag
      (chunkCarried (stageChunk images 0 (clearHolder s))).status (chunkCarried (stageChunk images 0 (clearHolder s))).data) :=
  exec_carried (carry := carryStreamChunk images) (fun _ => rfl) hAccepts
    (carryStreamChunk_opened (s := clearHolder s) hOpen hLength) ((port_chunkCarried _).trans (port_stageChunk _ _ _))

/-- What the checks of an image find, where it passes (R9). -/
theorem stageCheck_passes_iff {h : Nat} {i : StageImage} :
    s.stageCheck h i = .pass ↔ ¬ ((s.record h).lifecycle = .active ∨ (s.record h).lifecycle = .retiring) ∧
      ∃ p, imagePlanning i = some p ∧ ∀ k, k ≠ h → s.inUse k → (s.record k).plan.circuit ≠ p.circuit := by
  have hLife : ((s.record h).lifecycle = .free ∨ (s.record h).lifecycle = .staged) ↔
      ¬ ((s.record h).lifecycle = .active ∨ (s.record h).lifecycle = .retiring) := by cases (s.record h).lifecycle <;> simp
  rw [stageCheck_pass_iff, hLife]
  simp only [labelHolder_eq_none]

/-- What an image that passes does to the records and the Label Index (R9, R10, R17). -/
theorem imageTaken_effects {i : StageImage} {p : Planning} (hs : LabelsSound s) (hPlan : imagePlanning i = some p)
    (hApart : ∀ k, k ≠ s.store.stream.next → s.inUse k → (s.record k).plan.circuit ≠ p.circuit) :
    let h := s.store.stream.next
    let t := imageTaken i s
    t.record h = { s.record h with lifecycle := .staged, plan := p, port := imagePort i, code := recordCode h p } ∧
      OtherRecords h s t ∧ (∀ b, h ∈ t.bucket b ↔ b = bucketOf p.circuit) ∧
      ∀ b k, k ≠ h → (k ∈ t.bucket b ↔ k ∈ s.bucket b) := by
  intro h t
  have hTaken : t = (stageFields h p (imagePort i) s).setStream _ := imageTaken_of_plan hPlan s
  rw [hTaken]
  exact stageFields_effects (imagePort i) hs hApart

/-- A Chunk whose first image fails halts the Stream at the next handle, which is left as it was (R22). -/
theorem exec_streamChunk_halts {tag : Byte} {i : StageImage} {status : Status} {k : Option Nat} (hAccepts : Accepts s)
    (hOpen : s.store.stream.state = .opened) (hMore : s.store.stream.remaining ≠ 0)
    (hCheck : s.stageCheck s.store.stream.next i = .fail status k) :
    let halted : Stream := { s.store.stream with
      state := .halted,
      halt := some { handle := s.store.stream.next, reason := haltReasonOf status, status := none } }
    exec (.streamChunk tag [i]) s = .next (State.withRequest
      { s with store := { s.store with stream := halted }, attn := s.attn.raise .streamFinished }
      (.streamChunk tag [i]) tag status (halted.bytes ++ be2 0)) := by
  have hFailed : stageChunk [i] 0 (clearHolder s) = _ :=
    stageChunk_failed (s := clearHolder s) (l := []) (n := 0) hMore hCheck
  have hRun := exec_streamChunk tag (images := [i]) hAccepts hOpen (by simp)
  rw [hFailed] at hRun
  exact hRun

/-- A Chunk of one image that passes, where the Stream does not activate or more images are to come (R22, R23). -/
theorem exec_streamChunk_taken {tag : Byte} {i : StageImage} (hAccepts : Accepts s)
    (hOpen : s.store.stream.state = .opened) (hMore : s.store.stream.remaining ≠ 0)
    (hCheck : s.stageCheck s.store.stream.next i = .pass)
    (hPlain : s.store.stream.activate = false ∨ s.store.stream.remaining ≠ 1) :
    let c := imageTaken i (clearHolder s)
    let t := if c.store.stream.remaining = 0 then completeStream c else c
    exec (.streamChunk tag [i]) s = .next (State.withRequest { t with port := s.port }
      (.streamChunk tag [i]) tag .ok (t.store.stream.bytes ++ be2 1)) := by
  intro c t
  have hStream : c.store.stream = { s.store.stream with remaining := s.store.stream.remaining - 1 } := stream_imageTaken i _
  have hChunk : stageChunk [i] 0 (clearHolder s) = { state := c, accepted := 1, halted := none } :=
    stageChunk_passed (s := clearHolder s) hMore hCheck
  have hCarried : chunkCarried (stageChunk [i] 0 (clearHolder s)) = withChunk .ok 1 t := by
    rw [hChunk]
    by_cases hEnded : c.store.stream.remaining = 0
    · have hNot : c.store.stream.activate = false := by
        rw [hStream] at hEnded ⊢
        dsimp only at hEnded ⊢
        exact hPlain.resolve_right (by omega)
      rw [chunkCarried_ended hEnded, finishStream_plain hNot]
      simp only [t, if_pos hEnded]
    · rw [chunkCarried_more hEnded]
      simp only [t, if_neg hEnded]
  have hRun := exec_streamChunk tag (images := [i]) hAccepts hOpen (by simp)
  rw [hCarried] at hRun
  exact hRun

theorem completeStream_eq (s : State) : completeStream s = { s with
    store := { s.store with stream := { s.store.stream with state := .complete } },
    attn := s.attn.raise .streamFinished } := rfl

/-- The images after one that fails, or after the last of the run, change nothing but the request in hand (R22). -/
theorem exec_streamChunk_same {tag : Byte} {i : StageImage} {rest : List StageImage} (hAccepts : Accepts s)
    (hOpen : s.store.stream.state = .opened) (hLength : rest.length + 1 ≤ 8)
    (hSame : stageChunk (i :: rest) 0 (clearHolder s) = stageChunk [i] 0 (clearHolder s)) :
    ∃ u x, exec (.streamChunk tag [i]) s = .next u ∧ u.port.inHand = some x ∧
      exec (.streamChunk tag (i :: rest)) s = .next { u with port := { u.port with
        inHand := some { x with request := .streamChunk tag (i :: rest) } } } := by
  refine ⟨_, _, exec_streamChunk tag hAccepts hOpen (by simp), rfl, ?_⟩
  rw [exec_streamChunk tag hAccepts hOpen (by simpa using hLength), hSame]
  rfl

/-- After an image that passes and is not the last of the run, the rest of the Chunk is a Chunk of its own (R22). -/
theorem exec_streamChunk_rest {tag : Byte} {i : StageImage} {rest : List StageImage} (hAccepts : Accepts s)
    (hOpen : s.store.stream.state = .opened) (hRest : rest ≠ []) (hLength : rest.length + 1 ≤ 8)
    (hMore : 1 < s.store.stream.remaining) (hCheck : s.stageCheck s.store.stream.next i = .pass) :
    ∃ u v x n, exec (.streamChunk tag [i]) s = .next u ∧
      exec (.streamChunk tag rest) { u with port := s.port } = .next v ∧ v.port.inHand = some x ∧ n < 8 ∧
      x.response.data = v.store.stream.bytes ++ be2 n ∧
      exec (.streamChunk tag (i :: rest)) s = .next (v.withRequest (.streamChunk tag (i :: rest)) tag x.response.status
        (v.store.stream.bytes ++ be2 (n + 1))) := by
  set c := imageTaken i (clearHolder s) with hc
  have hPort : c.port = (clearHolder s).port := port_imageTaken i _
  have hStream : c.store.stream = { s.store.stream with remaining := s.store.stream.remaining - 1 } := stream_imageTaken i _
  have hChunk : ∀ l n, stageChunk (i :: l) n (clearHolder s) = stageChunk l (n + 1) c := fun l n =>
    stageChunk_passed (s := clearHolder s) (by show s.store.stream.remaining ≠ 0; omega) hCheck
  have hOne : chunkCarried (stageChunk [i] 0 (clearHolder s)) = withChunk .ok 1 c := by
    rw [hChunk]
    exact chunkCarried_more (by rw [hStream]; dsimp only; omega)
  have hFirst := exec_streamChunk tag (images := [i]) hAccepts hOpen (by simp)
  have hAll := exec_streamChunk tag (images := i :: rest) hAccepts hOpen (by simpa using hLength)
  have hPos : 1 ≤ rest.length := List.length_pos_iff.2 hRest
  have hNext := exec_streamChunk (s := { c with port := s.port }) tag (images := rest) hAccepts
    (by show c.store.stream.state = _; rw [hStream]; exact hOpen) (by omega)
  have hClear : clearHolder { c with port := s.port } = c := by
    show ({ c with port := (clearHolder s).port } : State) = c
    rw [← hPort]
  rw [hClear] at hNext
  rw [hOne] at hFirst
  set r := stageChunk rest 0 c with hr
  have hAccepted : r.accepted < 8 := lt_of_le_of_lt (accepted_stageChunk_le rest 0 c) (by omega)
  have hShift : chunkCarried (stageChunk (i :: rest) 0 (clearHolder s)) =
      withChunk (chunkCarried r).status (r.accepted + 1) (chunkCarried r).state := by
    rw [hChunk, stageChunk_counts, ← hr, chunkCarried_counts]
  rw [hShift] at hAll
  have hData : (chunkCarried r).data = (chunkCarried r).state.store.stream.bytes ++ be2 r.accepted :=
    congrArg Carried.data (chunkCarried_eq r)
  exact ⟨_, _, _, r.accepted, hFirst, hNext, rfl, hAccepted, hData, hAll⟩

/-- Settles O38: the images are taken one by one, each as a Chunk of its own. -/
theorem streamChunkStagesOrHalts : Obligations.StreamChunkStagesOrHalts := by
  refine ⟨fun s tag i h m hAccepts hLabels hOpen hRemaining hNext => ?_,
    fun s tag images hAccepts => ⟨fun hNot => ?_, fun hOpen hCount => ?_⟩⟩
  · intro busy passes halted halts
    have hMore : s.store.stream.remaining ≠ 0 := by omega
    subst hNext
    have hPasses : s.stageCheck s.store.stream.next i = .pass ↔ passes := stageCheck_passes_iff
    refine ⟨fun p hPlan hPass hPlain => ?_, fun hBusy => exec_streamChunk_halts hAccepts hOpen hMore (stageCheck_of_busy i hBusy),
      fun hFree hNone => exec_streamChunk_halts hAccepts hOpen hMore (stageCheck_of_noPlan hFree hNone),
      fun hFree ⟨p, k, hPlan, hClash⟩ => ?_, fun rest hLength hEnds => ?_, fun rest hRest hLength hPos hPass => ?_⟩
    · obtain ⟨hMine, hOthers, hBucket, hBuckets⟩ :=
        imageTaken_effects (s := clearHolder s) hLabels hPlan (fun k hk hUse => by
          obtain ⟨-, q, hq, hApart⟩ := hPass
          rw [hPlan] at hq
          obtain rfl := Option.some.inj hq
          exact hApart k hk hUse)
      have hRun := exec_streamChunk_taken (tag := tag) hAccepts hOpen hMore (hPasses.2 hPass)
        (hPlain.symm.imp_right fun hPos => by omega)
      dsimp only at hRun
      have hTaken := imageTaken_eq i (clearHolder s)
      have hLeft : s.store.stream.remaining - 1 = m := by omega
      generalize imageTaken i (clearHolder s) = c at *
      have hStream : c.store.stream = { s.store.stream with remaining := m } := by
        rw [hTaken, ← hLeft]
        rfl
      have hAttn : c.attn = s.attn := by rw [hTaken]; rfl
      have hEnded : c.store.stream.remaining = m := by rw [hStream]
      rw [hEnded] at hRun
      refine ⟨_, hRun, ?_⟩
      by_cases hm : m = 0
      · rw [if_pos hm, if_pos hm, if_pos hm]
        exact ⟨hMine, hOthers, hBucket, hBuckets, by rw [completeStream_eq, hStream]; rfl, by rw [completeStream_eq, hAttn]; rfl, rfl,
          by rw [completeStream_eq, hTaken]; rfl⟩
      · rw [if_neg hm, if_neg hm, if_neg hm]
        exact ⟨hMine, hOthers, hBucket, hBuckets, hStream.trans (by rw [← hOpen]), hAttn, rfl, by rw [hTaken]; rfl⟩
    · obtain ⟨j, hCheck⟩ := stageCheck_of_clash hFree hPlan ⟨k, hClash⟩
      exact exec_streamChunk_halts hAccepts hOpen hMore hCheck
    · refine exec_streamChunk_same hAccepts hOpen hLength ?_
      cases hCheck : (clearHolder s).stageCheck (clearHolder s).store.stream.next i with
      | fail status k => rw [stageChunk_failed (s := clearHolder s) hMore hCheck, stageChunk_failed (s := clearHolder s) hMore hCheck]
      | pass =>
        have hZero : m = 0 := hEnds.resolve_right (not_not.2 (hPasses.1 hCheck))
        have hEnded : (imageTaken i (clearHolder s)).store.stream.remaining = 0 := by
          rw [stream_imageTaken]
          show s.store.stream.remaining - 1 = 0
          omega
        rw [stageChunk_passed (s := clearHolder s) hMore hCheck, stageChunk_passed (s := clearHolder s) hMore hCheck,
          stageChunk_ended _ _ hEnded, stageChunk_ended _ _ hEnded]
    · exact exec_streamChunk_rest hAccepts hOpen hRest hLength (by omega) (hPasses.2 hPass)
  · exact exec_answered (carry := carryStreamChunk images) (fun _ => rfl) hAccepts (if_pos hNot)
  · refine exec_answered (carry := carryStreamChunk images) (fun _ => rfl) hAccepts ?_
    rw [carryStreamChunk, if_neg (not_not.2 (show (clearHolder s).store.stream.state = .opened from hOpen)), if_pos]
    · rfl
    · rcases hCount with rfl | hLong
      · exact .inl (by simp)
      · exact .inr hLong

end Sys2Proof.Machine
end

section
/-!
PROOFS. The activation at the end of a Stream (O39): the check of the set by `SetFails`, and the activation as one event.
-/

namespace Sys2Proof.Machine

variable {s t u : State}

/-! ### The check of the set -/

theorem exists_slotClashWith {h : Nat} {p : Planning} : (∃ j, s.slotClashWith h p = some j) ↔
    ∃ j, j ≠ h ∧ (s.record j).lifecycle = .active ∧ slotClash s.node.ringSize (s.record j).plan p = true := by
  rw [← Option.ne_none_iff_exists', ne_eq, slotClashWith_eq_none]
  simp

theorem exists_portClashWith {h : Nat} {p : Option Byte} : (∃ j, s.portClashWith h p = some j) ↔
    p ≠ none ∧ ∃ j, j ≠ h ∧ (s.record j).lifecycle = .active ∧ (s.record j).port = p := by
  rw [← Option.ne_none_iff_exists', ne_eq, portClashWith_eq_none]
  push Not
  exact ⟨fun ⟨j, hj, hActive, hSome, hSame⟩ => ⟨hSome, j, hj, hActive, hSame⟩,
    fun ⟨hSome, j, hj, hActive, hSame⟩ => ⟨j, hj, hActive, hSome, hSame⟩⟩

theorem setBelow_eq_true {run : List Nat} {h : Nat} {f : Record → Bool} :
    s.setBelow run h f = true ↔ ∃ j ∈ run, j < h ∧ f (s.record j) = true := by
  simp [State.setBelow]

/-- A record fits the ring parameters (R8), as `SetFails` says it. -/
theorem fits_iff {n own : Nat} {p : Planning} {port : Option Byte} :
    (!p.endsFit n || !portPresenceOk p port own) = false ↔
      p.endA < n ∧ p.endB < n ∧ (port.isSome = true ↔ own = p.endA ∨ own = p.endB) := by
  have hPort : portPresenceOk p port own = true ↔ (port.isSome = true ↔ own = p.endA ∨ own = p.endB) := by
    rw [portPresenceOk, beq_iff_eq, Bool.eq_iff_iff]
    simp
  rw [Bool.or_eq_false_iff, Bool.not_eq_false', Bool.not_eq_false', hPort]
  simp [Planning.endsFit, and_assoc]

/-- The slot check of the set compares with every other Active record and every handle of the set below (R23). -/
theorem slotFails_iff {run : List Nat} {h : Nat} :
    (∃ j, (j ≠ h ∧ ((s.record j).lifecycle = .active ∨ j ∈ run ∧ j < h)) ∧
        slotClash s.node.ringSize (s.record j).plan (s.record h).plan = true) ↔
      (∃ j, s.slotClashWith h (s.record h).plan = some j) ∨
        s.setBelow run h (fun q => slotClash s.node.ringSize q.plan (s.record h).plan) = true := by
  rw [exists_slotClashWith, setBelow_eq_true]
  constructor
  · rintro ⟨j, ⟨hj, hActive | ⟨hRun, hBelow⟩⟩, hClash⟩
    · exact .inl ⟨j, hj, hActive, hClash⟩
    · exact .inr ⟨j, hRun, hBelow, hClash⟩
  · rintro (⟨j, hj, hActive, hClash⟩ | ⟨j, hRun, hBelow, hClash⟩)
    · exact ⟨j, ⟨hj, .inl hActive⟩, hClash⟩
    · exact ⟨j, ⟨hBelow.ne, .inr ⟨hRun, hBelow⟩⟩, hClash⟩

/-- The port check of the set compares with every other Active record and every handle of the set below (R23). -/
theorem portFails_iff {run : List Nat} {h : Nat} :
    ((s.record h).port ≠ none ∧ ∃ j, (j ≠ h ∧ ((s.record j).lifecycle = .active ∨ j ∈ run ∧ j < h)) ∧
        (s.record j).port = (s.record h).port) ↔
      (∃ j, s.portClashWith h (s.record h).port = some j) ∨
        s.setBelow run h (fun q => (s.record h).port.isSome && decide (q.port = (s.record h).port)) = true := by
  rw [exists_portClashWith, setBelow_eq_true]
  simp only [Bool.and_eq_true, decide_eq_true_eq, Option.isSome_iff_ne_none]
  constructor
  · rintro ⟨hSome, j, ⟨hj, hActive | ⟨hRun, hBelow⟩⟩, hSame⟩
    · exact .inl ⟨hSome, j, hj, hActive, hSame⟩
    · exact .inr ⟨j, hRun, hBelow, hSome, hSame⟩
  · rintro (⟨hSome, j, hj, hActive, hSame⟩ | ⟨j, hRun, hBelow, hSome, hSame⟩)
    · exact ⟨hSome, j, ⟨hj, .inl hActive⟩, hSame⟩
    · exact ⟨hSome, j, ⟨hBelow.ne, .inr ⟨hRun, hBelow⟩⟩, hSame⟩

/-- The status with which a check fails. -/
def Check.status? : Check → Option Status
  | .pass => none
  | .fail status _ => some status

/-- A handle of the set fails with the status of the first of its checks that fails (R12, R23). -/
theorem setCheck_status_iff {run : List Nat} {h : Nat} {st : Status} :
    (s.setCheck run h).status? = some st ↔ SetFails s.node.ringSize s.node.own s.record (· ∈ run) h st := by
  unfold SetFails
  dsimp only
  have hSlot := slotFails_iff (s := s) (run := run) (h := h)
  have hPort := portFails_iff (s := s) (run := run) (h := h)
  have hFits := fits_iff (n := s.node.ringSize) (own := s.node.own) (p := (s.record h).plan) (port := (s.record h).port)
  rw [hSlot, hPort, ← hFits]
  unfold State.setCheck State.activateCheck
  dsimp only
  by_cases hStaged : (s.record h).lifecycle = .staged
  · cases !(s.record h).plan.endsFit s.node.ringSize || !portPresenceOk (s.record h).plan (s.record h).port s.node.own with
    | true => simp [hStaged, Check.status?, eq_comm (a := st)]
    | false =>
      simp only [hStaged, ne_eq, not_true_eq_false, if_false, Bool.false_eq_true]
      cases s.slotClashWith h (s.record h).plan with
      | some k => simp [Check.status?, eq_comm (a := st)]
      | none =>
        cases s.portClashWith h (s.record h).port <;>
          cases s.setBelow run h (fun q => slotClash s.node.ringSize q.plan (s.record h).plan) <;>
          cases s.setBelow run h (fun q => (s.record h).port.isSome && decide (q.port = (s.record h).port)) <;>
          simp [Check.status?, eq_comm (a := st)]
  · simp [hStaged, Check.status?, eq_comm (a := st)]

theorem setFailure_eq (run : List Nat) (s : State) :
    s.setFailure run = run.findSome? fun h => ((s.setCheck run h).status?).map fun st => (h, st) := by
  unfold State.setFailure
  refine congrFun (congrArg _ (funext fun h => ?_)) run
  cases s.setCheck run h <;> rfl

/-- In a run of handles, the first that fails is the lowest (R23). -/
theorem setFailure_lowest {first count k : Nat} {st : Status}
    (hLow : IsLowest (fun j => (first ≤ j ∧ j < first + count) ∧
      ∃ x, SetFails s.node.ringSize s.node.own s.record (· ∈ List.range' first count) j x) k)
    (hFails : SetFails s.node.ringSize s.node.own s.record (· ∈ List.range' first count) k st) :
    s.setFailure (List.range' first count) = some (k, st) := by
  obtain ⟨⟨⟨hFirst, hLast⟩, -⟩, hBelow⟩ := hLow
  have hSplit : List.range' first count = List.range' first (k - first) ++ k :: List.range' (k + 1) (first + count - (k + 1)) := by
    have hAppend := List.range'_append (s := first) (m := k - first) (n := first + count - k) (step := 1)
    rw [show first + 1 * (k - first) = k by omega, show k - first + (first + count - k) = count by omega,
      show first + count - k = first + count - (k + 1) + 1 by omega, List.range'_succ] at hAppend
    exact hAppend.symm
  have hNone : (List.range' first (k - first)).findSome? (fun h =>
      ((s.setCheck (List.range' first count) h).status?).map fun st => (h, st)) = none := by
    rw [List.findSome?_eq_none_iff]
    intro j hj
    rw [Option.map_eq_none_iff, Option.eq_none_iff_forall_ne_some]
    intro x hx
    obtain ⟨hj1, hj2⟩ := List.mem_range'_1.1 hj
    exact hBelow j (by omega) ⟨⟨hj1, by omega⟩, x, setCheck_status_iff.1 hx⟩
  rw [setFailure_eq, congrArg (List.findSome? _) hSplit, List.findSome?_append, hNone, Option.none_or,
    List.findSome?_cons, setCheck_status_iff.2 hFails]
  rfl

theorem setFailure_none {run : List Nat}
    (h : ∀ k st, k ∈ run → ¬ SetFails s.node.ringSize s.node.own s.record (· ∈ run) k st) : s.setFailure run = none := by
  rw [setFailure_eq, List.findSome?_eq_none_iff]
  intro k hk
  rw [Option.map_eq_none_iff, Option.eq_none_iff_forall_ne_some]
  exact fun st hst => h k st hk (setCheck_status_iff.1 hst)

theorem mem_of_setFailure {run : List Nat} {h : Nat} {st : Status} (hSome : s.setFailure run = some (h, st)) : h ∈ run := by
  rw [setFailure_eq, List.findSome?_eq_some_iff] at hSome
  obtain ⟨l, k, l', hRun, hAt, -⟩ := hSome
  obtain ⟨x, -, hx⟩ := Option.map_eq_some_iff.1 hAt
  obtain rfl : k = h := congrArg Prod.fst hx
  rw [hRun]
  simp

/-! ### The images before the activation -/

theorem lifecycle_imageTaken {i : StageImage} {h : Nat} (hActive : ((imageTaken i s).record h).lifecycle = .active) :
    (s.record h).lifecycle = .active := by
  cases hPlan : imagePlanning i with
  | none =>
    have hStage : stageImage s.store.stream.next i s = s := by rw [stageImage, hPlan]
    rw [imageTaken, hStage] at hActive
    exact hActive
  | some p =>
    have hRecord : (imageTaken i s).record h = (stageFields s.store.stream.next p (imagePort i) s).record h := by
      rw [imageTaken_of_plan hPlan]
      rfl
    rw [hRecord, record_stageFields] at hActive
    split at hActive
    · cases hActive
    · exact hActive

/-- Images that are staged write the records, the Label Index and remaining, and make no record Active (R22). -/
def StagedFrom (s u : State) : Prop :=
  u = { s with store := { s.store with
    records := u.store.records, labelIndex := u.store.labelIndex,
    stream := { s.store.stream with remaining := u.store.stream.remaining } } } ∧
    ∀ h, (u.record h).lifecycle = .active → (s.record h).lifecycle = .active

theorem StagedFrom.imageTaken (i : StageImage) (s : State) : StagedFrom s (imageTaken i s) := by
  refine ⟨?_, fun h => lifecycle_imageTaken⟩
  rw [stream_imageTaken]
  exact imageTaken_eq i s

theorem StagedFrom.trans {v : State} (h : StagedFrom s t) (h' : StagedFrom t v) : StagedFrom s v := by
  obtain ⟨hEq, hLife⟩ := h
  obtain ⟨hEq', hLife'⟩ := h'
  refine ⟨?_, fun k hk => hLife k (hLife' k hk)⟩
  conv_lhs => rw [hEq', hEq]

/-- The images of a Chunk are staged until one fails, which leaves images to come (R22). -/
theorem stageChunk_outcome (l : List StageImage) (n : Nat) (s : State) :
    (∃ status, (stageChunk l n s).halted = some status ∧ (stageChunk l n s).state.store.stream.remaining ≠ 0) ∨
      ((stageChunk l n s).halted = none ∧ StagedFrom s (stageChunk l n s).state) := by
  induction l generalizing n s with
  | nil => exact .inr ⟨rfl, rfl, fun _ => id⟩
  | cons i l ih =>
    by_cases hMore : s.store.stream.remaining = 0
    · rw [stageChunk_ended _ _ hMore]
      exact .inr ⟨rfl, rfl, fun _ => id⟩
    · cases hCheck : s.stageCheck s.store.stream.next i with
      | fail status h =>
        rw [stageChunk_failed hMore hCheck]
        exact .inl ⟨status, rfl, hMore⟩
      | pass =>
        rw [stageChunk_passed hMore hCheck]
        exact (ih _ _).imp_right fun ⟨hNone, hStaged⟩ => ⟨hNone, (StagedFrom.imageTaken i s).trans hStaged⟩

/-! ### The activation -/

theorem finishStream_activates (hActivate : s.store.stream.activate = true) (hNone : s.setFailure s.store.stream.run = none) :
    finishStream s = (completeStream (activateAll s.store.stream.run s), .ok) := by
  rw [finishStream]
  simp only [hActivate, hNone, if_true]

theorem finishStream_refuses {h : Nat} {st : Status} (hActivate : s.store.stream.activate = true)
    (hSome : s.setFailure s.store.stream.run = some (h, st)) :
    finishStream s = (haltStream h .activateRefused (some st) s, st) := by
  rw [finishStream]
  simp only [hActivate, hSome, if_true]

theorem mem_foldl_setInsert (run l : List Nat) (k : Nat) : k ∈ run.foldl setInsert l ↔ k ∈ run ∨ k ∈ l := by
  induction run generalizing l with
  | nil => simp
  | cons h run ih =>
    rw [List.foldl_cons, ih, mem_setInsert, List.mem_cons]
    tauto

/-- A Stream that completes after an activation leaves the comparisons of the activation. -/
theorem LanesButDigest.completed {v : State} (h : LanesButDigest false s t) (hLane : ∀ d, v.lane d = t.lane d)
    (hDigest : v.store.digest = t.store.digest) (hAttn : v.attn = t.attn.raise .streamFinished) : LanesButDigest false s v :=
  h.congr (fun _ => rfl) rfl rfl hLane hDigest (by rw [hAttn, causeIn_raise]; simp)

/-- What `StreamActivatesAllOrNone` says of the state `t` after the last image of a run that began in `s` (R23). -/
def AllOrNone (s t : State) : Prop :=
  let run := List.range' s.store.stream.first s.store.stream.count
  LanesButDigest false s t ∧
    ((t.store.stream.state = .complete ∧ (∀ h ∈ run, (t.record h).lifecycle = .active) ∧
      t.store.digest = s.store.digest + (run.map fun h => (t.record h).code).sum ∧
      (s.node.state ≠ .configuring → s.planner.phase = .idle → t.planner.phase = .gathering) ∧
      (s.node.state ≠ .configuring → s.planner.phase ≠ .idle → t.planner.replan = true)) ∨
    (t.store.stream.state = .halted ∧ t.store.digest = s.store.digest ∧ t.planner = s.planner ∧
      (∀ h, (t.record h).lifecycle = .active → (s.record h).lifecycle = .active) ∧
      ∃ h st, t.store.stream.halt = some { handle := h, reason := .activateRefused, status := some st } ∧ h ∈ run))

theorem allOrNone_halted {h : Nat} {st : Status} (hStaged : StagedFrom s u) (hRun : h ∈ u.store.stream.run) :
    AllOrNone s (haltStream h .activateRefused (some st) u) := by
  obtain ⟨hEq, hLife⟩ := hStaged
  have hStream : u.store.stream.run = List.range' s.store.stream.first s.store.stream.count := by rw [hEq]; rfl
  rw [hStream] at hRun
  refine ⟨(lanesButDigest_refl s).completed (fun d => ?_) ?_ ?_, .inr ⟨rfl, ?_, ?_, hLife, h, st, rfl, hRun⟩⟩
  · rw [hEq]; cases d <;> rfl
  · show u.store.digest = _
    rw [hEq]
  · show u.attn.raise _ = _
    rw [hEq]
  · show u.store.digest = _
    rw [hEq]
  · show u.planner = _
    rw [hEq]

/-- An activation starts a sweep, or sets re-plan pending (R112). -/
theorem planner_activateAll (l : List Nat) (hState : s.node.state ≠ .configuring) :
    (s.planner.phase = .idle → (activateAll l s).planner.phase = .gathering) ∧
      (s.planner.phase ≠ .idle → (activateAll l s).planner.replan = true) := by
  obtain ⟨-, -, ⟨-, hBusy, hIdle⟩, -, -⟩ := activateAll_effects l s
  refine ⟨fun hPhase => ?_, fun hPhase => ?_⟩
  · rw [if_pos hPhase] at hIdle
    rw [hIdle hState hPhase]
  · rw [if_neg hPhase] at hBusy
    rw [hBusy hState hPhase]

theorem allOrNone_completed (hStaged : StagedFrom s u) : AllOrNone s (completeStream (activateAll u.store.stream.run u)) := by
  obtain ⟨hRecord, hStore, -, hLanes, -⟩ := activateAll_effects u.store.stream.run u
  have hPlan := planner_activateAll (s := u) u.store.stream.run
  obtain ⟨hEq, -⟩ := hStaged
  have hRun : u.store.stream.run = List.range' s.store.stream.first s.store.stream.count := by rw [hEq]; rfl
  obtain ⟨hNode, hPlanner, hDigest⟩ : u.node = s.node ∧ u.planner = s.planner ∧ u.store.digest = s.store.digest := by
    rw [hEq]; exact ⟨rfl, rfl, rfl⟩
  have hFrom : LanesButDigest false s (activateAll u.store.stream.run u) :=
    hLanes.congr (fun d => by rw [hEq]; cases d <;> rfl) hDigest.symm (by rw [hEq]) (fun _ => rfl) rfl rfl
  rw [hNode, hPlanner] at hPlan
  generalize u.store.stream.run = run at *
  subst hRun
  generalize activateAll (List.range' s.store.stream.first s.store.stream.count) u = t at *
  refine ⟨hFrom.completed (fun d => by cases d <;> rfl) rfl rfl, .inl ⟨rfl, fun h hh => ?_, ?_, fun hState => (hPlan hState).1,
    fun hState => (hPlan hState).2⟩⟩
  · show (t.record h).lifecycle = _
    rw [hRecord, if_pos hh]
  · show t.store.digest = _
    rw [hStore, hDigest]
    refine congrArg (fun l : List (BitVec 32) => s.store.digest + l.sum) (List.map_congr_left fun h hh => ?_)
    show _ = (t.record h).code
    rw [hRecord, if_pos hh]

theorem allOrNone_finishStream (hStaged : StagedFrom s u) (hActivate : u.store.stream.activate = true) :
    AllOrNone s (finishStream u).1 := by
  cases hFailure : u.setFailure u.store.stream.run with
  | none =>
    rw [finishStream_activates hActivate hFailure]
    exact allOrNone_completed hStaged
  | some x =>
    obtain ⟨h, st⟩ := x
    rw [finishStream_refuses hActivate hFailure]
    exact allOrNone_halted hStaged (mem_of_setFailure hFailure)

/-- The last image of an activating Stream makes all of the run Active or none (R23). -/
theorem allOrNone_streamChunk {tag : Byte} {images : List StageImage} (hAccepts : Accepts s) (hs : StreamSound s)
    (hOpen : s.store.stream.state = .opened) (hActivate : s.store.stream.activate = true)
    (hExec : exec (.streamChunk tag images) s = .next t) (hLast : t.store.stream.remaining = 0) : AllOrNone s t := by
  have hMore : s.store.stream.remaining ≠ 0 := Nat.one_le_iff_ne_zero.1 (hs hOpen).1
  by_cases hLength : 1 ≤ images.length ∧ images.length ≤ 8
  · obtain rfl := Host.Outcome.next.inj ((exec_streamChunk tag hAccepts hOpen hLength).symm.trans hExec)
    change (chunkCarried (stageChunk images 0 (clearHolder s))).state.store.stream.remaining = 0 at hLast
    have hAll : AllOrNone (clearHolder s) (chunkCarried (stageChunk images 0 (clearHolder s))).state := by
      have hOutcome := stageChunk_outcome images 0 (clearHolder s)
      generalize stageChunk images 0 (clearHolder s) = r at *
      obtain ⟨u, n, halted⟩ := r
      rcases hOutcome with ⟨status, rfl, hLeft⟩ | ⟨rfl, hStaged⟩
      · exact absurd hLast hLeft
      · by_cases hEnded : u.store.stream.remaining = 0
        · rw [chunkCarried_ended hEnded]
          exact allOrNone_finishStream hStaged
            ((congrArg (fun v : State => v.store.stream.activate) hStaged.1).trans hActivate)
        · rw [chunkCarried_more hEnded] at hLast
          exact absurd hLast hEnded
    generalize (chunkCarried (stageChunk images 0 (clearHolder s))).state = u at *
    exact hAll
  · have hRefused : carryStreamChunk images (clearHolder s) = withChunk .invalidField 0 (clearHolder s) := by
      rw [carryStreamChunk, if_neg (not_not.2 (show (clearHolder s).store.stream.state = .opened from hOpen)),
        if_pos (by omega)]
    obtain rfl := Host.Outcome.next.inj ((exec_answered (carry := carryStreamChunk images) (i := .streamChunk tag images)
      (tag := tag) (fun _ => rfl) hAccepts hRefused).symm.trans hExec)
    exact absurd hLast hMore

/-- The last image, taken: the records as `staged` says, and remaining 0. -/
theorem exec_streamChunk_last {tag : Byte} {i : StageImage} (hAccepts : Accepts s) (hOpen : s.store.stream.state = .opened)
    (hLast : s.store.stream.remaining = 1) (hCheck : s.stageCheck s.store.stream.next i = .pass) :
    exec (.streamChunk tag [i]) s = .next (State.withRequest
      { (finishStream (imageTaken i (clearHolder s))).1 with port := s.port } (.streamChunk tag [i]) tag
      (finishStream (imageTaken i (clearHolder s))).2
      ((finishStream (imageTaken i (clearHolder s))).1.store.stream.bytes ++ be2 1)) := by
  have hStream := stream_imageTaken i (clearHolder s)
  have hEnded : (imageTaken i (clearHolder s)).store.stream.remaining = 0 := by
    rw [hStream]
    show s.store.stream.remaining - 1 = 0
    omega
  have hMore : (clearHolder s).store.stream.remaining ≠ 0 := by
    show s.store.stream.remaining ≠ 0
    omega
  have hRun := exec_streamChunk tag (images := [i]) hAccepts hOpen (by simp)
  rw [stageChunk_passed (s := clearHolder s) hMore hCheck, stageChunk, chunkCarried_ended hEnded] at hRun
  exact hRun

/-- Settles O39. -/
theorem streamActivatesAllOrNone : Obligations.StreamActivatesAllOrNone := by
  refine ⟨fun s tag images t hAccepts _ hs hOpen hActivate hExec hLast =>
    allOrNone_streamChunk hAccepts hs hOpen hActivate hExec hLast, ?_⟩
  intro s tag i p h hAccepts _ hLabels hs hOpen hActivate hLast hNext hPlan hLife hApart run staged fails indexed
  obtain ⟨-, hCount, -⟩ := hs hOpen
  have hHandle : s.store.stream.next = h := by
    rw [Stream.next, hLast]
    omega
  have hCheck : s.stageCheck s.store.stream.next i = .pass := by
    rw [hHandle]
    exact stageCheck_pass_iff.2 ⟨hLife, p, hPlan, labelHolder_eq_none.2 hApart⟩
  have hExec := exec_streamChunk_last (tag := tag) hAccepts hOpen hLast hCheck
  obtain ⟨hMine, hOthers, hBucket, hBuckets⟩ := imageTaken_effects (s := clearHolder s) hLabels hPlan (by
    rw [show (clearHolder s).store.stream.next = h from hHandle]; exact hApart)
  have hTaken := imageTaken_eq i (clearHolder s)
  rw [show (clearHolder s).store.stream.next = h from hHandle] at hMine hOthers hBucket hBuckets
  generalize imageTaken i (clearHolder s) = c at *
  have hRecord : c.record = staged := funext fun k => by
    by_cases hk : k = h
    · subst hk
      exact hMine.trans (if_pos rfl).symm
    · exact (hOthers k hk).trans (if_neg hk).symm
  have hStream : c.store.stream = { s.store.stream with remaining := 0 } := by
    rw [hTaken]
    show ({ s.store.stream with remaining := s.store.stream.remaining - 1 } : Stream) = _
    rw [hLast]
  obtain ⟨hNode, hPlanner, hDigest⟩ : c.node = s.node ∧ c.planner = s.planner ∧ c.store.digest = s.store.digest := by
    rw [hTaken]; exact ⟨rfl, rfl, rfl⟩
  have hHandles : c.store.stream.run = List.range' s.store.stream.first s.store.stream.count := by rw [hStream]; rfl
  have hMem : ∀ k, k ∈ List.range' s.store.stream.first s.store.stream.count ↔ run k := fun k => by
    rw [List.mem_range'_1]
    show _ ↔ s.store.stream.first ≤ k ∧ k ≤ h
    omega
  have hFails : SetFails c.node.ringSize c.node.own c.record (· ∈ c.store.stream.run) = fails := by
    rw [hNode, hRecord, hHandles, funext fun k => propext (hMem k)]
  have hActivates : c.store.stream.activate = true := by rw [hStream]; exact hActivate
  refine ⟨fun hNone => ?_, fun k st hLow hFail => ?_⟩
  · have hPasses : c.setFailure c.store.stream.run = none := setFailure_none fun k st hk => by
      rw [hFails]
      exact hNone k st ((hMem k).1 (hHandles ▸ hk))
    rw [finishStream_activates hActivates hPasses, hHandles] at hExec
    obtain ⟨hActive, hStore, hTriggered, hLanes, hNodeSame, hMonEast, hMonWest, hMap, hFabric, -, hPending⟩ :=
      activateAll_effects (List.range' s.store.stream.first s.store.stream.count) c
    have hRunsTo : run h := ⟨by omega, le_rfl⟩
    generalize List.range' s.store.stream.first s.store.stream.count = handles at *
    generalize activateAll handles c = v at *
    have hLabelIndex : v.store.labelIndex = c.store.labelIndex := by rw [hStore]
    rw [hPlanner] at hTriggered
    refine ⟨_, if s.planner.phase = .idle then s.planner.late else handles.foldl setInsert s.planner.late, hExec,
      fun k hk => ?_, fun k hk => ?_, ⟨fun b => ?_, fun b k hk => ?_⟩, ?_,
      fun hIdle => if_pos hIdle, fun hBusy k => ?_, ?_, ?_, ?_, ?_, ?_, ?_, ?_, ?_, rfl, ?_⟩
    · show v.record k = _
      rw [hActive, if_pos ((hMem k).2 hk), hRecord]
    · show v.record k = _
      rw [hActive, if_neg (hk ∘ (hMem k).1), hRecord]
      exact if_neg (fun hEq : k = h => hk (by rw [hEq]; exact hRunsTo))
    · show h ∈ Table.get _ v.store.labelIndex b ↔ _
      rw [hLabelIndex]
      exact hBucket b
    · show k ∈ Table.get _ v.store.labelIndex b ↔ _
      rw [hLabelIndex]
      exact hBuckets b k hk
    · show ({ v.store with stream := { v.store.stream with state := .complete } } : RecordStore) = { s.store with
        records := v.store.records, labelIndex := v.store.labelIndex,
        digest := s.store.digest + (handles.map fun k => (staged k).code).sum,
        stream := { s.store.stream with state := .complete, remaining := 0 } }
      rw [hStore, hStream, hDigest, hRecord, hTaken]
      rfl
    · rw [if_neg hBusy, mem_foldl_setInsert, hMem]
    · have hLate : (if s.planner.phase = .idle then s.planner else
          { s.planner with late := handles.foldl setInsert s.planner.late }) = { s.planner with
            late := if s.planner.phase = .idle then s.planner.late else handles.foldl setInsert s.planner.late } := by
        split <;> rfl
      rw [hLate] at hTriggered
      unfold HostTriggered at hTriggered ⊢
      rw [hNode] at hTriggered
      exact hTriggered
    · refine LanesButDigest.completed (t := v) ?_ (fun d => by cases d <;> rfl) rfl rfl
      exact hLanes.congr (fun d => by rw [hTaken]; cases d <;> rfl) hDigest.symm (by rw [hTaken]; rfl) (fun _ => rfl) rfl rfl
    · show causeIn (v.attn.raise .streamFinished).pending .streamFinished = true
      rw [causeIn_raise]
      simp
    · exact hNodeSame.trans (by rw [hTaken]; rfl)
    · exact hMonEast.trans (by rw [hTaken]; rfl)
    · exact hMonWest.trans (by rw [hTaken]; rfl)
    · exact hMap.trans (by rw [hTaken]; rfl)
    · exact hFabric.trans (by rw [hTaken]; rfl)
    · exact hPending.trans (by rw [hTaken]; rfl)
  · have hLowest : c.setFailure c.store.stream.run = some (k, st) := by
      rw [hHandles] at hFails ⊢
      refine setFailure_lowest ?_ (hFails ▸ hFail)
      rw [hFails]
      simp only [hNext, Nat.lt_add_one_iff]
      exact hLow
    rw [finishStream_refuses hActivates hLowest] at hExec
    refine ⟨_, hExec, fun j => congrFun hRecord j, ⟨hBucket, hBuckets⟩, ?_, ?_, rfl, ?_⟩
    · show ({ c.store.stream with state := .halted, halt := _ } : Stream) = _
      rw [hStream]
    · show c.attn.raise _ = _
      rw [hTaken]
      rfl
    · rw [hTaken]
      rfl

end Sys2Proof.Machine
end

section
/-!
PROOFS. Stop (O31). What composing and comparing at the end of any event does to the own reports and the pending report sets is said
once for both sides.
-/

namespace Sys2Proof.Machine

variable {s t u : State}

/-! ### Both own reports -/

theorem own_compareSpans (d : Side) (s : State) : (compareSpans s).map.own d = s.map.own d := by
  rw [compareSpans_eq]
  cases d <;> rfl

/-- Each own report follows what its side composes, with a new epoch where the content changes (R53, R74). -/
theorem own_refreshReports (d : Side) (s : State) :
    (refreshReports s).map.own d = if s.composed d = (s.map.own d).content then s.map.own d
      else { content := s.composed d, epoch := (s.map.own d).epoch + 1 } := by
  rw [refreshReports, own_compareSpans]
  cases d with
  | east => rw [show Side.east = Side.west.other from rfl, own_takeOwn_other, own_takeOwn]
  | west =>
    have hOther : (takeOwn .east s).map.own .west = s.map.own .west := own_takeOwn_other .east s
    rw [own_takeOwn, composed_takeOwn, hOther]

/-- The own key of each side whose content changes is marked (R53, R68). -/
theorem marksOwnKeys_refreshReports (s : State) :
    MarksOwnKeys (fun d => s.composed d ≠ (s.map.own d).content) s (refreshReports s) := by
  intro e k
  have hOther : (takeOwn .east s).map.own .west = s.map.own .west := own_takeOwn_other .east s
  have hAdjacency : ((takeOwn .east s).lane e).adjacency = (s.lane e).adjacency := by rw [lane_takeOwn]
  have hNode : (takeOwn .east s).node = s.node := by rw [takeOwn_eq]
  have hOne : ∀ (l : List Nat) (p : Prop) [Decidable p] (key : Nat),
      k ∈ (if p then setInsert l key else l) ↔ k ∈ l ∨ p ∧ k = key := by
    intro l p _ key
    split
    next hp => rw [mem_setInsert]; tauto
    next hp => tauto
  rw [refreshReports, lane_compareSpans, lane_takeOwn .west]
  dsimp only
  rw [hOne, composed_takeOwn, hOther, hAdjacency, hNode, lane_takeOwn .east]
  dsimp only
  rw [hOne]
  constructor
  · rintro ((hOld | ⟨⟨hChanged, hUp, hSet⟩, hKey⟩) | ⟨⟨hChanged, hUp, hSet⟩, hKey⟩)
    · exact .inl hOld
    · exact .inr ⟨hUp, hSet, .east, hChanged, hKey⟩
    · exact .inr ⟨hUp, hSet, .west, hChanged, hKey⟩
  · rintro (hOld | ⟨hUp, hSet, d, hChanged, hKey⟩)
    · exact .inl (.inl hOld)
    · cases d
      · exact .inl (.inr ⟨⟨hChanged, hUp, hSet⟩, hKey⟩)
      · exact .inr ⟨⟨hChanged, hUp, hSet⟩, hKey⟩

/-- The marks are told from the lanes, the ring and what changes. -/
theorem MarksOwnKeys.congr {p q : Side → Prop} (h : MarksOwnKeys p u t)
    (hKeys : ∀ e, (u.lane e).pendingKeys = (s.lane e).pendingKeys) (hUp : ∀ e, (u.lane e).adjacency = (s.lane e).adjacency)
    (hSize : u.node.ringSize = s.node.ringSize) (hOwn : u.node.own = s.node.own) (hChanged : ∀ d, p d ↔ q d) :
    MarksOwnKeys q s t := by
  intro e k
  rw [h e k, hKeys, hUp, hSize, hOwn]
  simp only [hChanged]

/-- The spans and the cadence scale before an event are all that its effects are told from. -/
theorem SpanEffects.of_spans {a : Attention} {p : Planner} (h : SpanEffects a p u t) (hSpans : u.map.spans = s.map.spans)
    (hCadence : u.fabric.cadence = s.fabric.cadence) : SpanEffects a p s t := by
  have hHeld : u.heldSpan = s.heldSpan := by funext k; rw [State.heldSpan, hSpans, State.heldSpan]
  unfold SpanEffects at h ⊢
  rwa [hHeld, hCadence] at h

/-- In Configuring the effects of the spans leave the Planner as it is (R86). -/
theorem SpanEffects.planner_of_configuring {a : Attention} {p : Planner} (h : SpanEffects a p s t)
    (hState : t.node.state = .configuring) : t.planner = p := by
  obtain ⟨-, -, -, -, -, hQuiet, -⟩ := h
  exact hQuiet (.inr hState)

/-! ### Stop -/

/-- The node at a Stop, before the reports are composed again (R35). -/
def stopped (s : State) : State :=
  { stopConfirmTimers (stopPlanner s) with
    node := { s.node with state := .configuring, joinTimer := none }, fabric := s.fabric.stop }

theorem stopNode_eq (s : State) : stopNode s = refreshReports (stopped s) := rfl

theorem stoppedPlanner_eq (s : State) : (stopped s).planner =
    if s.planner.phase = .idle then { s.planner with replan := false, abandonCount := 0 }
    else { s.planner with
      phase := .idle, snapshot := [], buffer := [], excluded := [], nextGrants := [], replan := false,
      abandonCount := 0 } := by
  have hPlanner : (stopped s).planner = { s.planner.discardSweep with phase := .idle, replan := false, abandonCount := 0 } := rfl
  rw [hPlanner, Planner.discardSweep]
  split
  next hIdle => rw [← hIdle]
  next => rfl

theorem stoppedFabric_eq (f : Fabric) : f.stop = { f with
    reassertTimer := none, reassertPending := f.reassertPending && decide (∃ c ∈ f.outstanding, c.reassert = true) } := by
  unfold Fabric.stop
  cases f.outstanding with
  | none => simp
  | some c => simp [Bool.and_comm]

theorem stopNode_effects (hTables : TablesCanonical s) :
    let t := stopNode s
    t.node = { s.node with state := .configuring, joinTimer := none } ∧
      (∀ d, t.map.own d = if Content.halted = (s.map.own d).content then s.map.own d
        else { content := Content.halted, epoch := (s.map.own d).epoch + 1 }) ∧
      t.map.others = s.map.others ∧ t.map.delays = s.map.delays ∧ t.planner = (stopped s).planner ∧
      SpanEffects s.attn t.planner s t ∧ t.fabric = { s.fabric.stop with cadence := t.fabric.cadence } ∧
      (∀ h, t.record h = { s.record h with exchange := { (s.record h).exchange with timer := none } }) ∧
      t.store = { s.store with records := t.store.records } ∧ t.monEast = s.monEast ∧ t.monWest = s.monWest ∧
      (∀ d, t.lane d = { s.lane d with pendingKeys := (t.lane d).pendingKeys }) ∧
      MarksOwnKeys (fun d => (s.map.own d).content ≠ Content.halted) s t ∧ t.port = s.port ∧ t.pending = s.pending := by
  intro t
  have ht : t = refreshReports (stopped s) := stopNode_eq s
  have hEq := refreshReports_eq (stopped s)
  have hOwn := fun d => own_refreshReports d (stopped s)
  have hMarks := marksOwnKeys_refreshReports (stopped s)
  have hSpans := spanEffects_refreshReports (stopped s)
  rw [← ht] at hEq hOwn hMarks hSpans
  clear_value t
  have hNode : t.node = { s.node with state := .configuring, joinTimer := none } := by rw [hEq]; rfl
  have hPlanner : t.planner = (stopped s).planner := hSpans.planner_of_configuring (by rw [hNode])
  have hRecord : ∀ h, t.record h = (stopConfirmTimers (stopPlanner s)).record h := fun h => by rw [hEq]; rfl
  refine ⟨hNode, hOwn, by rw [hEq]; rfl, by rw [hEq]; rfl, hPlanner, ?_, by rw [hEq]; rfl, fun h => ?_, by rw [hEq]; rfl,
    by rw [hEq]; rfl, by rw [hEq]; rfl, fun d => by rw [hEq]; cases d <;> rfl, ?_, by rw [hEq]; rfl, by rw [hEq]; rfl⟩
  · rw [hPlanner]
    exact hSpans.of_spans rfl rfl
  · rw [hRecord, record_stopConfirmTimers]
    · rfl
    · exact hTables.1
  · exact hMarks.congr (fun e => by cases e <;> rfl) (fun e => by cases e <;> rfl) rfl rfl fun d => ne_comm

/-- Settles O31: the checks pass, and the node stops. -/
theorem stopHoldsPlanAndMap : Obligations.StopHoldsPlanAndMap := fun s tag hAccepts hTables _ hState => by
  have hCarry : carryStop (clearHolder s) = { state := stopNode (clearHolder s), status := .ok, data := [0] } := by
    have hNode : (stopNode (clearHolder s)).node.state = .configuring := by rw [(stopNode_effects (s := clearHolder s) hTables).1]
    rw [carryStop, if_neg (show (clearHolder s).node.state ≠ _ from hState), withNodeState, hNode]
    rfl
  have hExec := exec_carried (carry := carryStop) (i := .stop tag) (tag := tag) (fun _ => rfl) hAccepts hCarry (port_stopNode _)
  obtain ⟨hNode, hOwn, hOthers, hDelays, hPlanner, hSpans, hFabric, hRecord, hStore, hEast, hWest, hLanes, hMarks, -, hPending⟩ :=
    stopNode_effects (s := clearHolder s) hTables
  generalize stopNode (clearHolder s) = t at *
  refine ⟨_, hExec, hNode, fun d => ?_, hOthers, hDelays, hPlanner.trans (stoppedPlanner_eq (clearHolder s)), hSpans,
    hFabric.trans ?_, hRecord, hStore, hEast, hWest, fun d => ?_, hMarks, rfl, hPending⟩
  · have hContent : t.map.own d = if Content.halted = (s.map.own d).content then s.map.own d
        else { content := Content.halted, epoch := (s.map.own d).epoch + 1 } := hOwn d
    show (t.map.own d).content = _ ∧ (t.map.own d).epoch = _
    rw [hContent]
    split
    next hSame => exact ⟨hSame.symm, by rw [if_pos hSame.symm]; exact (BitVec.add_zero _).symm⟩
    next hNew => exact ⟨rfl, by rw [if_neg (Ne.symm hNew)]⟩
  · rw [stoppedFabric_eq]
    rfl
  · have hLane := hLanes d
    cases d <;> exact hLane

end Sys2Proof.Machine
end

section
/-!
PROOFS. The Fabric Driver and the connection statuses, as the statements about Start, the answers and the commit speak of them: the rows
of R122 by `NamesEntry`, the table of R132 by `ConnFollows`, and the driver's choice by `SendsNext`.
-/

namespace Sys2Proof.Machine

variable {s t u : State}

/-! ### What a record names -/

theorem exists_side {p : Side → Prop} : (∃ d, p d) ↔ p .east ∨ p .west :=
  ⟨fun ⟨d, h⟩ => by cases d; exacts [.inl h, .inr h], fun h => h.elim (fun h => ⟨_, h⟩) fun h => ⟨_, h⟩⟩

/-- The rows of R122 for a role, a kind and an outcome, with the entries numbered by the model's definitions. -/
def NamesAs (role : Role) (r : Record) (i : Nat) (v : ConnValue) : Prop :=
  let p := r.plan
  let slot := p.protSlot.getD 0
  let add := ConnValue.localPort (r.port.getD 0)
  let channel := p.kind = .prot ∨ p.kind = .unprot
  match role with
  | .workingTransit => ∃ d,
      (channel ∧ (r.outcome = .working ∨ r.outcome = .detour ∨ r.outcome = .suppressed) ∧ i = workEntry p.workSlot d ∧
          v = .through) ∨
        (p.kind = .extra ∧ r.outcome = .riding ∧ i = protEntry p.workSlot d ∧ v = .through) ∨
        (p.kind = .extra ∧ r.outcome = .preempted ∧ i = protEntry p.workSlot d ∧ v = .void)
  | .detourTransit => ∃ d, p.kind = .prot ∧ r.outcome = .detour ∧ i = protEntry slot d ∧ v = .through
  | e =>
      (channel ∧ r.outcome = .working ∧ i = workEntry p.workSlot (p.workingSide e) ∧ v = add) ∨
        (p.kind = .prot ∧ r.outcome = .detour ∧
          (i = workEntry p.workSlot (p.workingSide e) ∧ v = .void ∨ i = protEntry slot (p.detourSide e) ∧ v = add)) ∨
        (channel ∧ r.outcome = .suppressed ∧ i = workEntry p.workSlot (p.workingSide e) ∧ v = .void) ∨
        (p.kind = .extra ∧ r.outcome = .riding ∧ i = protEntry p.workSlot (p.workingSide e) ∧ v = add) ∨
        (p.kind = .extra ∧ r.outcome = .preempted ∧ i = protEntry p.workSlot (p.workingSide e) ∧ v = .void)

theorem namesEntry_iff_role {n k : Nat} {r : Record} {i : Nat} {v : ConnValue} :
    NamesEntry n k r i v ↔ ∃ role, r.plan.role n k = some role ∧ NamesAs role r i v := by
  constructor
  · rintro (⟨e, he, hRole, hRow⟩ | ⟨d, hRole, hRow⟩ | ⟨d, hRole, hRow⟩)
    · refine ⟨e, hRole, ?_⟩
      rcases he with rfl | rfl <;> exact hRow
    · exact ⟨_, hRole, d, hRow⟩
    · exact ⟨_, hRole, d, hRow⟩
  · rintro ⟨role, hRole, hRow⟩
    cases role with
    | endA => exact .inl ⟨.endA, .inl rfl, hRole, hRow⟩
    | endB => exact .inl ⟨.endB, .inr rfl, hRole, hRow⟩
    | workingTransit =>
      obtain ⟨d, hRow⟩ := hRow
      exact .inr (.inl ⟨d, hRole, hRow⟩)
    | detourTransit =>
      obtain ⟨d, hRow⟩ := hRow
      exact .inr (.inr ⟨d, hRole, hRow⟩)

/-- What a record names is what it writes (R122). -/
theorem namesEntry_iff {n k : Nat} {r : Record} {i : Nat} {v : ConnValue} :
    NamesEntry n k r i v ↔ (i, v) ∈ r.writes n k := by
  rw [namesEntry_iff_role, Record.writes]
  cases hRole : r.plan.role n k with
  | none => simp
  | some role =>
    simp only [Option.some.injEq, exists_eq_left', NamesAs]
    cases role with
    | endA | endB =>
      cases r.plan.kind <;> cases r.outcome <;> simp
    | workingTransit | detourTransit =>
      cases r.plan.kind <;> cases r.outcome <;> simp [exists_side, transitWrites, or_and_right]

/-! ### Connection statuses -/

/-- The statuses of the entries that a record names. -/
def State.namedStatuses (s : State) (h : Nat) : List EntryStatus := (s.writesOf h).map fun w => (s.entry w.1).status

theorem mem_namedStatuses {h : Nat} {st : EntryStatus} : st ∈ s.namedStatuses h ↔
    ∃ i, (∃ v, NamesEntry s.node.ringSize s.node.own (s.record h) i v) ∧ (s.entry i).status = st := by
  simp only [State.namedStatuses, List.mem_map, namesEntry_iff, Prod.exists, State.writesOf]
  constructor
  · rintro ⟨i, v, hMem, hStatus⟩
    exact ⟨i, ⟨v, hMem⟩, hStatus⟩
  · rintro ⟨i, ⟨v, hMem⟩, hStatus⟩
    exact ⟨i, v, hMem, hStatus⟩

/-- The table of R132, by what is among the statuses. -/
theorem connOf_cases (l : List EntryStatus) :
    (l = [] → connOf l = .none) ∧ (.failed ∈ l → connOf l = .fault) ∧
      (.failed ∉ l → .dirty ∈ l ∨ .inFlight ∈ l → connOf l = .applying) ∧
      (l ≠ [] → (∀ st ∈ l, st = .applied) → connOf l = .settled) := by
  have hFailed : l.any (fun st => decide (st = .failed)) = true ↔ .failed ∈ l := by simp
  have hBusy : l.any (fun st => decide (st = .dirty) || decide (st = .inFlight)) = true ↔ .dirty ∈ l ∨ .inFlight ∈ l := by
    simp only [List.any_eq_true, Bool.or_eq_true, decide_eq_true_eq]
    exact ⟨fun ⟨st, hMem, hSt⟩ => hSt.imp (fun h : st = .dirty => h ▸ hMem) (fun h : st = .inFlight => h ▸ hMem),
      fun h => h.elim (fun h => ⟨_, h, .inl rfl⟩) fun h => ⟨_, h, .inr rfl⟩⟩
  have hEmpty : l.isEmpty = true ↔ l = [] := List.isEmpty_iff
  unfold connOf
  refine ⟨fun h => if_pos (hEmpty.2 h), fun h => ?_, fun hNone h => ?_, fun hSome hAll => ?_⟩
  · rw [if_neg (hEmpty.not.2 (List.ne_nil_of_mem h)), if_pos (hFailed.2 h)]
  · rw [if_neg (hEmpty.not.2 (h.elim List.ne_nil_of_mem List.ne_nil_of_mem)), if_neg (hFailed.not.2 hNone), if_pos (hBusy.2 h)]
  · rw [if_neg (hEmpty.not.2 hSome), if_neg (hFailed.not.2 fun h => by cases hAll _ h),
      if_neg (hBusy.not.2 fun h => by rcases h with h | h <;> cases hAll _ h)]

/-- Connection statuses that are as worked out follow the table of R132. -/
theorem connFollows_of (hConn : ∀ h, (t.record h).conn = t.connNow h)
    (hMarks : ∀ h, (t.record h).conn ≠ (s.record h).conn → (t.record h).conn = .fault ∨ (t.record h).conn = .settled →
      h ∈ t.store.changed) : ConnFollows s t := by
  intro h names status c
  obtain ⟨hNone, hFault, hBusy, hSettled⟩ := connOf_cases (t.namedStatuses h)
  have hc : c = connOf (t.namedStatuses h) := hConn h
  have hMem : ∀ st, st ∈ t.namedStatuses h ↔ ∃ i, names i ∧ status i = st := fun st => mem_namedStatuses
  refine ⟨fun hNo => ?_, fun i hi hFailed => ?_, fun i hi hNo hWork => ?_, fun i hi hAll => ?_, hMarks h⟩
  · refine hc.trans (hNone (List.eq_nil_iff_forall_not_mem.2 fun st hSt => ?_))
    obtain ⟨i, hi, -⟩ := (hMem st).1 hSt
    exact hNo i hi
  · exact hc.trans (hFault ((hMem _).2 ⟨i, hi, hFailed⟩))
  · refine hc.trans (hBusy (fun hFailed => ?_) (hWork.imp (fun h => (hMem _).2 ⟨i, hi, h⟩) fun h => (hMem _).2 ⟨i, hi, h⟩))
    obtain ⟨j, hj, hStatus⟩ := (hMem _).1 hFailed
    exact hNo j hj hStatus
  · refine hc.trans (hSettled (List.ne_nil_of_mem ((hMem _).2 ⟨i, hi, rfl⟩)) fun st hSt => ?_)
    obtain ⟨j, hj, hStatus⟩ := (hMem _).1 hSt
    exact hStatus.symm.trans (hAll j hj)

/-- What a record writes is told from its planning fields, its port and its outcome (R122). -/
theorem Record.writes_congr {r q : Record} (n k : Nat) (hPlan : r.plan = q.plan) (hPort : r.port = q.port)
    (hOutcome : r.outcome = q.outcome) : r.writes n k = q.writes n k := by
  rw [Record.writes, Record.writes, hPlan, hPort, hOutcome]

theorem connNow_congr {h : Nat} (hNode : t.node = s.node) (hPlan : (t.record h).plan = (s.record h).plan)
    (hPort : (t.record h).port = (s.record h).port) (hOutcome : (t.record h).outcome = (s.record h).outcome)
    (hEntry : ∀ i, (t.entry i).status = (s.entry i).status) : t.connNow h = s.connNow h := by
  rw [State.connNow, State.connNow, State.writesOf, State.writesOf, hNode, Record.writes_congr _ _ hPlan hPort hOutcome]
  simp only [hEntry]

theorem record_refreshConnOf (h k : Nat) (s : State) :
    (refreshConnOf h s).record k = if k = h then { s.record h with conn := s.connNow h } else s.record k := by
  unfold refreshConnOf
  split
  next hSame =>
    split
    next hk => rw [hk, hSame]
    next => rfl
  next => rw [record_markChangedIf, record_setRec]

theorem mem_changed_markChangedIf (b : Bool) (h k : Nat) (s : State) :
    k ∈ (markChangedIf b h s).store.changed ↔ (k = h ∧ b = true) ∨ k ∈ s.store.changed := by
  unfold markChangedIf
  cases b
  · simp
  · simp [mem_changed_markChanged]

theorem mem_changed_refreshConnOf (h k : Nat) (s : State) :
    k ∈ (refreshConnOf h s).store.changed ↔ k ∈ s.store.changed ∨
      (k = h ∧ s.connNow h ≠ (s.record h).conn ∧ (s.connNow h = .fault ∨ s.connNow h = .settled)) := by
  unfold refreshConnOf
  split
  next hSame => simp [hSame]
  next hNew =>
    rw [mem_changed_markChangedIf, Bool.or_eq_true, decide_eq_true_eq, decide_eq_true_eq, State.setRec]
    tauto

theorem connNow_refreshConnOf (h k : Nat) (s : State) : (refreshConnOf h s).connNow k = s.connNow k := by
  have hStep := dynStep_refreshConnOf (w := (· = h)) rfl s
  refine connNow_congr hStep.node (hStep.plan k) (hStep.recPort k) ?_ fun i => by rw [hStep.entry]
  rw [record_refreshConnOf]
  split
  next hk => rw [hk]
  next => rfl

theorem lane_markChangedIf (b : Bool) (h : Nat) (s : State) (e : Side) : (markChangedIf b h s).lane e = s.lane e := by
  unfold markChangedIf
  split
  · rw [markChanged_eq]; cases e <;> rfl
  · rfl

/-- Working out the connection statuses: the records, the changed set and nothing else but Records Changed (R132). -/
theorem refreshConn_effects (hs : Table.wf Record.free s.store.records = true) :
    (∀ k, (refreshConn s).record k = { s.record k with conn := s.connNow k }) ∧
      (∀ k, k ∈ (refreshConn s).store.changed ↔ k ∈ s.store.changed ∨
        (s.connNow k ≠ (s.record k).conn ∧ (s.connNow k = .fault ∨ s.connNow k = .settled))) ∧
      (∀ e, (refreshConn s).lane e = s.lane e) ∧
      ∀ c, c ≠ .recordsChanged → causeIn (refreshConn s).attn.pending c = causeIn s.attn.pending c := by
  have hRun : ∀ (l : List Nat) (u : State), l.Nodup →
      (∀ k, (forEach l refreshConnOf u).record k = if k ∈ l then { u.record k with conn := u.connNow k } else u.record k) ∧
        (∀ k, k ∈ (forEach l refreshConnOf u).store.changed ↔ k ∈ u.store.changed ∨
          (k ∈ l ∧ u.connNow k ≠ (u.record k).conn ∧ (u.connNow k = .fault ∨ u.connNow k = .settled))) ∧
        (∀ e, (forEach l refreshConnOf u).lane e = u.lane e) ∧
        ∀ c, c ≠ .recordsChanged → causeIn (forEach l refreshConnOf u).attn.pending c = causeIn u.attn.pending c := by
    intro l
    induction l with
    | nil => exact fun u _ => ⟨fun k => by simp [forEach], fun k => by simp [forEach], fun _ => rfl, fun _ _ => rfl⟩
    | cons h l ih =>
      intro u hNodup
      obtain ⟨hNew, hRest⟩ := List.nodup_cons.1 hNodup
      obtain ⟨hRecord, hChanged, hLane, hCause⟩ := ih (refreshConnOf h u) hRest
      refine ⟨fun k => ?_, fun k => ?_, fun e => (hLane e).trans ?_, fun c hc => (hCause c hc).trans ?_⟩
      · rw [forEach_cons, hRecord, connNow_refreshConnOf, record_refreshConnOf]
        by_cases hk : k = h
        · subst hk; simp [hNew]
        · simp [hk]
      · rw [forEach_cons, hChanged, mem_changed_refreshConnOf, connNow_refreshConnOf, record_refreshConnOf]
        by_cases hk : k = h
        · subst hk; simp [hNew]
        · simp [hk]
      · unfold refreshConnOf
        split
        · rfl
        · rw [lane_markChangedIf]; cases e <;> rfl
      · unfold refreshConnOf
        split
        · rfl
        · unfold markChangedIf
          split
          · rw [causeIn_markChanged_of_ne _ _ hc]; rfl
          · rfl
  obtain ⟨hRecord, hChanged, hLane, hCause⟩ := hRun s.handles s (handles_nodup hs)
  have hFree : ∀ k, k ∉ s.handles → s.record k = Record.free := fun k hk => Table.get_of_not_mem _ hk
  have hFreeConn : ∀ k, k ∉ s.handles → s.connNow k = (s.record k).conn := fun k hk => by
    have hNone : s.writesOf k = [] := by
      rw [State.writesOf, hFree k hk, List.eq_nil_iff_forall_not_mem]
      rintro ⟨i, v⟩ hMem
      obtain ⟨role, -, hRow⟩ := namesEntry_iff_role.1 (namesEntry_iff.2 hMem)
      cases role <;> simp [NamesAs, Record.free] at hRow
    rw [State.connNow, hNone, hFree k hk]
    rfl
  refine ⟨fun k => ?_, fun k => ?_, hLane, hCause⟩
  · refine (hRecord k).trans ?_
    split
    · rfl
    next hk => rw [hFreeConn k hk]
  · refine (hChanged k).trans (or_congr_right ⟨fun h => h.2, fun h => ⟨?_, h⟩⟩)
    by_contra hk
    exact h.1 (hFreeConn k hk)

theorem record_dispatch (h : Nat) (s : State) : (dispatch s).record h = s.record h := by
  rw [dispatch_eq]
  rfl

/-- `ConnFollows` speaks of the ring, the records, the entries and the changed set. -/
theorem ConnFollows.congr {s' t' : State} (h : ConnFollows s t) (hConn : ∀ k, (s'.record k).conn = (s.record k).conn)
    (hSize : t'.node.ringSize = t.node.ringSize) (hOwn : t'.node.own = t.node.own) (hRecord : ∀ k, t'.record k = t.record k)
    (hEntry : ∀ i, t'.entry i = t.entry i) (hChanged : ∀ k, k ∈ t.store.changed → k ∈ t'.store.changed) : ConnFollows s' t' := by
  intro k
  have hk := h k
  rw [← hSize, ← hOwn, ← hRecord, ← hConn] at hk
  simp only [← hEntry] at hk
  obtain ⟨hNone, hFault, hBusy, hSettled, hMarks⟩ := hk
  exact ⟨hNone, hFault, hBusy, hSettled, fun hNe hSt => hChanged k (hMarks hNe hSt)⟩

/-- After they are worked out, the connection statuses follow the table of R132. -/
theorem connFollows_refreshConn (hs : Table.wf Record.free u.store.records = true)
    (hBefore : ∀ h, (u.record h).conn = (s.record h).conn ∨ u.connNow h = .none) :
    (∀ h, ((refreshConn u).record h).conn = (refreshConn u).connNow h) ∧ ConnFollows s (refreshConn u) := by
  obtain ⟨hRecord, hChanged, -, -⟩ := refreshConn_effects hs
  have hStep := dynStep_refreshConn u
  have hNow : ∀ h, (refreshConn u).connNow h = u.connNow h := fun h =>
    connNow_congr hStep.node (hStep.plan h) (hStep.recPort h) (by rw [hRecord h]) fun i => by rw [hStep.entry]
  have hConn : ∀ h, ((refreshConn u).record h).conn = u.connNow h := fun h => congrArg Record.conn (hRecord h)
  have hAll : ∀ h, ((refreshConn u).record h).conn = (refreshConn u).connNow h := fun h => (hConn h).trans (hNow h).symm
  refine ⟨hAll, connFollows_of hAll fun h hNe hMarked => ?_⟩
  rw [hConn] at hNe hMarked
  rcases hBefore h with hSame | hNone
  · exact (hChanged h).2 (.inr ⟨fun hEq => hNe (hEq.trans hSame), hMarked⟩)
  · rw [hNone] at hMarked
    exact absurd hMarked (by decide)

/-! ### The driver's choice -/

/-- What is sent is told from the tag counter, the request, the pointer and the frame of the fields, and from the entries. -/
theorem SendsNext.congr {n : NodeState} {f g : Fabric} {e e' : Nat → Entry} {t t' : State} (h : SendsNext n f e t)
    (hTag : g.tagCounter = f.tagCounter) (hPending : g.reassertPending = f.reassertPending) (hPointer : g.pointer = f.pointer)
    (hTx : g.tx = f.tx) (hEntry : ∀ i, e' i = e i) (hOut : t'.fabric.outstanding = t.fabric.outstanding)
    (hTag' : t'.fabric.tagCounter = t.fabric.tagCounter) (hTimer : t'.fabric.responseTimer = t.fabric.responseTimer)
    (hTx' : t'.fabric.tx = t.fabric.tx) (hEntries : t'.fabric.entries = t.fabric.entries) : SendsNext n g e' t' := by
  obtain rfl : e' = e := funext hEntry
  have hSame : ∀ i, t'.entry i = t.entry i := entry_of_entries hEntries
  unfold SendsNext
  simp only [hTag, hPending, hPointer, hTx, hOut, hTag', hTimer, hTx', hSame]
  exact h

/-- With no command outstanding the driver sends what `SendsNext` says (R125, R126, R134, R135). -/
theorem sendsNext_dispatch (hEntries : Table.wf Entry.untouched s.fabric.entries = true)
    (hFree : s.fabric.outstanding = none) (hTimer : s.fabric.responseTimer = none) :
    SendsNext s.node.state s.fabric s.entry (dispatch s) := by
  by_cases hConf : s.node.state = .configuring
  · rw [dispatch, if_pos (.inr hConf)]
    exact ⟨fun h => absurd hConf h, fun h => absurd (hConf.symm.trans h) (by decide), fun _ => ⟨hFree, rfl, hTimer, rfl, fun _ => rfl⟩⟩
  · rw [dispatch, if_neg (by rintro (h | h); exacts [h hFree, hConf h])]
    cases hChosen : s.chooseDirty with
    | some i =>
      have hNext := nextDirty_of_chooseDirty hEntries hChosen
      have hNotClean : ¬ ∀ j, (s.entry j).status ≠ .dirty := fun h => h i hNext.1
      refine ⟨fun _ j hj => ?_, fun _ _ h => absurd h hNotClean, fun h => h.elim (absurd · hConf) fun h => absurd h.1 hNotClean⟩
      obtain rfl := nextDirty_unique hNext hj
      exact ⟨⟨rfl, rfl, rfl, rfl⟩, fun j => entry_sendDirty i j s⟩
    | none =>
      have hClean := (chooseDirty_none hEntries).1 hChosen
      refine ⟨fun _ i hNext => absurd hNext.1 (hClean i), fun hRunning hPending _ => ?_, fun h => ?_⟩
      · dsimp only
        rw [if_pos ⟨hRunning, hPending⟩]
        exact ⟨⟨rfl, rfl, rfl, rfl⟩, fun _ => rfl⟩
      · dsimp only
        rw [if_neg (h.resolve_left hConf).2]
        exact ⟨hFree, rfl, hTimer, rfl, fun _ => rfl⟩

end Sys2Proof.Machine
end

section
/-!
PROOFS. One operation of the Confirmation Unit for each record, in ascending handle order, as entry to Joining, the answers and the
commit make it: what it writes of the exchanges and the changed set, and which attempts join the queues.
-/

namespace Sys2Proof.Machine

variable {s t u v : State}

/-! ### The queue of a lane -/

/-- The queue of a lane after confirms were given to it (R69). -/
def Lane.queued (l : Lane) (ps : List PathConfirm) : List PathConfirm :=
  if l.adjacency = .up then l.queue ++ ps.take (16 - l.queue.length) else l.queue

theorem Lane.queued_nil (l : Lane) : l.queued [] = l.queue := by
  unfold Lane.queued
  split <;> simp

theorem Lane.queued_append (l : Lane) (ps qs : List PathConfirm) :
    ({ l with queue := l.queued ps } : Lane).queued qs = l.queued (ps ++ qs) := by
  unfold Lane.queued
  dsimp only
  split
  · rw [List.take_append, List.length_append, List.length_take, List.append_assoc]
    congr 3
    omega
  · rfl

theorem lane_giveConfirm (d e : Side) (p : PathConfirm) (s : State) :
    (giveConfirm d p s).lane e = { s.lane e with queue := (s.lane e).queued (if e = d then [p] else []) } := by
  rw [giveConfirm_eq]
  obtain rfl | rfl := Side.eq_or_eq_other e d
  · rw [State.lane_setLane, if_pos rfl, Lane.queued]
    by_cases hUp : (s.lane e).adjacency = .up
    · by_cases hFits : (s.lane e).queue.length < 16
      · obtain ⟨n, hn⟩ : ∃ n, 16 - (s.lane e).queue.length = n + 1 := ⟨15 - (s.lane e).queue.length, by omega⟩
        simp [hUp, hFits, hn]
      · have hFull : 16 - (s.lane e).queue.length = 0 := by omega
        simp [hUp, hFits, hFull]
    · simp [hUp]
  · rw [State.lane_setLane_other, if_neg (by cases d <;> decide), Lane.queued_nil]

/-! ### One record -/

/-- An operation of the Confirmation Unit on the exchange of one record: the exchange it leaves, and the confirms it gives to each
lane (R139, R142). -/
structure ExchangeStep (h : Nat) (x : Exchange) (sent : Side → List PathConfirm) (u v : State) : Prop where
  record : ∀ k, v.record k = if k = h then { u.record h with exchange := x } else u.record k
  kept : ∀ k, k ∈ u.store.changed → k ∈ v.store.changed
  marks : x.state ≠ (u.record h).exchange.state → h ∈ v.store.changed
  only : ∀ k, k ∈ v.store.changed → k ∈ u.store.changed ∨ k = h
  lanes : ∀ e, v.lane e = { u.lane e with queue := (u.lane e).queued (sent e) }
  frame : v = { u with
    store := { u.store with records := v.store.records, changed := v.store.changed },
    laneEast := v.laneEast, laneWest := v.laneWest, attn := v.attn }
  causes : ∀ c, c ≠ .recordsChanged → causeIn v.attn.pending c = causeIn u.attn.pending c

theorem exchangeStep_same (h : Nat) (u : State) : ExchangeStep h (u.record h).exchange (fun _ => []) u u where
  record k := by split <;> simp_all
  kept _ := id
  marks hNe := absurd rfl hNe
  only _ := .inl
  lanes e := by rw [Lane.queued_nil]
  frame := rfl
  causes _ _ := rfl

theorem exchangeStep_setExchange (h : Nat) (x : Exchange) (u : State) : ExchangeStep h x (fun _ => []) u (setExchange h x u) where
  record k := record_setExchange h k x u
  kept k hk := (mem_changed_setExchange _ _ _ _).2 (.inr hk)
  marks hNe := (mem_changed_setExchange _ _ _ _).2 (.inl ⟨rfl, hNe⟩)
  only k hk := ((mem_changed_setExchange _ _ _ _).1 hk).symm.imp_right And.left
  lanes e := by rw [lane_setExchange, Lane.queued_nil]
  frame := by rw [setExchange_frame]
  causes c hc := causeIn_setExchange_of_ne h x u hc

theorem ExchangeStep.trans {h : Nat} {x y : Exchange} {p q : Side → List PathConfirm} {w : State} (hFirst : ExchangeStep h x p u v)
    (hThen : ExchangeStep h y q v w) : ExchangeStep h y (fun e => p e ++ q e) u w where
  record k := by
    rw [hThen.record, hFirst.record, hFirst.record, if_pos rfl]
    split <;> rfl
  kept k hk := hThen.kept k (hFirst.kept k hk)
  marks hNe := by
    by_cases hx : x.state = (u.record h).exchange.state
    · refine hThen.marks ?_
      rw [hFirst.record, if_pos rfl]
      exact fun hy => hNe (hy.trans hx)
    · exact hThen.kept h (hFirst.marks hx)
  only k hk := (hThen.only k hk).elim (hFirst.only k) .inr
  lanes e := by rw [hThen.lanes, hFirst.lanes, Lane.queued_append]
  frame := by rw [hThen.frame, hFirst.frame]
  causes c hc := (hThen.causes c hc).trans (hFirst.causes c hc)

theorem exchangeStep_sendConfirm (h : Nat) (r : Role) (heard : Bool) (u : State) :
    ExchangeStep h (u.record h).exchange
      (fun e => if e = (u.record h).plan.detourSide r then [u.confirmFor h r heard] else []) u (sendConfirm h r heard u) where
  record k := by
    rw [record_sendConfirm]
    split <;> simp_all
  kept k := by rw [sendConfirm, giveConfirm_eq, State.setLane_store]; exact id
  marks hNe := absurd rfl hNe
  only k := by rw [sendConfirm, giveConfirm_eq, State.setLane_store]; exact .inl
  lanes e := lane_giveConfirm _ _ _ _
  frame := by
    rw [sendConfirm, giveConfirm_eq]
    generalize (u.record h).plan.detourSide r = d
    cases d <;> rfl
  causes c _ := by rw [sendConfirm, giveConfirm_eq, State.setLane_attn]

/-! ### Each record of a list -/

/-- An operation of the Confirmation Unit for each record of a list. -/
structure ExchangeRun (l : List Nat) (x : Nat → Exchange) (sent : Nat → Side → List PathConfirm) (s t : State) : Prop where
  record : ∀ k, t.record k = if k ∈ l then { s.record k with exchange := x k } else s.record k
  kept : ∀ k, k ∈ s.store.changed → k ∈ t.store.changed
  marks : ∀ k ∈ l, (x k).state ≠ (s.record k).exchange.state → k ∈ t.store.changed
  only : ∀ k, k ∈ t.store.changed → k ∈ s.store.changed ∨ k ∈ l
  lanes : ∀ e, t.lane e = { s.lane e with queue := (s.lane e).queued (l.flatMap fun h => sent h e) }
  frame : t = { s with
    store := { s.store with records := t.store.records, changed := t.store.changed },
    laneEast := t.laneEast, laneWest := t.laneWest, attn := t.attn }
  causes : ∀ c, c ≠ .recordsChanged → causeIn t.attn.pending c = causeIn s.attn.pending c

/-- What an operation does to one record is told from that record, the node and the fabric, which the others leave alone. -/
theorem exchangeRun_forEach {f : Nat → State → State} {x : Nat → Exchange} {sent : Nat → Side → List PathConfirm} {l : List Nat}
    (hNodup : l.Nodup) (hStep : ∀ h ∈ l, ∀ u : State, u.record h = s.record h → u.node = s.node → u.fabric = s.fabric →
      ExchangeStep h (x h) (sent h) u (f h u)) : ExchangeRun l x sent s (forEach l f s) := by
  induction l generalizing s with
  | nil => exact ⟨fun _ => by simp [forEach], fun _ => id, fun _ h => by simp at h, fun _ => .inl,
      fun e => by rw [List.flatMap_nil, Lane.queued_nil]; rfl, rfl, fun _ _ => rfl⟩
  | cons h l ih =>
    obtain ⟨hNew, hRest⟩ := List.nodup_cons.1 hNodup
    have hFirst := hStep h (by simp) s rfl rfl rfl
    have hNode : (f h s).node = s.node := by rw [hFirst.frame]
    have hFabric : (f h s).fabric = s.fabric := by rw [hFirst.frame]
    have hOther : ∀ k ∈ l, (f h s).record k = s.record k := fun k hk => by
      rw [hFirst.record, if_neg]
      rintro rfl
      exact hNew hk
    have hThen := ih hRest (s := f h s) fun k hk u hRecord hSame hSameFabric =>
      hStep k (List.mem_cons_of_mem _ hk) u (hRecord.trans (hOther k hk)) (hSame.trans hNode) (hSameFabric.trans hFabric)
    rw [forEach_cons]
    refine ⟨fun k => ?_, fun k hk => hThen.kept k (hFirst.kept k hk), fun k hk hNe => ?_, fun k hk => ?_, fun e => ?_, ?_,
      fun c hc => (hThen.causes c hc).trans (hFirst.causes c hc)⟩
    · rw [hThen.record, hFirst.record]
      by_cases hk : k = h
      · subst hk; simp [hNew]
      · simp [hk]
    · rcases List.mem_cons.1 hk with rfl | hk
      · exact hThen.kept k (hFirst.marks hNe)
      · exact hThen.marks k hk (by rwa [hOther k hk])
    · rcases hThen.only k hk with hOld | hk
      · exact (hFirst.only k hOld).imp_right fun hEq => by simp [hEq]
      · exact .inr (List.mem_cons_of_mem _ hk)
    · rw [hThen.lanes, hFirst.lanes, Lane.queued_append, List.flatMap_cons]
    · rw [hThen.frame, hFirst.frame]

/-- The attempts of the records that enter join the queues as `QueueAttempts` says, in the order of the list (R142). -/
theorem queueAttempts_of {l : List Nat} {enters : Nat → Role → Prop} {heard : Nat → Bool} {sent : Nat → Side → List PathConfirm}
    (hRising : l.Pairwise (· < ·)) (hListed : ∀ h r, enters h r → h ∈ l) (hRole : ∀ h r, enters h r → s.endRole h = some r)
    (hSent : ∀ h ∈ l, ∀ r, enters h r → ∀ e,
      sent h e = if e = (s.record h).plan.detourSide r then [s.attemptOf h r (heard h)] else [])
    (hQuiet : ∀ h ∈ l, (∀ r, ¬ enters h r) → ∀ e, sent h e = [])
    (hQueue : ∀ e, (t.lane e).queue = (s.lane e).queued (l.flatMap fun h => sent h e)) : QueueAttempts enters heard s t := by
  classical
  intro e
  let sends : Nat → Prop := fun h => ∃ r, enters h r ∧ (s.record h).plan.detourSide r = e
  refine ⟨l.filter sends, (rising_iff _).2 (hRising.sublist List.filter_sublist), fun h => ?_, ?_⟩
  · rw [List.mem_filter, decide_eq_true_eq]
    exact ⟨fun hMem => hMem.2, fun ⟨r, hEnters, hSide⟩ => ⟨hListed h r hEnters, r, hEnters, hSide⟩⟩
  · have hMap : ∀ m : List Nat, (∀ h ∈ m, h ∈ l) → (m.flatMap fun h => sent h e) =
        (m.filter sends).map fun h => s.attemptOf h ((s.endRole h).getD .endA) (heard h) := by
      intro m
      induction m with
      | nil => exact fun _ => rfl
      | cons h m ih =>
        intro hSub
        have hh : h ∈ l := hSub h (by simp)
        rw [List.flatMap_cons, ih fun k hk => hSub k (List.mem_cons_of_mem _ hk)]
        by_cases hSends : sends h
        · obtain ⟨r, hEnters, hSide⟩ := id hSends
          rw [hSent h hh r hEnters, if_pos hSide.symm, List.filter_cons_of_pos (by simpa using hSends), List.map_cons,
            hRole h r hEnters]
          rfl
        · have hNone : sent h e = [] := by
            by_cases hEnters : ∃ r, enters h r
            · obtain ⟨r, hr⟩ := hEnters
              rw [hSent h hh r hr, if_neg fun hSide => hSends ⟨r, hr, hSide.symm⟩]
            · exact hQuiet h hh (fun r hr => hEnters ⟨r, hr⟩) e
          rw [hNone, List.filter_cons_of_neg (by simpa using hSends), List.nil_append]
    rw [hQueue, hMap l fun _ => id]
    rfl

/-! ### The test of a local connection -/

/-- This end's role for a record whose test of the local connection starts its exchange (R140). -/
def State.tested (s : State) (h : Nat) : Option Role :=
  (s.endRole h).filter fun r =>
    decide (s.node.state ≠ .configuring) && decide ((s.record h).exchange.state = .pending) && s.localApplied h r

theorem localApplied_iff {h : Nat} {r : Role} : s.localApplied h r = true ↔ s.LocalApplied h r := by
  unfold State.localApplied State.LocalApplied
  cases (s.record h).port <;> simp

theorem tested_eq_some {h : Nat} {r : Role} : s.tested h = some r ↔
    s.endRole h = some r ∧ s.node.state ≠ .configuring ∧ (s.record h).exchange.state = .pending ∧ s.LocalApplied h r := by
  rw [State.tested, Option.filter_eq_some_iff, Bool.and_eq_true, Bool.and_eq_true, decide_eq_true_eq, decide_eq_true_eq,
    localApplied_iff, and_assoc]

/-- An exchange whose sending begins with attempt 1 (R141, R146). -/
def Exchange.started (x : Exchange) (time : Nat) : Exchange :=
  { x with
    state := if x.heardTheirs then .restored else .awaiting, attempts := 1, sending := true, timer := some time }

/-- The exchange of a record after its test. -/
def State.testedExchange (s : State) (h : Nat) : Exchange :=
  match s.tested h with
  | some _ => (s.record h).exchange.started s.confirmTime
  | none => (s.record h).exchange

/-- What a record sends on a lane at its test. -/
def State.testedConfirm (s : State) (h : Nat) (e : Side) : List PathConfirm :=
  match s.tested h with
  | some r => if e = (s.record h).plan.detourSide r then [s.confirmFor h r (s.record h).exchange.heardTheirs] else []
  | none => []

theorem testLocal_eq (h : Nat) (s : State) : testLocal h s = match s.tested h with
    | some r => enterAwaiting h r s
    | none => s := by
  unfold testLocal State.tested
  cases s.endRole h with
  | none => rfl
  | some r =>
    dsimp only [Option.filter]
    by_cases hTest : s.node.state ≠ .configuring ∧ (s.record h).exchange.state = .pending ∧ s.localApplied h r = true
    · obtain ⟨hState, hPending, hApplied⟩ := id hTest
      rw [if_pos hTest, if_pos (by simp [hState, hPending, hApplied])]
    · rw [if_neg hTest, if_neg (by simpa [and_assoc] using hTest)]

theorem exchangeStep_testLocal (h : Nat) (u : State) :
    ExchangeStep h (u.testedExchange h) (u.testedConfirm h) u (testLocal h u) := by
  have hTest := testLocal_eq h u
  rw [hTest]
  unfold State.testedExchange State.testedConfirm
  cases u.tested h with
  | none => exact exchangeStep_same h u
  | some r =>
    have hSteps := (exchangeStep_sendConfirm h r (u.record h).exchange.heardTheirs u).trans
      (exchangeStep_setExchange h ((u.record h).exchange.started u.confirmTime) _)
    simp only [List.append_nil] at hSteps
    exact hSteps

/-- The test is told from the record, the node and the fabric. -/
theorem tested_congr {h : Nat} (hRecord : u.record h = s.record h) (hNode : u.node = s.node) (hFabric : u.fabric = s.fabric) :
    u.tested h = s.tested h ∧ u.testedExchange h = s.testedExchange h ∧ u.testedConfirm h = s.testedConfirm h := by
  have hTested : u.tested h = s.tested h := by
    unfold State.tested State.endRole State.localApplied State.entry
    rw [hRecord, hNode, hFabric]
  refine ⟨hTested, ?_, funext fun e => ?_⟩
  · unfold State.testedExchange State.confirmTime
    rw [hTested, hRecord, hNode]
  · unfold State.testedConfirm State.confirmFor
    rw [hTested, hRecord, hNode]

theorem handles_pairwise (hs : Table.wf Record.free s.store.records = true) : s.handles.Pairwise (· < ·) :=
  ((Table.wf_iff _ _).1 hs).1

end Sys2Proof.Machine
end

section
/-!
PROOFS. Start and entry to Joining (O30).
-/

namespace Sys2Proof.Machine

variable {s t u v : State}

/-! ### The records on entry to Joining -/

/-- The exchange of a record on entry to Joining (R151). -/
def State.resumedExchange (s : State) (h : Nat) : Exchange :=
  if (s.record h).exchange.sending then { (s.record h).exchange with timer := some s.confirmTime } else s.testedExchange h

/-- What a record sends on a lane on entry to Joining (R151). -/
def State.resumedConfirm (s : State) (h : Nat) (e : Side) : List PathConfirm :=
  if (s.record h).exchange.sending then [] else s.testedConfirm h e

theorem exchangeStep_resumeExchange (h : Nat) (u : State) :
    ExchangeStep h (u.resumedExchange h) (u.resumedConfirm h) u (resumeExchange h u) := by
  unfold resumeExchange State.resumedExchange
  have hConfirm : u.resumedConfirm h = if (u.record h).exchange.sending then fun _ => [] else u.testedConfirm h :=
    funext fun e => by unfold State.resumedConfirm; split <;> rfl
  rw [hConfirm]
  by_cases hSending : (u.record h).exchange.sending = true
  · simp only [if_pos hSending]
    exact exchangeStep_setExchange h _ u
  · simp only [if_neg hSending]
    exact exchangeStep_testLocal h u

theorem resumed_congr {h : Nat} (hRecord : u.record h = s.record h) (hNode : u.node = s.node) (hFabric : u.fabric = s.fabric) :
    u.resumedExchange h = s.resumedExchange h ∧ u.resumedConfirm h = s.resumedConfirm h := by
  obtain ⟨-, hExchange, hConfirm⟩ := tested_congr hRecord hNode hFabric
  unfold State.resumedExchange State.confirmTime
  refine ⟨by rw [hRecord, hNode, hExchange], funext fun e => ?_⟩
  unfold State.resumedConfirm
  rw [hRecord, hConfirm]

/-- A record that was resumed stays as it is when it is resumed again. -/
theorem resumedExchange_again (h : Nat) (u : State) :
    (resumeExchange h u).resumedExchange h = u.resumedExchange h := by
  have hStep := exchangeStep_resumeExchange h u
  have hMine : (resumeExchange h u).record h = { u.record h with exchange := u.resumedExchange h } := by
    rw [hStep.record, if_pos rfl]
  have hNode : (resumeExchange h u).node = u.node := by rw [hStep.frame]
  have hFabric : (resumeExchange h u).fabric = u.fabric := by rw [hStep.frame]
  have hTime : (resumeExchange h u).confirmTime = u.confirmTime := by rw [State.confirmTime, hNode, State.confirmTime]
  by_cases hSending : (u.record h).exchange.sending = true
  · have hResumed : u.resumedExchange h = { (u.record h).exchange with timer := some u.confirmTime } := if_pos hSending
    have hStill : ((resumeExchange h u).record h).exchange.sending = true := by rw [hMine, hResumed]; exact hSending
    rw [State.resumedExchange, if_pos hStill, hMine, hResumed, hTime]
  · have hResumed : u.resumedExchange h = u.testedExchange h := if_neg hSending
    cases hTested : u.tested h with
    | none =>
      have hSame : u.resumedExchange h = (u.record h).exchange := by rw [hResumed, State.testedExchange, hTested]
      have hRecord : (resumeExchange h u).record h = u.record h := by rw [hMine, hSame]
      exact (resumed_congr hRecord hNode hFabric).1
    | some r =>
      have hStarted : u.resumedExchange h = (u.record h).exchange.started u.confirmTime := by
        rw [hResumed, State.testedExchange, hTested]
      have hNow : ((resumeExchange h u).record h).exchange.sending = true := by rw [hMine, hStarted]; rfl
      rw [State.resumedExchange, if_pos hNow, hMine, hStarted, hTime]
      rfl

/-- Every record, and the marks, after entry to Joining (R139, R151). -/
theorem record_resumeExchanges (s : State) (k : Nat) :
    (resumeExchanges s).record k = { s.record k with exchange := s.resumedExchange k } ∧
      ((s.resumedExchange k).state ≠ (s.record k).exchange.state → k ∈ (resumeExchanges s).store.changed) := by
  have hRun : ∀ (l : List Nat) (u : State),
      (∀ j, j ∈ u.store.changed → j ∈ (forEach l resumeExchange u).store.changed) ∧
      (k ∈ l → (forEach l resumeExchange u).record k = { u.record k with exchange := u.resumedExchange k } ∧
        ((u.resumedExchange k).state ≠ (u.record k).exchange.state → k ∈ (forEach l resumeExchange u).store.changed)) ∧
      (k ∉ l → (forEach l resumeExchange u).record k = u.record k) := by
    intro l
    induction l with
    | nil => exact fun u => ⟨fun _ => id, fun h => by simp at h, fun _ => rfl⟩
    | cons h l ih =>
      intro u
      have hStep := exchangeStep_resumeExchange h u
      have hNode : (resumeExchange h u).node = u.node := by rw [hStep.frame]
      have hFabric : (resumeExchange h u).fabric = u.fabric := by rw [hStep.frame]
      obtain ⟨hKept, hIn, hOut⟩ := ih (resumeExchange h u)
      rw [forEach_cons]
      refine ⟨fun j hj => hKept j (hStep.kept j hj), fun _ => ?_, fun hk => ?_⟩
      · by_cases hk : k = h
        · subst hk
          refine ⟨?_, fun hNe => hKept k (hStep.marks hNe)⟩
          by_cases hLater : k ∈ l
          · rw [(hIn hLater).1, resumedExchange_again, hStep.record, if_pos rfl]
          · rw [hOut hLater, hStep.record, if_pos rfl]
        · have hSame : (resumeExchange h u).record k = u.record k := by rw [hStep.record, if_neg hk]
          have hLater : k ∈ l := by simp_all
          obtain ⟨hx, hMarks⟩ := hIn hLater
          rw [(resumed_congr hSame hNode hFabric).1] at hx hMarks
          rw [hSame] at hx
          exact ⟨hx, fun hNe => hMarks (by rwa [hSame])⟩
      · obtain ⟨hNe, hRest⟩ := not_or.1 (mt List.mem_cons.2 hk)
        rw [hOut hRest, hStep.record, if_neg hNe]
  obtain ⟨-, hIn, hOut⟩ := hRun s.handles s
  by_cases hk : k ∈ s.handles
  · exact hIn hk
  · have hFree : s.record k = Record.free := Table.get_of_not_mem _ hk
    have hSame : s.resumedExchange k = (s.record k).exchange := by
      have hNot : s.tested k = none := by
        rw [Option.eq_none_iff_forall_ne_some]
        intro r hr
        have hPending := (tested_eq_some.1 hr).2.2.1
        rw [hFree] at hPending
        cases hPending
      rw [State.resumedExchange, State.testedExchange, hNot, hFree]
      rfl
    exact ⟨by rw [hSame]; exact hOut hk, fun hNe => absurd (congrArg Exchange.state hSame) hNe⟩

/-! ### Entry to Joining -/

theorem record_refreshConn (s : State) (k : Nat) :
    (refreshConn s).record k = { s.record k with conn := ((refreshConn s).record k).conn } := by
  have hRun : ∀ (l : List Nat) (u : State), (forEach l refreshConnOf u).record k =
      { u.record k with conn := ((forEach l refreshConnOf u).record k).conn } := by
    intro l
    induction l with
    | nil => exact fun _ => rfl
    | cons h l ih =>
      intro u
      rw [forEach_cons, ih, record_refreshConnOf]
      split
      next hk => rw [hk]
      next => rfl
  exact hRun s.handles s

theorem changed_refreshConn_kept {k : Nat} (hk : k ∈ s.store.changed) : k ∈ (refreshConn s).store.changed := by
  have hRun : ∀ (l : List Nat) (u : State), k ∈ u.store.changed → k ∈ (forEach l refreshConnOf u).store.changed := by
    intro l
    induction l with
    | nil => exact fun _ => id
    | cons h l ih => exact fun u hu => ih _ ((mem_changed_refreshConnOf h k u).2 (.inl hu))
  exact hRun s.handles s hk

/-- A test of the join condition writes the node and the Planner. -/
theorem joinCheck_eq (s : State) : joinCheck s = { s with node := (joinCheck s).node, planner := (joinCheck s).planner } := by
  unfold joinCheck
  split <;> rfl

/-- The node on entry to Joining, before what it sets off (R32). -/
def joined (s : State) : State :=
  { s with
    node := { s.node with state := .joining, joinTimer := some Config.joinTime },
    fabric := { s.fabric with resyncDone := false } }

/-- The node after what entry to Joining sets off, before the join condition is tested. -/
def resumed (s : State) : State := refreshConn (dispatch (resumeExchanges (joined s)))

theorem enterJoining_eq (s : State) : enterJoining s = joinCheck (resumed s) := rfl

/-- What entry to Joining sets off writes run-time fields of records, queues, and what the driver sends. -/
theorem resumed_frame (s : State) :
    resumed s = { joined s with
      store := { s.store with records := (resumed s).store.records, changed := (resumed s).store.changed },
      laneEast := { s.laneEast with queue := (resumed s).laneEast.queue },
      laneWest := { s.laneWest with queue := (resumed s).laneWest.queue }, attn := (resumed s).attn,
      fabric := { (joined s).fabric with
        entries := (resumed s).fabric.entries, outstanding := (resumed s).fabric.outstanding,
        responseTimer := (resumed s).fabric.responseTimer, tagCounter := (resumed s).fabric.tagCounter,
        tx := (resumed s).fabric.tx } } := by
  have hResume := (dynStep_resumeExchanges (joined s)).frame
  have hDispatch := dispatch_eq (resumeExchanges (joined s))
  have hConn := (dynStep_refreshConn (dispatch (resumeExchanges (joined s)))).frame
  have hResumed : resumed s = refreshConn (dispatch (resumeExchanges (joined s))) := rfl
  generalize resumed s = t at *
  rw [← hResumed] at hConn
  generalize dispatch (resumeExchanges (joined s)) = w at *
  generalize resumeExchanges (joined s) = v at *
  rw [hConn, hDispatch, hResume]
  rfl

/-- The records and the marks on entry to Joining (R139, R151). -/
theorem record_resumed (s : State) (h : Nat) :
    (resumed s).record h = { s.record h with
      conn := ((resumed s).record h).conn, exchange := (joined s).resumedExchange h } ∧
      (((joined s).resumedExchange h).state ≠ (s.record h).exchange.state → h ∈ (resumed s).store.changed) := by
  obtain ⟨hRecord, hMarks⟩ := record_resumeExchanges (joined s) h
  have hDispatch := record_dispatch h (resumeExchanges (joined s))
  refine ⟨?_, fun hNe => changed_refreshConn_kept ?_⟩
  · refine (record_refreshConn _ h).trans ?_
    rw [hDispatch, hRecord]
    rfl
  · rw [dispatch_eq]
    exact hMarks hNe

/-- This end's role and the local connection are told from the record, the ring and the entries. -/
theorem resumesPending_iff {h : Nat} {r : Role} :
    ResumesPending s h r ↔ (s.record h).exchange.sending = false ∧ (joined s).tested h = some r := by
  rw [tested_eq_some]
  have hState : (joined s).node.state ≠ .configuring := fun h => by cases h
  constructor
  · rintro ⟨hRole, hSending, hPending, hApplied⟩
    exact ⟨hSending, hRole, hState, hPending, hApplied⟩
  · rintro ⟨hSending, hRole, -, hPending, hApplied⟩
    exact ⟨hRole, hSending, hPending, hApplied⟩

theorem resumedExchange_joined (s : State) (h : Nat) :
    ((s.record h).exchange.sending = true → (joined s).resumedExchange h =
      { (s.record h).exchange with timer := some (s.node.confirmInterval * 1000) }) ∧
    (∀ r, ResumesPending s h r → (joined s).resumedExchange h =
      (s.record h).exchange.started (s.node.confirmInterval * 1000)) ∧
    ((s.record h).exchange.sending = false → (∀ r, ¬ ResumesPending s h r) →
      (joined s).resumedExchange h = (s.record h).exchange) := by
  refine ⟨fun hSending => if_pos hSending, fun r hResumes => ?_, fun hSending hNone => ?_⟩
  · obtain ⟨hSending, hTested⟩ := resumesPending_iff.1 hResumes
    refine (if_neg (show ¬ (s.record h).exchange.sending = true by simp [hSending])).trans ?_
    rw [State.testedExchange, hTested]
    rfl
  · refine (if_neg (show ¬ (s.record h).exchange.sending = true by simp [hSending])).trans ?_
    have hNot : (joined s).tested h = none :=
      Option.eq_none_iff_forall_ne_some.2 fun r hr => hNone r (resumesPending_iff.2 ⟨hSending, hr⟩)
    rw [State.testedExchange, hNot]
    rfl

/-- The exchanges as one run over the handles, where the table is canonical. -/
theorem exchangeRun_resumeExchanges (hs : Table.wf Record.free s.store.records = true) :
    ExchangeRun s.handles s.resumedExchange s.resumedConfirm s (resumeExchanges s) :=
  exchangeRun_forEach (handles_nodup hs) fun h _ u hRecord hNode hFabric => by
    obtain ⟨hExchange, hConfirm⟩ := resumed_congr hRecord hNode hFabric
    rw [← hExchange, ← hConfirm]
    exact exchangeStep_resumeExchange h u

theorem queueAttempts_resumed (hs : Table.wf Record.free s.store.records = true) :
    QueueAttempts (ResumesPending s) (fun h => (s.record h).exchange.heardTheirs) s (resumed s) := by
  have hRun := exchangeRun_resumeExchanges (s := joined s) hs
  have hLane : ∀ e, (resumed s).lane e = (resumeExchanges (joined s)).lane e := fun e => by
    have hWf : Table.wf Record.free (dispatch (resumeExchanges (joined s))).store.records = true := by
      rw [dispatch_eq]
      exact (dynStep_resumeExchanges (joined s)).canonical hs
    obtain ⟨-, -, hLane, -⟩ := refreshConn_effects hWf
    refine (hLane e).trans ?_
    rw [dispatch_eq]
    cases e <;> rfl
  refine queueAttempts_of (l := s.handles) (sent := (joined s).resumedConfirm) (handles_pairwise hs) (fun h r hResumes => ?_)
    (fun h r hResumes => hResumes.1) (fun h _ r hResumes e => ?_) (fun h _ hNone e => ?_) fun e => ?_
  · by_contra hk
    have hFree : s.record h = Record.free := Table.get_of_not_mem _ hk
    have hPending := hResumes.2.2.1
    rw [hFree] at hPending
    cases hPending
  · obtain ⟨hSending, hTested⟩ := resumesPending_iff.1 hResumes
    refine (if_neg (show ¬ (s.record h).exchange.sending = true by simp [hSending])).trans ?_
    rw [State.testedConfirm, hTested]
    rfl
  · unfold State.resumedConfirm
    split
    · rfl
    next hSending =>
      have hNot : (joined s).tested h = none := Option.eq_none_iff_forall_ne_some.2 fun r hr =>
        hNone r (resumesPending_iff.2 ⟨Bool.eq_false_iff.2 hSending, hr⟩)
      rw [State.testedConfirm, hNot]
  · have hQueue : ((resumed s).lane e).queue = ((joined s).lane e).queued
        (s.handles.flatMap fun h => (joined s).resumedConfirm h e) := by rw [hLane, hRun.lanes]; rfl
    cases e <;> exact hQueue

theorem connFollows_resumed (hs : Table.wf Record.free s.store.records = true) : ConnFollows s (resumed s) := by
  have hWf : Table.wf Record.free (dispatch (resumeExchanges (joined s))).store.records = true := by
    rw [dispatch_eq]
    exact (dynStep_resumeExchanges (joined s)).canonical hs
  refine (connFollows_refreshConn hWf fun h => .inl ?_).2
  rw [record_dispatch]
  have hSame := congrArg Record.conn (record_resumeExchanges (joined s) h).1
  exact hSame

theorem sendsNext_resumed (hEntries : Table.wf Entry.untouched s.fabric.entries = true)
    (hFree : s.fabric.outstanding = none) (hTimer : s.fabric.responseTimer = none) :
    SendsNext .joining s.fabric s.entry (resumed s) := by
  have hResume := dynStep_resumeExchanges (joined s)
  have hFabric := hResume.fabric
  have hNode := hResume.node
  have hEntry := hResume.entry
  have hSends := sendsNext_dispatch (s := resumeExchanges (joined s)) (by rw [hFabric]; exact hEntries)
    (by rw [hFabric]; exact hFree) (by rw [hFabric]; exact hTimer)
  have hConn := (dynStep_refreshConn (dispatch (resumeExchanges (joined s)))).fabric
  rw [hNode] at hSends
  have hSame : (resumed s).fabric = (dispatch (resumeExchanges (joined s))).fabric := hConn
  exact hSends.congr (by rw [hFabric]; rfl) (by rw [hFabric]; rfl) (by rw [hFabric]; rfl) (by rw [hFabric]; rfl)
    (fun i => (hEntry i).symm) (by rw [hSame]) (by rw [hSame]) (by rw [hSame]) (by rw [hSame]) (by rw [hSame])

theorem fabric_resumed_of_busy (hBusy : s.fabric.outstanding ≠ none) :
    (resumed s).fabric = { s.fabric with resyncDone := false } := by
  have hResume := (dynStep_resumeExchanges (joined s)).fabric
  have hConn := (dynStep_refreshConn (dispatch (resumeExchanges (joined s)))).fabric
  have hStill : dispatch (resumeExchanges (joined s)) = resumeExchanges (joined s) :=
    if_pos (.inl (by rw [hResume]; exact hBusy))
  refine hConn.trans ?_
  rw [hStill, hResume]
  rfl

/-! ### The test of the join condition -/

theorem joinCondition_resumed (s : State) : (resumed s).joinCondition = s.joinCondition := by
  rw [resumed_frame]
  rfl

/-- Start, whether the join condition holds already or not (R32). -/
theorem enterJoining_cases (s : State) :
    (s.joinCondition = false → enterJoining s = resumed s) ∧
      (s.joinCondition = true → enterJoining s = { resumed s with
        node := { s.node with state := .syncing, joinTimer := none },
        planner := { s.planner with
          phase := .gathering, gatherPos := 0, snapshot := s.takeSnapshot, buffer := [], excluded := [], late := [],
          nextGrants := [], replan := false, abandonCount := 0 } }) := by
  have hFrame := resumed_frame s
  have hCondition := joinCondition_resumed s
  rw [enterJoining_eq]
  generalize resumed s = t at *
  have hJoining : t.node.state = .joining := by rw [hFrame]; rfl
  refine ⟨fun hNot => if_neg (by simp [hCondition, hNot]), fun hHolds => ?_⟩
  rw [joinCheck, if_pos ⟨hJoining, hCondition.trans hHolds⟩, hFrame]
  rfl

/-- What Start does beside the node and the Planner (R33, R125, R135, R140, R141, R151). -/
structure StartEffects (s t : State) : Prop where
  resync : t.fabric.resyncDone = false
  record : ∀ h, t.record h = { s.record h with conn := (t.record h).conn, exchange := (t.record h).exchange }
  sending : ∀ h, (s.record h).exchange.sending = true →
    (t.record h).exchange = { (s.record h).exchange with timer := some (s.node.confirmInterval * 1000) }
  enters : EnterAwaiting (ResumesPending s) s t
  stands : ∀ h, (s.record h).exchange.sending = false → (∀ r, ¬ ResumesPending s h r) →
    (t.record h).exchange = (s.record h).exchange
  queues : TablesCanonical s → QueueAttempts (ResumesPending s) (fun h => (s.record h).exchange.heardTheirs) s t
  conn : TablesCanonical s → ConnFollows s t
  sends : TablesCanonical s → FabricSound s → s.fabric.outstanding = none → SendsNext .joining s.fabric s.entry t
  busy : s.fabric.outstanding ≠ none → t.fabric = { s.fabric with resyncDone := false }
  store : t.store = { s.store with records := t.store.records, changed := t.store.changed }
  fabric : t.fabric.pointer = s.fabric.pointer ∧ t.fabric.cadence = s.fabric.cadence ∧
    t.fabric.reassertTimer = s.fabric.reassertTimer
  lanes : ∀ d, t.lane d = { s.lane d with queue := (t.lane d).queue }
  frame : t.monEast = s.monEast ∧ t.monWest = s.monWest ∧ t.map = s.map ∧ t.pending = s.pending
  ring : t.node.ringSize = s.node.ringSize ∧ t.node.own = s.node.own

theorem startEffects_resumed (s : State) : StartEffects s (resumed s) := by
  have hFrame := resumed_frame s
  have hRecord := fun h => (record_resumed s h).1
  have hExchange : ∀ h, ((resumed s).record h).exchange = (joined s).resumedExchange h := fun h =>
    congrArg Record.exchange (hRecord h)
  refine ⟨by rw [hFrame]; rfl, fun h => ?_, fun h hSending => ?_, fun h r hResumes => ⟨?_, ?_⟩, fun h hSending hNone => ?_,
    fun hTables => queueAttempts_resumed hTables.1, fun hTables => connFollows_resumed hTables.1, fun hTables hs hFree => ?_,
    fabric_resumed_of_busy, by rw [hFrame], ?_, fun d => ?_, ?_, ?_⟩
  · rw [hExchange]
    exact hRecord h
  · rw [hExchange, (resumedExchange_joined s h).1 hSending]
  · rw [hExchange, (resumedExchange_joined s h).2.1 r hResumes]
    rfl
  · refine (record_resumed s h).2 ?_
    rw [(resumedExchange_joined s h).2.1 r hResumes, hResumes.2.2.1, Exchange.started]
    dsimp only
    split <;> decide
  · rw [hExchange, (resumedExchange_joined s h).2.2 hSending hNone]
  · obtain ⟨-, -, -, -, -, -, -, hEntries⟩ := hTables
    exact sendsNext_resumed hEntries hFree ((hs.1).2 hFree)
  · rw [hFrame]
    exact ⟨rfl, rfl, rfl⟩
  · rw [hFrame]
    cases d <;> rfl
  · rw [hFrame]
    exact ⟨rfl, rfl, rfl, rfl⟩
  · rw [hFrame]
    exact ⟨rfl, rfl⟩

/-- The effects of Start do not speak of the rest of the node, of the Planner and of the port. -/
theorem StartEffects.congr (h : StartEffects s u) (hStore : t.store = u.store) (hFabric : t.fabric = u.fabric)
    (hLanes : ∀ d, t.lane d = u.lane d)
    (hFrame : t.monEast = u.monEast ∧ t.monWest = u.monWest ∧ t.map = u.map ∧ t.pending = u.pending)
    (hRing : t.node.ringSize = u.node.ringSize ∧ t.node.own = u.node.own) : StartEffects s t := by
  have hRecord : ∀ k, t.record k = u.record k := fun k => by rw [State.record, hStore, State.record]
  have hEntry : ∀ i, t.entry i = u.entry i := entry_of_entries (by rw [hFabric])
  obtain ⟨hEast, hWest, hMap, hPending⟩ := hFrame
  refine ⟨by rw [hFabric]; exact h.resync, fun k => by rw [hRecord]; exact h.record k,
    fun k hk => by rw [hRecord]; exact h.sending k hk, fun k r hk => by rw [hRecord, hStore]; exact h.enters k r hk,
    fun k hk hNone => by rw [hRecord]; exact h.stands k hk hNone, fun hTables e => by rw [hLanes]; exact h.queues hTables e,
    fun hTables => (h.conn hTables).congr (fun _ => rfl) hRing.1 hRing.2 hRecord hEntry (fun k => by rw [hStore]; exact id),
    fun hTables hs hFree => (h.sends hTables hs hFree).congr rfl rfl rfl rfl (fun _ => rfl) (by rw [hFabric]) (by rw [hFabric])
      (by rw [hFabric]) (by rw [hFabric]) (by rw [hFabric]),
    fun hBusy => by rw [hFabric]; exact h.busy hBusy, by rw [hStore]; exact h.store, by rw [hFabric]; exact h.fabric,
    fun d => by rw [hLanes]; exact h.lanes d, ?_, ?_⟩
  · rw [hEast, hWest, hMap, hPending]
    exact h.frame
  · rw [hRing.1, hRing.2]
    exact h.ring

/-- Settles O30. -/
theorem startJoinsAndSyncs : Obligations.StartJoinsAndSyncs := by
  refine ⟨fun s tag hAccepts hConf hRing => ?_, fun s hJoining hTimer => ?_, fun s tag hAccepts => ?_⟩
  · have hRing : ¬ ((clearHolder s).node.state ≠ .configuring ∨ (clearHolder s).node.ringId = 0) := by
      rintro (h | h)
      exacts [h hConf, hRing h]
    have hCarry : carryStart (clearHolder s) = { state := enterJoining (clearHolder s), status := .ok, data := _ } := if_neg hRing
    have hExec := exec_carried (carry := carryStart) (i := .start tag) (tag := tag) (fun _ => rfl) hAccepts hCarry
      (port_enterJoining _)
    obtain ⟨hWaits, hSyncs⟩ := enterJoining_cases (clearHolder s)
    have hResumed := startEffects_resumed (clearHolder s)
    have hNode : (resumed (clearHolder s)).node = (joined (clearHolder s)).node := by rw [resumed_frame]
    have hPlanner : (resumed (clearHolder s)).planner = s.planner := by rw [resumed_frame]; rfl
    generalize hu : enterJoining (clearHolder s) = u at *
    generalize resumed (clearHolder s) = w at *
    have hEffects : StartEffects (clearHolder s) u := by
      cases hCondition : s.joinCondition with
      | false => rw [hWaits hCondition]; exact hResumed
      | true =>
        rw [hSyncs hCondition]
        exact hResumed.congr rfl rfl (fun d => by cases d <;> rfl) ⟨rfl, rfl, rfl, rfl⟩ ⟨by rw [hNode]; rfl, by rw [hNode]; rfl⟩
    refine ⟨_, hExec, ?_⟩
    have hAll : StartEffects (clearHolder s) (State.withRequest { u with port := s.port } (.start tag) tag .ok
        (be1 (nodeStateCode u.node.state))) :=
      hEffects.congr rfl rfl (fun d => by cases d <;> rfl) ⟨rfl, rfl, rfl, rfl⟩ ⟨rfl, rfl⟩
    refine ⟨hAll.resync, fun hNot => ?_, fun hHolds => ?_, hAll.record, hAll.sending, hAll.enters, hAll.stands,
      fun hTables => ⟨hAll.queues hTables, hAll.conn hTables, hAll.sends hTables, fun hBusy => ⟨fun i => ?_, hAll.busy hBusy⟩⟩,
      hAll.store, hAll.frame.1, hAll.frame.2.1, hAll.frame.2.2.1, hAll.lanes, hAll.fabric.1, hAll.fabric.2.1, hAll.fabric.2.2,
      hAll.frame.2.2.2⟩
    · have hu : u = w := hWaits hNot
      rw [hu, hNode]
      exact ⟨rfl, hPlanner, rfl⟩
    · rw [hSyncs hHolds]
      exact ⟨rfl, rfl, rfl⟩
    · have hEntries := congrArg Fabric.entries (hAll.busy hBusy)
      exact entry_of_entries hEntries i
  · obtain ⟨n, hn⟩ := Option.ne_none_iff_exists'.1 hTimer
    show execJoinTimerExpiry s = _
    rw [execJoinTimerExpiry, hn]
    exact congrArg Host.Outcome.next (if_pos hJoining)
  · show Host.Outcome.next (takeRequest (.softReset tag) tag carrySoftReset s) = _
    rw [takeRequest_accepts _ _ _ s hAccepts]
    rfl

end Sys2Proof.Machine
end

section
/-!
PROOFS. What follows the end of a command (`settleCommand`, `runningCheck`): the exchanges that the answer starts, the driver's choice,
the connection statuses and the entry to Running.
-/

namespace Sys2Proof.Machine

variable {s t u v old w : State}

/-! ### The changes that the driver hands on -/

/-- The exchange of a record after the driver has handed the changes of its entries (R140). -/
def State.handedExchange (w old : State) (h : Nat) : Exchange :=
  if detourEntryChanged old w h then w.testedExchange h else (w.record h).exchange

/-- What a record sends on a lane when the driver hands the changes of its entries (R140, R142). -/
def State.handedConfirm (w old : State) (h : Nat) (e : Side) : List PathConfirm :=
  if detourEntryChanged old w h then w.testedConfirm h e else []

/-- The records that the hand-over starts, with this end's role. -/
def StartsHanded (old w : State) (h : Nat) (r : Role) : Prop := detourEntryChanged old w h = true ∧ w.tested h = some r

/-- A record that no test can start is not in Pending, so a Free one is not. -/
theorem tested_of_not_mem {h : Nat} (hk : h ∉ w.handles) : w.tested h = none := by
  have hFree : w.record h = Record.free := Table.get_of_not_mem _ hk
  rw [Option.eq_none_iff_forall_ne_some]
  intro r hr
  have hPending := (tested_eq_some.1 hr).2.2.1
  rw [hFree] at hPending
  cases hPending

theorem exchangeRun_handEntries (hs : Table.wf Record.free w.store.records = true) :
    ExchangeRun w.handles (w.handedExchange old) (w.handedConfirm old) w (handEntries old w) :=
  exchangeRun_forEach (handles_nodup hs) fun h _ u hRecord hNode hFabric => by
    obtain ⟨-, hExchange, hConfirm⟩ := tested_congr hRecord hNode hFabric
    unfold State.handedExchange
    have hSent : w.handedConfirm old h = if detourEntryChanged old w h then w.testedConfirm h else fun _ => [] :=
      funext fun e => by unfold State.handedConfirm; split <;> rfl
    rw [hSent]
    by_cases hChanged : detourEntryChanged old w h = true
    · simp only [if_pos hChanged]
      rw [← hExchange, ← hConfirm]
      exact exchangeStep_testLocal h u
    · simp only [if_neg hChanged]
      rw [← hRecord]
      exact exchangeStep_same h u

/-- The exchanges and the marks that the hand-over leaves. -/
theorem record_handEntries (hs : Table.wf Record.free w.store.records = true) (k : Nat) :
    (handEntries old w).record k = { w.record k with exchange := w.handedExchange old k } ∧
      ((w.handedExchange old k).state ≠ (w.record k).exchange.state → k ∈ (handEntries old w).store.changed) := by
  have hRun := exchangeRun_handEntries (old := old) hs
  by_cases hk : k ∈ w.handles
  · exact ⟨by rw [hRun.record, if_pos hk], hRun.marks k hk⟩
  · have hSame : w.handedExchange old k = (w.record k).exchange := by
      unfold State.handedExchange State.testedExchange
      rw [tested_of_not_mem hk]
      split <;> rfl
    refine ⟨?_, fun hNe => absurd (congrArg Exchange.state hSame) hNe⟩
    rw [hRun.record, if_neg hk, hSame]

theorem handedExchange_cases (old w : State) (h : Nat) :
    (∀ r, StartsHanded old w h r → w.handedExchange old h = (w.record h).exchange.started w.confirmTime) ∧
      ((∀ r, ¬ StartsHanded old w h r) → w.handedExchange old h = (w.record h).exchange) := by
  unfold State.handedExchange State.testedExchange
  refine ⟨fun r ⟨hChanged, hTested⟩ => by rw [if_pos hChanged, hTested], fun hNone => ?_⟩
  by_cases hChanged : detourEntryChanged old w h = true
  · have hNot : w.tested h = none := Option.eq_none_iff_forall_ne_some.2 fun r hr => hNone r ⟨hChanged, hr⟩
    rw [if_pos hChanged, hNot]
  · rw [if_neg hChanged]

theorem queueAttempts_handEntries (hs : Table.wf Record.free w.store.records = true) :
    QueueAttempts (StartsHanded old w) (fun h => (w.record h).exchange.heardTheirs) w (handEntries old w) := by
  have hRun := exchangeRun_handEntries (old := old) hs
  refine queueAttempts_of (l := w.handles) (sent := w.handedConfirm old) (handles_pairwise hs) (fun h r hStarts => ?_)
    (fun h r hStarts => (tested_eq_some.1 hStarts.2).1) (fun h _ r hStarts e => ?_) (fun h _ hNone e => ?_)
    fun e => by rw [hRun.lanes]
  · by_contra hk
    have hTested := hStarts.2
    rw [tested_of_not_mem hk] at hTested
    cases hTested
  · unfold State.handedConfirm State.testedConfirm
    rw [if_pos hStarts.1, hStarts.2]
    rfl
  · unfold State.handedConfirm State.testedConfirm
    by_cases hChanged : detourEntryChanged old w h = true
    · have hNot : w.tested h = none := Option.eq_none_iff_forall_ne_some.2 fun r hr => hNone r ⟨hChanged, hr⟩
      rw [if_pos hChanged, hNot]
    · rw [if_neg hChanged]

theorem detourEntryChanged_iff {h : Nat} : detourEntryChanged old w h = true ↔
    ∃ r, w.endRole h = some r ∧
      ((old.entry ((w.record h).plan.detourEntry r)).status ≠ (w.entry ((w.record h).plan.detourEntry r)).status ∨
        (old.entry ((w.record h).plan.detourEntry r)).last ≠ (w.entry ((w.record h).plan.detourEntry r)).last) := by
  unfold detourEntryChanged
  cases w.endRole h <;> simp

/-- The driver's choice leaves an entry, or makes a Dirty one InFlight (R126). -/
theorem entry_dispatch (hEntries : Table.wf Entry.untouched s.fabric.entries = true) (i : Nat) :
    (dispatch s).entry i = s.entry i ∨
      (s.entry i).status = .dirty ∧ (dispatch s).entry i = { s.entry i with status := .inFlight } := by
  unfold dispatch
  split
  · exact .inl rfl
  · cases hChosen : s.chooseDirty with
    | some j =>
      dsimp only
      rw [entry_sendDirty]
      by_cases hi : i = j
      · subst hi
        exact .inr ⟨(nextDirty_of_chooseDirty hEntries hChosen).1, if_pos rfl⟩
      · exact .inl (if_neg hi)
    | none =>
      dsimp only
      split <;> exact .inl rfl

/-! ### The end of a command -/

/-- What follows the entries of a command that has ended, but for the entry to Running. -/
structure Settled (old w t : State) : Prop where
  record : ∀ h, t.record h = { w.record h with conn := (t.record h).conn, exchange := w.handedExchange old h }
  marks : ∀ h, (w.handedExchange old h).state ≠ (w.record h).exchange.state → h ∈ t.store.changed
  queues : QueueAttempts (StartsHanded old w) (fun h => (w.record h).exchange.heardTheirs) w t
  lanes : ∀ e, t.lane e = { w.lane e with queue := (t.lane e).queue }
  sends : SendsNext w.node.state w.fabric w.entry t
  entry : ∀ i, t.entry i = w.entry i ∨ (w.entry i).status = .dirty ∧ t.entry i = { w.entry i with status := .inFlight }
  conn : ConnFollows w t
  frame : t = { w with
    store := { w.store with records := t.store.records, changed := t.store.changed },
    laneEast := t.laneEast, laneWest := t.laneWest, attn := t.attn,
    fabric := { w.fabric with
      entries := t.fabric.entries, outstanding := t.fabric.outstanding, responseTimer := t.fabric.responseTimer,
      tagCounter := t.fabric.tagCounter, tx := t.fabric.tx } }
  causes : ∀ c, c ≠ .recordsChanged → causeIn t.attn.pending c = causeIn w.attn.pending c

theorem settled_settleCommand (hRecords : Table.wf Record.free w.store.records = true)
    (hEntries : Table.wf Entry.untouched w.fabric.entries = true) (hFree : w.fabric.outstanding = none)
    (hTimer : w.fabric.responseTimer = none) : Settled old w (settleCommand old w) := by
  have hHand := dynStep_handEntries old w
  have hRun := exchangeRun_handEntries (old := old) hRecords
  have hRecord := fun k => record_handEntries (old := old) hRecords k
  have hQueues := queueAttempts_handEntries (old := old) hRecords
  have hSends := sendsNext_dispatch (s := handEntries old w) (by rw [hHand.fabric]; exact hEntries) (by rw [hHand.fabric]; exact hFree)
    (by rw [hHand.fabric]; exact hTimer)
  rw [hHand.node, hHand.fabric, funext hHand.entry] at hSends
  have hWf : Table.wf Record.free (dispatch (handEntries old w)).store.records = true := by
    rw [dispatch_eq]
    exact hHand.canonical hRecords
  have hDispatch := dispatch_eq (handEntries old w)
  have hEntry := entry_dispatch (s := handEntries old w) (by rw [hHand.fabric]; exact hEntries)
  simp only [hHand.entry] at hEntry
  have hDispatched := fun k => record_dispatch k (handEntries old w)
  have hLaneDispatch : ∀ e, (dispatch (handEntries old w)).lane e = (handEntries old w).lane e := fun e => by
    rw [dispatch_eq]
    cases e <;> rfl
  obtain ⟨hConnRecord, hConnChanged, hConnLane, hConnCause⟩ := refreshConn_effects hWf
  have hConnStep := dynStep_refreshConn (dispatch (handEntries old w))
  have hConn := (connFollows_refreshConn (s := w) hWf fun h => .inl (by rw [hDispatched, (hRecord h).1])).2
  have hResult : settleCommand old w = refreshConn (dispatch (handEntries old w)) := rfl
  rw [← hResult] at hConnRecord hConnChanged hConnLane hConnCause hConnStep hConn
  generalize settleCommand old w = t at *
  generalize dispatch (handEntries old w) = x at *
  generalize handEntries old w = y at *
  have hLane : ∀ e, t.lane e = y.lane e := fun e => (hConnLane e).trans (hLaneDispatch e)
  refine ⟨fun h => ?_, fun h hNe => ?_, fun e => ?_, fun e => ?_, ?_,
    fun i => by rw [hConnStep.entry]; exact hEntry i, hConn, ?_, fun c hc => ?_⟩
  · rw [hConnRecord, hDispatched, (hRecord h).1]
  · refine (hConnChanged h).2 (.inl ?_)
    rw [hDispatch]
    exact (hRecord h).2 hNe
  · rw [hLane]
    exact hQueues e
  · rw [hLane, hRun.lanes]
  · have hFabric := hConnStep.fabric
    exact hSends.congr rfl rfl rfl rfl (fun _ => rfl) (by rw [hFabric]) (by rw [hFabric]) (by rw [hFabric]) (by rw [hFabric])
      (by rw [hFabric])
  · rw [hConnStep.frame, hDispatch, hHand.frame]
  · rw [hConnCause c hc, hDispatch]
    exact hRun.causes c hc

/-! ### Entry to Running -/

/-- What the test for the entry to Running leaves alone (R33, R34). -/
structure RunningFrame (s t : State) : Prop where
  frame : t = { s with
    node := { s.node with state := t.node.state }, map := t.map, planner := t.planner, attn := t.attn,
    laneEast := { s.laneEast with pendingKeys := t.laneEast.pendingKeys },
    laneWest := { s.laneWest with pendingKeys := t.laneWest.pendingKeys },
    fabric := { s.fabric with
      reassertTimer := t.fabric.reassertTimer, reassertPending := t.fabric.reassertPending, cadence := t.fabric.cadence } }
  causes : ∀ c, c ≠ .spanMapChange → causeIn t.attn.pending c = causeIn s.attn.pending c
  same : s.node.state ≠ .syncing → t = s

theorem causeIn_refreshReports_of_ne (s : State) {c : Cause} (hc : c ≠ .spanMapChange) :
    causeIn (refreshReports s).attn.pending c = causeIn s.attn.pending c := by
  obtain ⟨-, hRaised, hKept, -⟩ := spanEffects_refreshReports s
  by_cases hChanged : ∃ k, k < (refreshReports s).node.ringSize ∧ (refreshReports s).effectiveState k ≠ (s.heldSpan k).effective
  · rw [hRaised hChanged, causeIn_raise]
    simp [hc]
  · rw [hKept hChanged]

theorem runningFrame_runningCheck (s : State) : RunningFrame s (runningCheck s) := by
  unfold runningCheck
  split
  next hDue =>
    obtain ⟨hSyncing, -⟩ := hDue
    unfold enterRunning
    refine ⟨?_, fun c hc => causeIn_refreshReports_of_ne _ hc, fun hNot => absurd hSyncing hNot⟩
    generalize hRuns : ({ s with
      node := { s.node with state := .running },
      fabric := { s.fabric with reassertTimer := some s.reassertTime, reassertPending := false } } : State) = x
    have hEq := refreshReports_eq x
    generalize refreshReports x = t at *
    subst hRuns
    rw [hEq]
  next => exact ⟨rfl, fun _ _ => rfl, fun _ => rfl⟩

theorem RunningFrame.lane (h : RunningFrame s t) (d : Side) : t.lane d = { s.lane d with pendingKeys := (t.lane d).pendingKeys } := by
  rw [h.frame]
  cases d <;> rfl

theorem RunningFrame.record (h : RunningFrame s t) (k : Nat) : t.record k = s.record k := by
  rw [h.frame]
  rfl

theorem RunningFrame.entry (h : RunningFrame s t) (i : Nat) : t.entry i = s.entry i := by
  rw [h.frame]
  rfl

theorem RunningFrame.store (h : RunningFrame s t) : t.store = s.store := by rw [h.frame]

end Sys2Proof.Machine
end

section
/-!
PROOFS. Answers of the fabric (O54, O55) and the last one after the resync commit (O56).
-/

namespace Sys2Proof.Machine

variable {s t u v w : State}

/-! ### The order of an answer and its mark -/

/-- An operation does the same whether an answer has just ended a command or not. -/
def KeepsAnswered (f : State → State) : Prop := ∀ (s : State) (b : Bool), f (s.setAnswered b) = (f s).setAnswered b

theorem keepsAnswered_id : KeepsAnswered fun s => s := fun _ _ => rfl

theorem keepsAnswered_forEach {f : Nat → State → State} (hf : ∀ h, KeepsAnswered (f h)) (l : List Nat) : KeepsAnswered (forEach l f) := by
  induction l with
  | nil => exact fun _ _ => rfl
  | cons h l ih => exact fun s b => by rw [forEach_cons, forEach_cons, hf h s b, ih]

theorem keepsAnswered_raiseCause (c : Cause) : KeepsAnswered (raiseCause c) := fun _ _ => rfl

theorem keepsAnswered_raiseIf (b : Bool) (c : Cause) : KeepsAnswered (raiseIf b c) := by
  cases b
  · exact keepsAnswered_id
  · exact keepsAnswered_raiseCause c

theorem keepsAnswered_markChanged (h : Nat) : KeepsAnswered (markChanged h) := fun s b => by
  rw [markChanged_eq, markChanged_eq]
  rfl

theorem keepsAnswered_markChangedIf (b : Bool) (h : Nat) : KeepsAnswered (markChangedIf b h) := by
  cases b
  · exact keepsAnswered_id
  · exact keepsAnswered_markChanged h

theorem keepsAnswered_setExchange (h : Nat) (x : Exchange) : KeepsAnswered (setExchange h x) := fun s b =>
  keepsAnswered_markChangedIf (decide (x.state ≠ (s.record h).exchange.state)) h (s.setRec h { s.record h with exchange := x }) b

theorem keepsAnswered_giveConfirm (d : Side) (p : PathConfirm) : KeepsAnswered (giveConfirm d p) := fun s b => by
  rw [giveConfirm_eq, giveConfirm_eq]
  cases d <;> rfl

theorem keepsAnswered_testLocal (h : Nat) : KeepsAnswered (testLocal h) := fun s b => by
  have hTested : (s.setAnswered b).tested h = s.tested h := rfl
  rw [testLocal_eq, testLocal_eq, hTested]
  cases s.tested h with
  | none => rfl
  | some r =>
    have hSent : sendConfirm h r (s.record h).exchange.heardTheirs (s.setAnswered b) =
        (sendConfirm h r (s.record h).exchange.heardTheirs s).setAnswered b := keepsAnswered_giveConfirm _ _ s b
    show setExchange h _ (sendConfirm h r (s.record h).exchange.heardTheirs (s.setAnswered b)) = _
    rw [hSent, keepsAnswered_setExchange]
    rfl

theorem keepsAnswered_handEntries (old : State) (b : Bool) (s : State) :
    handEntries (old.setAnswered b) (s.setAnswered b) = (handEntries old s).setAnswered b :=
  keepsAnswered_forEach (f := fun h t => if detourEntryChanged old s h then testLocal h t else t)
    (fun h u b => by dsimp only; split; exacts [keepsAnswered_testLocal h u b, rfl]) s.handles s b

theorem keepsAnswered_dispatch : KeepsAnswered dispatch := fun s b => by
  have hChosen : (s.setAnswered b).chooseDirty = s.chooseDirty := rfl
  unfold dispatch
  rw [hChosen, State.setAnswered_fabric_outstanding, State.setAnswered_node, State.setAnswered_fabric_reassertPending]
  split
  · rfl
  · cases s.chooseDirty with
    | some i => rfl
    | none =>
      dsimp only
      split <;> rfl

theorem keepsAnswered_refreshConnOf (h : Nat) : KeepsAnswered (refreshConnOf h) := fun s b => by
  have hNow : (s.setAnswered b).connNow h = s.connNow h := rfl
  have hRecord : (s.setAnswered b).record h = s.record h := rfl
  unfold refreshConnOf
  rw [hNow, hRecord]
  split
  · rfl
  · exact keepsAnswered_markChangedIf _ h (s.setRec h { s.record h with conn := s.connNow h }) b

theorem keepsAnswered_refreshConn : KeepsAnswered refreshConn := fun s b => keepsAnswered_forEach keepsAnswered_refreshConnOf s.handles s b

theorem keepsAnswered_takeOwn (d : Side) : KeepsAnswered (takeOwn d) := fun s b => by
  have hComposed : (s.setAnswered b).composed d = s.composed d := rfl
  unfold takeOwn
  rw [hComposed, State.setAnswered_map, State.setAnswered_node]
  split
  · rfl
  · dsimp only
    split
    · rfl
    · rw [markBoth_eq, markBoth_eq]
      rfl

theorem keepsAnswered_spanTrigger : KeepsAnswered spanTrigger := fun s b => by
  rw [spanTrigger_eq, spanTrigger_eq s, spanTrigger_planner, spanTrigger_planner]
  rfl

theorem keepsAnswered_compareSpans : KeepsAnswered compareSpans := fun s b => by
  have hCompared : (s.setAnswered b).compared = s.compared.setAnswered b := rfl
  have hMoved : (s.setAnswered b).anySpan (fun old new => decide (old.planning ≠ new.planning)) =
      s.anySpan (fun old new => decide (old.planning ≠ new.planning)) := rfl
  rw [compareSpans_eq_compared, compareSpans_eq_compared, hCompared, hMoved]
  split
  · rw [keepsAnswered_spanTrigger]
  · rfl

theorem keepsAnswered_refreshReports : KeepsAnswered refreshReports := fun s b => by
  rw [refreshReports, refreshReports, keepsAnswered_takeOwn, keepsAnswered_takeOwn, keepsAnswered_compareSpans]

theorem keepsAnswered_enterRunning : KeepsAnswered enterRunning := fun s b =>
  keepsAnswered_refreshReports { s with
    node := { s.node with state := .running },
    fabric := { s.fabric with reassertTimer := some s.reassertTime, reassertPending := false } } b

theorem keepsAnswered_runningCheck : KeepsAnswered runningCheck := fun s b => by
  have hDirty : (s.setAnswered b).dirtySet = s.dirtySet := rfl
  unfold runningCheck
  rw [State.setAnswered_node, State.setAnswered_fabric_resyncDone, hDirty, State.setAnswered_fabric_outstanding]
  split
  · exact keepsAnswered_enterRunning s b
  · rfl

/-- A Refused does the same whether it is taken as an answer or for a second time-out (R131). -/
theorem endRefused_setAnswered (c : Command) (b : Bool) (s : State) :
    endRefused c (s.setAnswered b) = (endRefused c s).setAnswered b := by
  rw [endRefused_eq, endRefused_eq, ← keepsAnswered_runningCheck]
  have hFailed : failEntry c (retireCommand c (s.setAnswered b)) = (failEntry c (retireCommand c s)).setAnswered b := rfl
  rw [refusedSettled, refusedSettled, settleCommand, settleCommand, hFailed, keepsAnswered_handEntries, keepsAnswered_dispatch,
    keepsAnswered_refreshConn]

/-! ### What an answer does -/

/-- What the end of a command does, from the state `w` after it has written its entry, the driver and the causes. -/
structure CommandEnded (s w t : State) : Prop where
  record : ∀ h, t.record h = { s.record h with conn := (t.record h).conn, exchange := w.handedExchange s h }
  marks : ∀ h, (w.handedExchange s h).state ≠ (s.record h).exchange.state → h ∈ t.store.changed
  queues : QueueAttempts (StartsHanded s w) (fun h => (s.record h).exchange.heardTheirs) s t
  sends : SendsNext s.node.state w.fabric w.entry t
  entry : ∀ i, t.entry i = w.entry i ∨ (w.entry i).status = .dirty ∧ t.entry i = { w.entry i with status := .inFlight }
  conn : ConnFollows s t
  lanes : ∀ d, t.lane d = { s.lane d with queue := (t.lane d).queue, pendingKeys := (t.lane d).pendingKeys }
  pointer : t.fabric.pointer = w.fabric.pointer
  answered : t.fabric.answered = w.fabric.answered
  causes : ∀ c, c ≠ .recordsChanged → c ≠ .spanMapChange → causeIn t.attn.pending c = causeIn w.attn.pending c
  quiet : s.node.state ≠ .syncing → t.node = s.node ∧ t.map = s.map ∧ t.planner = s.planner ∧
    ∀ d, (t.lane d).pendingKeys = (s.lane d).pendingKeys
  frame : t.monEast = s.monEast ∧ t.monWest = s.monWest ∧ t.port = s.port ∧ t.pending = s.pending

theorem commandEnded_afterCommand (hRecords : Table.wf Record.free s.store.records = true)
    (hEntries : Table.wf Entry.untouched w.fabric.entries = true) (hFree : w.fabric.outstanding = none)
    (hTimer : w.fabric.responseTimer = none) (hw : w = { s with fabric := w.fabric, attn := w.attn }) :
    CommandEnded s w (afterCommand s w) := by
  have hWf : Table.wf Record.free w.store.records = true := by rw [hw]; exact hRecords
  have hSettled := settled_settleCommand (old := s) hWf hEntries hFree hTimer
  have hRuns := runningFrame_runningCheck (settleCommand s w)
  rw [← afterCommand_eq] at hRuns
  generalize settleCommand s w = v at *
  generalize afterCommand s w = t at *
  have hRecord : ∀ h, w.record h = s.record h := fun h => by rw [hw]; rfl
  have hLane : ∀ d, w.lane d = s.lane d := fun d => by rw [hw]; cases d <;> rfl
  have hNode : w.node = s.node := by rw [hw]
  have hRole : ∀ h, w.endRole h = s.endRole h := fun h => by rw [hw]; rfl
  have hFrame := hSettled.frame
  have hFinal := hRuns.frame
  refine ⟨fun h => ?_, fun h hNe => ?_, fun e => ?_, ?_, fun i => ?_, ?_, fun d => ?_, ?_, ?_, fun c hRecordsChanged hSpans => ?_,
    fun hState => ?_, ?_⟩
  · rw [hRuns.record, hSettled.record, hRecord]
  · rw [hRuns.store]
    exact hSettled.marks h (by rw [hRecord]; exact hNe)
  · have hQueues := hSettled.queues e
    have hAttempt : w.attemptOf = s.attemptOf := by
      funext h r heard
      rw [State.attemptOf, State.attemptOf, hRecord, hNode]
    have hQueue : (t.lane e).queue = (v.lane e).queue := by rw [hRuns.lane]
    rw [hQueue]
    rw [hLane, funext hRecord, hAttempt, funext hRole] at hQueues
    exact hQueues
  · rw [← hNode]
    exact hSettled.sends.congr rfl rfl rfl rfl (fun _ => rfl) (by rw [hFinal]) (by rw [hFinal]) (by rw [hFinal]) (by rw [hFinal])
      (by rw [hFinal])
  · rw [hRuns.entry]
    exact hSettled.entry i
  · exact hSettled.conn.congr (fun k => by rw [hRecord]) (by rw [hFinal]) (by rw [hFinal]) hRuns.record hRuns.entry
      fun k hk => by rw [hRuns.store]; exact hk
  · rw [hRuns.lane, hSettled.lanes, hLane]
  · rw [hFinal, hFrame]
  · rw [hFinal, hFrame]
  · rw [hRuns.causes c hSpans, hSettled.causes c hRecordsChanged]
  · have hSame : t = v := hRuns.same (by rw [hFrame, hNode]; exact hState)
    have hKeys : ∀ d, (t.lane d).pendingKeys = (s.lane d).pendingKeys := fun d => by rw [hSame, hSettled.lanes, hLane]
    exact ⟨by rw [hSame, hFrame, hw], by rw [hSame, hFrame, hw], by rw [hSame, hFrame, hw], hKeys⟩
  · rw [hFinal, hFrame, hw]
    exact ⟨rfl, rfl, rfl, rfl⟩

theorem CommandEnded.exchange (h : CommandEnded s w t) (k : Nat) : (t.record k).exchange = w.handedExchange s k :=
  congrArg Record.exchange (h.record k)

/-- Where no record enters, every queue stands. -/
theorem queue_of_no_attempts {enters : Nat → Role → Prop} {heard : Nat → Bool} (hNone : ∀ h r, ¬ enters h r)
    (h : QueueAttempts enters heard s t) (d : Side) : (t.lane d).queue = (s.lane d).queue := by
  obtain ⟨hs, -, hMem, hQueue⟩ := h d
  have hEmpty : hs = [] := List.eq_nil_iff_forall_not_mem.2 fun k hk => by
    obtain ⟨r, hr, -⟩ := (hMem k).1 hk
    exact hNone k r hr
  rw [hQueue, hEmpty]
  simp

/-! ### Refused -/

/-- The entry of a refused command is Failed, so no local connection is applied by it. -/
theorem not_startsHanded_failEntry (c : Command) (h : Nat) (r : Role) :
    ¬ StartsHanded s (failEntry c (retireCommand c s)) h r := by
  rintro ⟨hChanged, hTested⟩
  obtain ⟨hRole, -, -, q, -, hLast, hStatus⟩ := tested_eq_some.1 hTested
  obtain ⟨r', hRole', hDiffers⟩ := detourEntryChanged_iff.1 hChanged
  obtain rfl := Option.some.inj (hRole.symm.trans hRole')
  rw [entry_failEntry] at hLast hDiffers
  split at hLast
  · cases hLast
  next hOther =>
    rw [if_neg hOther] at hDiffers
    exact hDiffers.elim (fun hNe => hNe rfl) (fun hNe => hNe rfl)

theorem commandEnded_endRefused (c : Command) (hTables : TablesCanonical s) :
    CommandEnded s (failEntry c (retireCommand c s)) (endRefused c s) := by
  obtain ⟨hRecords, -, -, -, -, -, -, hEntries⟩ := hTables
  exact commandEnded_afterCommand hRecords (Table.set_wf _ _ hEntries) rfl rfl rfl

theorem exec_fabricRefused {c : Command} (hOut : s.fabric.outstanding = some c) :
    exec (.fabricRefused c.tag) s = .next (endRefused c (s.setAnswered true)) := by
  show execFabricRefused c.tag s = _
  rw [execFabricRefused, hOut]
  exact if_pos rfl

theorem setAnswered_same {b : Bool} (h : s.fabric.answered = b) : s.setAnswered b = s := by
  subst h
  rfl

/-- Settles O55. -/
theorem refusedAndTimeoutsFailTheEntry : Obligations.RefusedAndTimeoutsFailTheEntry := by
  refine ⟨fun s c hTables hOut => ⟨_, exec_fabricRefused hOut, ?_⟩, fun s hAnswered => ?_, fun s c hOut hTimer hAnswered =>
    ⟨fun hFirst => ?_, fun hSecond => ⟨_, exec_fabricRefused hOut, ?_⟩⟩⟩
  · have hEnded := commandEnded_endRefused (s := s.setAnswered true) c hTables
    have hEntry : ∀ i, (failEntry c (retireCommand c (s.setAnswered true))).entry i =
        if i = c.entry then { desired := (s.entry i).desired, last := none, status := .failed } else s.entry i := fun i => by
      rw [entry_failEntry]
      split
      next hi => rw [hi]; rfl
      next => rfl
    have hExchange : ∀ h, (failEntry c (retireCommand c (s.setAnswered true))).handedExchange (s.setAnswered true) h =
        (s.record h).exchange := fun h => (handedExchange_cases _ _ h).2 (not_startsHanded_failEntry c h)
    have hNone := not_startsHanded_failEntry (s := s.setAnswered true) c
    have hCause : causeIn (failEntry c (retireCommand c (s.setAnswered true))).attn.pending .fabricFault = true :=
      (causeIn_raise _ _ _).trans (by simp)
    have hFields : (failEntry c (retireCommand c (s.setAnswered true))).fabric.pointer =
        (if c.reassert then (s.fabric.pointer + 1) % 512 else s.fabric.pointer) := rfl
    have hPending : (failEntry c (retireCommand c (s.setAnswered true))).fabric.reassertPending =
        if c.reassert then false else s.fabric.reassertPending := rfl
    have hTag : (failEntry c (retireCommand c (s.setAnswered true))).fabric.tagCounter = s.fabric.tagCounter := rfl
    have hTx : (failEntry c (retireCommand c (s.setAnswered true))).fabric.tx = s.fabric.tx := rfl
    have hMark : (failEntry c (retireCommand c (s.setAnswered true))).fabric.answered = true := rfl
    generalize failEntry c (retireCommand c (s.setAnswered true)) = w at *
    generalize endRefused c (s.setAnswered true) = t at *
    refine ⟨?_, fun i hi => ?_, hEnded.pointer.trans hFields, ?_, ?_, fun h => ?_, hEnded.conn, hEnded.answered.trans hMark,
      fun d => ?_, fun hState => ?_, hEnded.frame.1, hEnded.frame.2.1, hEnded.frame.2.2.1, hEnded.frame.2.2.2⟩
    · have hMine := hEnded.entry c.entry
      rw [hEntry, if_pos rfl] at hMine
      exact hMine.resolve_right fun h => by simp at h
    · have hOther := hEnded.entry i
      rw [hEntry, if_neg hi] at hOther
      rcases hOther with h | ⟨-, h⟩ <;> rw [h] <;> exact ⟨rfl, rfl⟩
    · exact hEnded.sends.congr hTag.symm hPending.symm hFields.symm hTx.symm (fun i => (hEntry i).symm) rfl rfl rfl rfl rfl
    · rw [hEnded.causes _ (by decide) (by decide)]
      exact hCause
    · have hRecord := hEnded.record h
      rw [hExchange] at hRecord
      exact hRecord
    · have hLane := hEnded.lanes d
      rw [queue_of_no_attempts hNone hEnded.queues d] at hLane
      cases d <;> exact hLane
    · exact hEnded.quiet hState
  · show execResponseTimerExpiry s = _
    rw [execResponseTimerExpiry, if_pos hAnswered]
    rfl
  · obtain ⟨n, hn⟩ := Option.ne_none_iff_exists'.1 hTimer
    show execResponseTimerExpiry s = _
    rw [execResponseTimerExpiry, if_neg (by simp [hAnswered]), hn, hOut]
    exact if_pos hFirst
  · obtain ⟨n, hn⟩ := Option.ne_none_iff_exists'.1 hTimer
    show execResponseTimerExpiry s = _
    rw [execResponseTimerExpiry, if_neg (by simp [hAnswered]), hn, hOut]
    refine (if_neg hSecond).trans (congrArg Host.Outcome.next ?_)
    have hStays : endRefused c s = (endRefused c s).setAnswered false := by
      rw [← endRefused_setAnswered, setAnswered_same hAnswered]
    rw [endRefused_setAnswered]
    generalize endRefused c s = t at *
    exact hStays

end Sys2Proof.Machine
end

section
/-!
PROOFS. A Done (O54), and the last answer after the resync commit (O56).
-/

namespace Sys2Proof.Machine

variable {s t u v w : State}

/-! ### Done -/

/-- The state after a Done has confirmed its entry (R128, R129). -/
def confirmed (c : Command) (b : Bool) (s : State) : State := raiseIf b .fabricDrift (confirmEntry c (retireCommand c s))

theorem endDone_afterCommand (c : Command) (b : Bool) (s : State) : endDone c b s = afterCommand s (confirmed c b s) := rfl

theorem confirmed_fabric (c : Command) (b : Bool) (s : State) : (confirmed c b s).fabric =
    { (retireCommand c s).fabric with entries := (confirmed c b s).fabric.entries } := by
  rw [confirmed, raiseIf_eq, confirmEntry_eq]

theorem confirmed_eq (c : Command) (b : Bool) (s : State) :
    confirmed c b s = { s with fabric := (confirmed c b s).fabric, attn := (confirmed c b s).attn } := by
  rw [confirmed, raiseIf_eq, confirmEntry_eq]
  rfl

theorem entry_confirmed (hEntries : Table.wf Entry.untouched s.fabric.entries = true) (c : Command) (b : Bool) (i : Nat) :
    (confirmed c b s).entry i = if i = c.entry then (s.entry i).confirm c.value
      else if ∃ q, c.value = .localPort q ∧ (s.entry i).last = some (.localPort q) then { s.entry i with last := none }
      else s.entry i := by
  have hEntry : (confirmed c b s).entry i = (confirmEntry c (retireCommand c s)).entry i :=
    entry_of_entries (by rw [confirmed, raiseIf_eq]) i
  rw [hEntry, entry_confirmEntry (s := retireCommand c s) hEntries]
  split
  next hi => rw [hi]; rfl
  next => rfl

theorem commandEnded_endDone (c : Command) (b : Bool) (hTables : TablesCanonical s) :
    CommandEnded s (confirmed c b s) (endDone c b s) := by
  obtain ⟨hRecords, -, -, -, -, -, -, hEntries⟩ := hTables
  refine commandEnded_afterCommand hRecords ?_ (by rw [confirmed_fabric]; rfl) (by rw [confirmed_fabric]; rfl) (confirmed_eq c b s)
  rw [confirmed, raiseIf_eq]
  exact canonical_confirmEntry c (s := retireCommand c s) hEntries

/-- The records whose local connection a Done applies are those that the hand-over starts (R128, R140). -/
theorem startsHanded_confirmed_iff (hEntries : Table.wf Entry.untouched s.fabric.entries = true) (c : Command) (b : Bool) (h : Nat)
    (r : Role) : StartsHanded s (confirmed c b s) h r ↔ AppliesLocal c s h r := by
  have hRecord : (confirmed c b s).record h = s.record h := by rw [confirmed_eq]; rfl
  have hNode : (confirmed c b s).node = s.node := by rw [confirmed_eq]
  have hRole : (confirmed c b s).endRole h = s.endRole h := by rw [State.endRole, State.endRole, hRecord, hNode]
  have hEntry := entry_confirmed hEntries c b
  unfold StartsHanded
  rw [detourEntryChanged_iff, tested_eq_some, hRole, hRecord, hNode, State.LocalApplied, hRecord]
  simp only [hEntry]
  constructor
  · rintro ⟨⟨r', hr', hDiffers⟩, hr, hState, hPending, q, hPort, hLast, hStatus⟩
    obtain rfl := Option.some.inj (hr'.symm.trans hr)
    by_cases hi : (s.record h).plan.detourEntry r' = c.entry
    · rw [if_pos hi] at hDiffers hLast hStatus
      have hValue : c.value = .localPort q := Option.some.inj hLast
      have hDesired : (s.entry c.entry).desired = c.value := by
        by_contra hNe
        rw [hi, Entry.confirm, if_neg hNe] at hStatus
        cases hStatus
      refine ⟨hState, hr, hPending, hi, hDesired, ⟨q, hPort, hValue⟩, ?_⟩
      rintro ⟨p, hp, hLastBefore, hStatusBefore⟩
      obtain rfl := Option.some.inj (hp.symm.trans hPort)
      rcases hDiffers with hNe | hNe
      · exact hNe (hStatusBefore.trans hStatus.symm)
      · exact hNe (hLastBefore.trans hLast.symm)
    · rw [if_neg hi] at hDiffers hLast hStatus
      split at hLast
      · cases hLast
      next hNot =>
        rw [if_neg hNot] at hDiffers
        exact (hDiffers.elim (fun hNe => hNe rfl) fun hNe => hNe rfl).elim
  · rintro ⟨hState, hr, hPending, hi, hDesired, ⟨q, hPort, hValue⟩, hNot⟩
    have hNow : (s.entry c.entry).confirm c.value = { s.entry c.entry with last := some (.localPort q), status := .applied } := by
      rw [Entry.confirm, if_pos hDesired, hValue]
    refine ⟨⟨r, hr, ?_⟩, hr, hState, hPending, q, hPort, ?_, ?_⟩
    · rw [if_pos hi, hi, hNow]
      by_contra hSame
      obtain ⟨hStatus, hLast⟩ := not_or.1 hSame
      exact hNot ⟨q, hPort, by rw [hi]; exact not_not.1 hLast, by rw [hi]; exact not_not.1 hStatus⟩
    · rw [if_pos hi, hi, hNow]
    · rw [if_pos hi, hi, hNow]

theorem exec_fabricDone {c : Command} (b : Bool) (hOut : s.fabric.outstanding = some c) :
    exec (.fabricDone c.tag b) s = .next (endDone c b (s.setAnswered true)) := by
  show execFabricDone c.tag b s = _
  rw [execFabricDone, hOut]
  exact if_pos rfl

/-- Settles O54. -/
theorem doneConfirmsTheEntry : Obligations.DoneConfirmsTheEntry := by
  refine ⟨fun s => rfl, fun s tag b hOther => ?_, fun s c b hTables hOut => ⟨_, exec_fabricDone b hOut, ?_⟩⟩
  · have hBoth : execFabricDone tag b s = .next s ∧ execFabricRefused tag s = .next s := by
      unfold execFabricDone execFabricRefused
      cases hOut : s.fabric.outstanding with
      | none => exact ⟨rfl, rfl⟩
      | some c => exact ⟨if_neg (hOther c hOut), if_neg (hOther c hOut)⟩
    exact hBoth
  · have hEntries : Table.wf Entry.untouched (s.setAnswered true).fabric.entries = true := by
      obtain ⟨-, -, -, -, -, -, -, hEntries⟩ := hTables
      exact hEntries
    have hEnded := commandEnded_endDone (s := s.setAnswered true) c b hTables
    have hEntry : ∀ i, (confirmed c b (s.setAnswered true)).entry i = if i = c.entry then
          { desired := (s.entry i).desired, last := some c.value,
            status := if (s.entry i).desired = c.value then .applied else .dirty }
        else if ∃ q, c.value = .localPort q ∧ (s.entry i).last = some (.localPort q) then { s.entry i with last := none }
        else s.entry i := entry_confirmed (s := s.setAnswered true) hEntries c b
    have hStarts : ∀ h r, StartsHanded (s.setAnswered true) (confirmed c b (s.setAnswered true)) h r ↔ AppliesLocal c s h r :=
      startsHanded_confirmed_iff (s := s.setAnswered true) hEntries c b
    have hExchange := handedExchange_cases (s.setAnswered true) (confirmed c b (s.setAnswered true))
    have hFabric := confirmed_fabric c b (s.setAnswered true)
    have hCause : b = true → causeIn (confirmed c b (s.setAnswered true)).attn.pending .fabricDrift = true := fun hb => by
      rw [confirmed, causeIn_raiseIf]
      simp [hb]
    have hRecord : ∀ h, (confirmed c b (s.setAnswered true)).record h = s.record h := fun h => by rw [confirmed_eq]; rfl
    have hTime : (confirmed c b (s.setAnswered true)).confirmTime = s.node.confirmInterval * 1000 := by
      rw [confirmed_eq]
      rfl
    have hPointer : (confirmed c b (s.setAnswered true)).fabric.pointer =
        (if c.reassert then (s.fabric.pointer + 1) % 512 else s.fabric.pointer) := by rw [hFabric]; rfl
    have hPending : (confirmed c b (s.setAnswered true)).fabric.reassertPending =
        if c.reassert then false else s.fabric.reassertPending := by rw [hFabric]; rfl
    have hTag : (confirmed c b (s.setAnswered true)).fabric.tagCounter = s.fabric.tagCounter := by rw [hFabric]; rfl
    have hTx : (confirmed c b (s.setAnswered true)).fabric.tx = s.fabric.tx := by rw [hFabric]; rfl
    have hMark : (confirmed c b (s.setAnswered true)).fabric.answered = true := by rw [hFabric]; rfl
    generalize confirmed c b (s.setAnswered true) = w at *
    generalize endDone c b (s.setAnswered true) = t at *
    have hMine := hEnded.entry c.entry
    rw [hEntry, if_pos rfl] at hMine
    refine ⟨?_, fun hSame => ?_, fun hNew => ?_, fun i => ?_, fun i hi => ?_, hEnded.pointer.trans hPointer, ?_, fun hb => ?_,
      fun h => ?_, fun h r hr => ⟨?_, ?_⟩, fun h hNone => ?_, fun e => ?_, hEnded.conn, hEnded.answered.trans hMark, fun d => ?_,
      fun hState => ?_, hEnded.frame.1, hEnded.frame.2.1, hEnded.frame.2.2.1, hEnded.frame.2.2.2⟩
    · rcases hMine with h | ⟨-, h⟩ <;> rw [h]
    · rw [if_pos hSame] at hMine
      rw [hMine.resolve_right fun h => by simp at h]
    · rcases hMine with h | ⟨-, h⟩ <;> rw [h]
      · exact .inl (if_neg hNew)
      · exact .inr rfl
    · have hDesired : (w.entry i).desired = (s.entry i).desired := by
        rw [hEntry]
        split
        · rfl
        · split <;> rfl
      rcases hEnded.entry i with h | ⟨-, h⟩ <;> rw [h] <;> exact hDesired
    · have hLast : (w.entry i).last =
          if ∃ q, c.value = .localPort q ∧ (s.entry i).last = some (.localPort q) then none else (s.entry i).last := by
        rw [hEntry, if_neg hi]
        split <;> rfl
      rcases hEnded.entry i with h | ⟨-, h⟩ <;> rw [h] <;> exact hLast
    · exact hEnded.sends.congr hTag.symm hPending.symm hPointer.symm hTx.symm (fun i => (hEntry i).symm) rfl rfl rfl rfl rfl
    · rw [hEnded.causes _ (by decide) (by decide)]
      exact hCause hb
    · have hAll := hEnded.record h
      rw [← hEnded.exchange h] at hAll
      exact hAll
    · rw [hEnded.exchange, (hExchange h).1 r ((hStarts h r).2 hr), hRecord, hTime]
      rfl
    · refine hEnded.marks h ?_
      obtain ⟨-, -, hState, -⟩ := id hr
      rw [(hExchange h).1 r ((hStarts h r).2 hr), hRecord]
      show _ ≠ (s.record h).exchange.state
      rw [hState, Exchange.started]
      dsimp only
      split <;> decide
    · rw [hEnded.exchange, (hExchange h).2 (fun r hr => hNone r ((hStarts h r).1 hr)), hRecord]
    · obtain ⟨hs, hRising, hMem, hQueue⟩ := hEnded.queues e
      refine ⟨hs, hRising, fun h => ?_, ?_⟩
      · rw [hMem]
        simp only [hStarts]
        exact Iff.rfl
      · cases e <;> exact hQueue
    · have hLane := hEnded.lanes d
      cases d <;> exact hLane
    · exact hEnded.quiet hState

/-! ### The last answer -/

/-- With nothing Dirty, and outside Running, the end of a command sends nothing (R125). -/
theorem fabric_settleCommand_of_clean (hClean : w.dirtySet = []) (hState : w.node.state ≠ .running) :
    (settleCommand s w).fabric = w.fabric := by
  have hHand := dynStep_handEntries s w
  have hChoice : (handEntries s w).chooseDirty = none :=
    chooseDirty_of_dirtySet_nil (by rw [State.dirtySet, hHand.fabric]; exact hClean)
  have hNothing : dispatch (handEntries s w) = handEntries s w := by
    unfold dispatch
    rw [hChoice, hHand.node]
    split
    · rfl
    · exact if_neg fun h => hState h.1
  refine (dynStep_refreshConn _).fabric.trans ?_
  rw [hNothing, hHand.fabric]

/-- The entry to Running from `s`, with the cadence scale that the Reassertion Timer is loaded by (R33, R34, R133). -/
def EntersRunning (s : State) (cadence : Nat) (t : State) : Prop :=
  t.node = { s.node with state := .running } ∧
    t.fabric.outstanding = none ∧ t.dirtySet = [] ∧ t.fabric.reassertPending = false ∧
    t.fabric.reassertTimer = some (s.node.reassertInterval * cadence * 1000) ∧
    (∀ d, (t.map.own d).content =
      if (s.mon d).force then { state := .forcedOut, cause := .forced } else (s.mon d).output) ∧
    (∀ d, (t.map.own d).content ≠ Content.halted → (t.map.own d).epoch = (s.map.own d).epoch + 1) ∧
    MarksOwnKeys (fun d => (t.map.own d).content ≠ Content.halted) s t ∧
    SpansWorkedOut t ∧ t.map.others = s.map.others ∧ t.map.delays = s.map.delays ∧ t.port = s.port

/-- The end of the last command after the resync commit enters Running (R33, R34). -/
theorem afterCommand_entersRunning (hw : w = { s with fabric := w.fabric, attn := w.attn })
    (hRecords : Table.wf Record.free s.store.records = true) (hEntries : Table.wf Entry.untouched w.fabric.entries = true)
    (hState : s.node.state = .syncing) (hResync : w.fabric.resyncDone = true) (hFree : w.fabric.outstanding = none)
    (hTimer : w.fabric.responseTimer = none) (hClean : w.dirtySet = [])
    (hHalted : ∀ d, (s.map.own d).content = Content.halted) :
    EntersRunning s w.fabric.cadence (afterCommand s w) := by
  have hWf : Table.wf Record.free w.store.records = true := by rw [hw]; exact hRecords
  have hNode : w.node = s.node := by rw [hw]
  have hSettled := settled_settleCommand (old := s) hWf hEntries hFree hTimer
  have hFabric := fabric_settleCommand_of_clean (s := s) hClean (by rw [hNode, hState]; decide)
  have hFrame := hSettled.frame
  rw [afterCommand_eq]
  generalize settleCommand s w = v at *
  have hSame : v.node = s.node ∧ v.map = s.map ∧ v.monEast = s.monEast ∧ v.monWest = s.monWest ∧ v.port = s.port := by
    rw [hFrame, hw]
    exact ⟨rfl, rfl, rfl, rfl, rfl⟩
  obtain ⟨hvNode, hvMap, hvEast, hvWest, hvPort⟩ := hSame
  have hLane : ∀ d, v.lane d = { s.lane d with queue := (v.lane d).queue } := fun d => by
    have hFrom : w.lane d = s.lane d := by rw [hw]; cases d <;> rfl
    rw [hSettled.lanes, hFrom]
  have hRuns : runningCheck v = enterRunning v :=
    if_pos ⟨by rw [hvNode]; exact hState, by rw [hFabric]; exact hResync, by rw [State.dirtySet, hFabric]; exact hClean,
      by rw [hFabric]; exact hFree⟩
  generalize runningCheck v = t at *
  have ht := hRuns
  set x : State := { v with
    node := { v.node with state := .running },
    fabric := { v.fabric with reassertTimer := some v.reassertTime, reassertPending := false } } with hx
  have htx : t = refreshReports x := ht
  have hMon : ∀ d, x.mon d = s.mon d := fun d => by cases d; exacts [hvEast, hvWest]
  have hxOwn : ∀ d, x.map.own d = s.map.own d := fun d => by rw [hx, hvMap]
  have hComposed : ∀ d, x.composed d =
      if (s.mon d).force then { state := .forcedOut, cause := .forced } else (s.mon d).output := fun d => by
    rw [State.composed, if_neg (by simp [hx]), hMon]
  have hOwn := fun d => own_refreshReports d x
  have hMarks := marksOwnKeys_refreshReports x
  have hEq := refreshReports_eq x
  have hSpans := spansWorkedOut_refreshReports x
  have hContent : ∀ d, (t.map.own d).content = x.composed d := fun d => by
    rw [htx, hOwn]
    split
    next hSame => exact hSame.symm
    next => rfl
  rw [← htx] at hOwn hMarks hEq hSpans
  clear_value x
  have hNotHalted : ∀ d, x.composed d ≠ (x.map.own d).content ↔ (t.map.own d).content ≠ Content.halted := fun d => by
    rw [hContent, hxOwn, hHalted]
  have hMap : x.map = s.map := by rw [hx]; exact hvMap
  refine ⟨by rw [hEq, hx, hvNode], ?_, ?_, by rw [hEq, hx], ?_, fun d => (hContent d).trans (hComposed d), fun d hNot => ?_, ?_,
    hSpans, by rw [hEq, hMap], by rw [hEq, hMap], by rw [hEq, hx]; exact hvPort⟩
  · rw [hEq, hx, hFabric]
    exact hFree
  · rw [hEq, hx]
    show (v.fabric.entries.filter fun e => decide (e.2.status = .dirty)).map Prod.fst = []
    rw [hFabric]
    exact hClean
  · rw [hEq, hx]
    show some (v.node.reassertInterval * v.fabric.cadence * Config.ms) = _
    rw [hvNode, hFabric]
  · rw [hOwn, if_neg ((hNotHalted d).2 hNot), hxOwn]
  · refine hMarks.congr (fun e => ?_) (fun e => ?_) (by rw [hx, hvNode]) (by rw [hx, hvNode]) hNotHalted
    · have hxLane : x.lane e = v.lane e := by rw [hx]; cases e <;> rfl
      rw [hxLane, hLane]
    · have hxLane : x.lane e = v.lane e := by rw [hx]; cases e <;> rfl
      rw [hxLane, hLane]

theorem dirtySet_of_clean (hEntries : Table.wf Entry.untouched s.fabric.entries = true)
    (hClean : ∀ i, (s.entry i).status ≠ .dirty) : s.dirtySet = [] :=
  List.eq_nil_iff_forall_not_mem.2 fun i hi => hClean i ((mem_dirtySet hEntries).1 hi)

theorem endRefused_entersRunning (c : Command) (hTables : TablesCanonical s) (hState : s.node.state = .syncing)
    (hResync : s.fabric.resyncDone = true) (hClean : ∀ i, (s.entry i).status ≠ .dirty)
    (hHalted : ∀ d, (s.map.own d).content = Content.halted) :
    EntersRunning s s.fabric.cadence (endRefused c s) :=
  have hWf : Table.wf Entry.untouched (failEntry c (retireCommand c s)).fabric.entries = true :=
    Table.set_wf _ _ hTables.2.2.2.2.2.2.2
  afterCommand_entersRunning (s := s) (w := failEntry c (retireCommand c s)) rfl hTables.1 hWf hState hResync rfl rfl
    (dirtySet_of_clean hWf fun i => by
      rw [entry_failEntry]
      split
      · exact fun h => by cases h
      · exact hClean i) hHalted

theorem endDone_entersRunning (c : Command) (b : Bool) (hTables : TablesCanonical s) (hState : s.node.state = .syncing)
    (hResync : s.fabric.resyncDone = true) (hClean : ∀ i, (s.entry i).status ≠ .dirty)
    (hHalted : ∀ d, (s.map.own d).content = Content.halted) (hDesired : (s.entry c.entry).desired = c.value) :
    EntersRunning s (confirmed c b s).fabric.cadence (endDone c b s) :=
  have hEntries : Table.wf Entry.untouched s.fabric.entries = true := hTables.2.2.2.2.2.2.2
  have hFabric := confirmed_fabric c b s
  have hWf : Table.wf Entry.untouched (confirmed c b s).fabric.entries = true := by
    rw [confirmed, raiseIf_eq]
    exact canonical_confirmEntry c (s := retireCommand c s) hEntries
  afterCommand_entersRunning (s := s) (w := confirmed c b s) (confirmed_eq c b s) hTables.1 hWf hState
    (by rw [hFabric]; exact hResync) (by rw [hFabric]; rfl) (by rw [hFabric]; rfl)
    (dirtySet_of_clean hWf fun i => by
      rw [entry_confirmed hEntries]
      split
      next hi =>
        rw [Entry.confirm, if_pos (hi ▸ hDesired)]
        exact fun h => by cases h
      next =>
        split <;> exact hClean i) hHalted

/-- Settles O56: nothing is Dirty after the entry of the command is written. -/
theorem lastAnswerEntersRunning : Obligations.LastAnswerEntersRunning := by
  intro s c hTables hState hResync hOut hClean hHalted i hAnswer
  obtain ⟨-, -, -, -, -, -, -, hEntries⟩ := id hTables
  have hNotDirty : ∀ i, (s.entry i).status ≠ .dirty := fun i hDirty => by
    have hMem := (mem_dirtySet hEntries).2 hDirty
    rw [hClean] at hMem
    cases hMem
  rcases hAnswer with ⟨⟨b, rfl⟩, hDesired⟩ | rfl | ⟨rfl, hTimer, hAnswered, hSecond⟩
  · have hRuns := endDone_entersRunning (s := s.setAnswered true) c b hTables hState hResync hNotDirty hHalted hDesired
    have hCadence : (confirmed c b (s.setAnswered true)).fabric.cadence = s.fabric.cadence := by rw [confirmed_fabric]; rfl
    rw [hCadence] at hRuns
    exact ⟨_, exec_fabricDone b hOut, hRuns⟩
  · exact ⟨_, exec_fabricRefused hOut, endRefused_entersRunning (s := s.setAnswered true) c hTables hState hResync hNotDirty hHalted⟩
  · refine ⟨endRefused c s, ?_, endRefused_entersRunning (s := s) c hTables hState hResync hNotDirty hHalted⟩
    obtain ⟨n, hn⟩ := Option.ne_none_iff_exists'.1 hTimer
    show execResponseTimerExpiry s = _
    rw [execResponseTimerExpiry, if_neg (by simp [hAnswered]), hn, hOut]
    exact if_neg hSecond

end Sys2Proof.Machine
end

section
/-!
PROOFS. A Set Ring that changes the ring parameters (O29): the exchanges that it drops, the outcomes that it takes back, and the Span
Map under the new values.
-/

namespace Sys2Proof.Machine

variable {s t u v : State}

/-! ### The changed set and its cause -/

/-- From `s` to `t` the changed set only grows, Records Changed is raised where it was empty, and no other cause moves (R20). -/
structure MarksRecords (s t : State) : Prop where
  kept : ∀ k, k ∈ s.store.changed → k ∈ t.store.changed
  raised : causeIn t.attn.pending .recordsChanged = true ↔
    causeIn s.attn.pending .recordsChanged = true ∨ s.store.changed = [] ∧ t.store.changed ≠ []
  causes : ∀ c, c ≠ .recordsChanged → causeIn t.attn.pending c = causeIn s.attn.pending c

namespace MarksRecords

theorem of_same (hChanged : t.store.changed = s.store.changed) (hAttn : t.attn = s.attn) : MarksRecords s t where
  kept k := by rw [hChanged]; exact id
  raised := by
    rw [hChanged, hAttn]
    exact ⟨.inl, fun h => h.elim id fun h => absurd h.1 h.2⟩
  causes c _ := by rw [hAttn]

theorem trans (h : MarksRecords s t) (k : MarksRecords t u) : MarksRecords s u where
  kept j hj := k.kept j (h.kept j hj)
  raised := by
    have hGrows : ∀ {x y : State}, MarksRecords x y → x.store.changed ≠ [] → y.store.changed ≠ [] := fun hxy hNe hEmpty => by
      obtain ⟨j, hj⟩ := List.exists_mem_of_ne_nil _ hNe
      have hMem := hxy.kept j hj
      rw [hEmpty] at hMem
      cases hMem
    have hst := hGrows h
    have htu := hGrows k
    rw [k.raised, h.raised]
    tauto
  causes c hc := (k.causes c hc).trans (h.causes c hc)

theorem forEach {f : Nat → State → State} (hf : ∀ h u, MarksRecords u (f h u)) (l : List Nat) (s : State) :
    MarksRecords s (forEach l f s) := by
  induction l generalizing s with
  | nil => exact of_same rfl rfl
  | cons h l ih => exact (hf h s).trans (ih (f h s))

theorem markChanged (h : Nat) (s : State) : MarksRecords s (markChanged h s) where
  kept k hk := (mem_changed_markChanged h k s).2 (.inr hk)
  raised := by
    have hNe : (Machine.markChanged h s).store.changed ≠ [] := List.ne_nil_of_mem ((mem_changed_markChanged h h s).2 (.inl rfl))
    have hCause : causeIn (Machine.markChanged h s).attn.pending .recordsChanged =
        (causeIn s.attn.pending .recordsChanged || decide (s.store.changed = [])) := by
      rw [Machine.markChanged, causeIn_raiseIf]
      simp
    rw [hCause]
    simp [hNe]
  causes c hc := causeIn_markChanged_of_ne h s hc

theorem markChangedIf (b : Bool) (h : Nat) (s : State) : MarksRecords s (markChangedIf b h s) := by
  cases b
  · exact of_same rfl rfl
  · exact markChanged h s

theorem setRec (h : Nat) (r : Record) (s : State) : MarksRecords s (s.setRec h r) := of_same rfl rfl

theorem setExchange (h : Nat) (x : Exchange) (s : State) : MarksRecords s (setExchange h x s) :=
  (setRec h _ s).trans (markChangedIf _ h _)

theorem writeResult (h : Nat) (o : Outcome) (v : Reason) (s : State) : MarksRecords s (writeResult h o v s) :=
  (setRec h _ s).trans (markChangedIf _ h _)

theorem dropDetour (h : Nat) (s : State) : MarksRecords s (dropDetour h s) := by
  unfold Machine.dropDetour
  split
  · exact of_same rfl rfl
  · split
    · exact setExchange h _ s
    · exact of_same rfl rfl

theorem unplan (h : Nat) (s : State) : MarksRecords s (unplan h s) := by
  unfold Machine.unplan
  split
  · exact writeResult h _ _ s
  · exact writeResult h _ _ s
  · exact of_same rfl rfl

theorem refreshConnOf (h : Nat) (s : State) : MarksRecords s (refreshConnOf h s) := by
  unfold Machine.refreshConnOf
  split
  · exact of_same rfl rfl
  · exact (setRec h _ s).trans (markChangedIf _ h _)

end MarksRecords

/-! ### The exchanges that are dropped -/

/-- The exchange of a record after a Set Ring has dropped those of the detours that end here (R117). -/
def State.droppedExchange (s : State) (h : Nat) : Exchange :=
  if (s.endRole h).isSome = true ∧ (s.record h).outcome = .detour then Exchange.idle else (s.record h).exchange

theorem exchangeStep_dropDetour (h : Nat) (u : State) : ExchangeStep h (u.droppedExchange h) (fun _ => []) u (dropDetour h u) := by
  unfold dropDetour State.droppedExchange
  cases u.endRole h with
  | none => simpa using exchangeStep_same h u
  | some r =>
    by_cases hDetour : (u.record h).outcome = .detour
    · simp only [hDetour, if_true, Option.isSome_some, and_self]
      exact exchangeStep_setExchange h _ u
    · simp only [hDetour, if_false, and_false]
      exact exchangeStep_same h u

theorem exchangeRun_dropDetours (hs : Table.wf Record.free s.store.records = true) :
    ExchangeRun s.handles s.droppedExchange (fun _ _ => []) s (forEach s.handles dropDetour s) :=
  exchangeRun_forEach (handles_nodup hs) fun h _ u hRecord hNode _ => by
    have hSame : u.droppedExchange h = s.droppedExchange h := by
      unfold State.droppedExchange State.endRole
      rw [hRecord, hNode]
    rw [← hSame]
    exact exchangeStep_dropDetour h u

theorem record_dropDetours (hs : Table.wf Record.free s.store.records = true) (k : Nat) :
    (forEach s.handles dropDetour s).record k = { s.record k with exchange := s.droppedExchange k } := by
  rw [(exchangeRun_dropDetours hs).record]
  split
  · rfl
  next hk =>
    have hFree : s.record k = Record.free := Table.get_of_not_mem _ hk
    unfold State.droppedExchange
    rw [hFree]
    simp [Record.free]

/-! ### The outcomes that are taken back -/

/-- A record that the committed plan covers: Active or Retiring (R117). -/
def Record.inPlan (r : Record) : Prop := r.lifecycle = .active ∨ r.lifecycle = .retiring

/-- What a Set Ring leaves of a record's outcome (R117). -/
def Record.unplanned (r : Record) : Record :=
  match r.lifecycle with
  | .active => { r with outcome := .unplanned, reason := .none }
  | .retiring => { r with outcome := .unplanned, reason := .none }
  | _ => r

theorem Record.unplanned_of_inPlan {r : Record} (h : r.inPlan) : r.unplanned = { r with outcome := .unplanned, reason := .none } := by
  unfold Record.unplanned
  rcases h with h | h <;> rw [h]

theorem Record.unplanned_of_not {r : Record} (h : ¬ r.inPlan) : r.unplanned = r := by
  unfold Record.unplanned Record.inPlan at *
  cases hLife : r.lifecycle <;> simp_all

theorem unplan_effects (h : Nat) (s : State) :
    (∀ k, (unplan h s).record k = if k = h then (s.record h).unplanned else s.record k) ∧
      ∀ k, k ∈ (unplan h s).store.changed ↔ k ∈ s.store.changed ∨
        (k = h ∧ (s.record h).inPlan ∧ ((s.record h).outcome ≠ .unplanned ∨ (s.record h).reason ≠ .none)) := by
  by_cases hPlan : (s.record h).inPlan
  · have hUnplan : unplan h s = writeResult h .unplanned .none s := by
      unfold unplan
      rcases hPlan with h | h <;> rw [h]
    rw [hUnplan, Record.unplanned_of_inPlan hPlan]
    refine ⟨fun k => record_writeResult h _ _ s k, fun k => ?_⟩
    rw [writeResult, mem_changed_markChangedIf, Bool.or_eq_true, decide_eq_true_eq, decide_eq_true_eq, State.setRec]
    tauto
  · have hUnplan : unplan h s = s := by
      unfold unplan
      unfold Record.inPlan at hPlan
      cases hLife : (s.record h).lifecycle <;> simp_all
    rw [hUnplan, Record.unplanned_of_not hPlan]
    refine ⟨fun k => ?_, fun k => by simp [hPlan]⟩
    split
    next hk => rw [hk]
    next => rfl

theorem unplans_effects {l : List Nat} (hNodup : l.Nodup) (s : State) :
    (∀ k, (forEach l unplan s).record k = if k ∈ l then (s.record k).unplanned else s.record k) ∧
      ∀ k, k ∈ (forEach l unplan s).store.changed ↔ k ∈ s.store.changed ∨
        (k ∈ l ∧ (s.record k).inPlan ∧ ((s.record k).outcome ≠ .unplanned ∨ (s.record k).reason ≠ .none)) := by
  refine ⟨record_forEach (g := fun _ r => r.unplanned) (fun h u => (unplan_effects h u).1) hNodup s, ?_⟩
  induction l generalizing s with
  | nil => simp [forEach]
  | cons h l ih =>
    obtain ⟨hNew, hRest⟩ := List.nodup_cons.1 hNodup
    intro k
    rw [forEach_cons, ih hRest, (unplan_effects h s).2, (unplan_effects h s).1]
    by_cases hk : k = h
    · subst hk; simp [hNew]
    · simp [hk]

/-! ### The records under the new ring -/

/-- What a Set Ring makes of a record, but for its connection status (R117). -/
def State.ringRecord (s : State) (h : Nat) : Record := { s.record h with exchange := s.droppedExchange h }.unplanned

theorem ringRecord_cases (s : State) (h : Nat) :
    ((s.record h).inPlan → s.ringRecord h =
      { s.record h with exchange := s.droppedExchange h, outcome := .unplanned, reason := .none }) ∧
    (¬ (s.record h).inPlan → s.ringRecord h = { s.record h with exchange := s.droppedExchange h }) :=
  ⟨fun h => Record.unplanned_of_inPlan h, fun h => Record.unplanned_of_not h⟩

/-- A record without an outcome names no entry (R122). -/
theorem connNow_of_unplanned {h : Nat} (hOutcome : (s.record h).outcome = .unplanned) : s.connNow h = .none := by
  have hNone : s.writesOf h = [] := List.eq_nil_iff_forall_not_mem.2 fun ⟨i, v⟩ hMem => by
    obtain ⟨role, -, hRow⟩ := namesEntry_iff_role.1 (namesEntry_iff.2 hMem)
    cases role <;> simp [NamesAs, hOutcome] at hRow
  rw [State.connNow, hNone]
  rfl

/-- Dropping the exchanges marks records on a detour only (R20, R138). -/
theorem changed_dropDetours (l : List Nat) (s : State) (k : Nat) (hMem : k ∈ (forEach l dropDetour s).store.changed) :
    k ∈ s.store.changed ∨ (s.record k).outcome = .detour := by
  induction l generalizing s with
  | nil => exact .inl hMem
  | cons h l ih =>
    have hSame : ((dropDetour h s).record k).outcome = (s.record k).outcome := by
      rw [(exchangeStep_dropDetour h s).record]
      split
      next hk => rw [hk]
      next => rfl
    rcases ih (dropDetour h s) hMem with hMem | hDetour
    · revert hMem
      unfold dropDetour
      split
      · exact .inl
      · split
        next hDetour =>
          intro hMem
          rcases (mem_changed_setExchange h k _ s).1 hMem with ⟨rfl, -⟩ | hMem
          · exact .inr hDetour
          · exact .inl hMem
        next => exact .inl
    · exact .inr (hSame ▸ hDetour)

theorem marksRecords_ringSettled (ringId n own : Nat) (s : State) : MarksRecords s (ringSettled ringId n own s) := by
  have hDrop : MarksRecords s (forEach s.handles dropDetour s) := .forEach .dropDetour _ s
  have hRing : MarksRecords (forEach s.handles dropDetour s) (ringWritten ringId n own s) := .of_same rfl rfl
  have hUnplan := MarksRecords.forEach .unplan (ringWritten ringId n own s).handles (ringWritten ringId n own s)
  exact ((hDrop.trans hRing).trans hUnplan).trans (.forEach .refreshConnOf _ _)

section RingSettled

variable (ringId n own : Nat) (hs : Table.wf Record.free s.store.records = true)

include hs

theorem canonical_ringWritten : Table.wf Record.free (ringWritten ringId n own s).store.records = true :=
  (dynStep_dropDetours s).canonical hs

theorem canonical_ringUnplanned : Table.wf Record.free
    (forEach (ringWritten ringId n own s).handles unplan (ringWritten ringId n own s)).store.records = true :=
  (dynStep_unplans _).canonical (canonical_ringWritten ringId n own hs)

theorem record_ringUnplanned (h : Nat) :
    (forEach (ringWritten ringId n own s).handles unplan (ringWritten ringId n own s)).record h = s.ringRecord h := by
  have hRecord : (ringWritten ringId n own s).record h = { s.record h with exchange := s.droppedExchange h } :=
    record_dropDetours hs h
  rw [(unplans_effects (handles_nodup (canonical_ringWritten ringId n own hs)) _).1, hRecord]
  split
  · rfl
  next hk =>
    have hFree : (ringWritten ringId n own s).record h = Record.free := Table.get_of_not_mem _ hk
    rw [State.ringRecord, ← hRecord, hFree]
    rfl

/-- The records and the changed set before the Line Monitors are worked out (R20, R108, R117). -/
theorem record_ringSettled (h : Nat) :
    (ringSettled ringId n own s).record h = { s.ringRecord h with conn := ((ringSettled ringId n own s).record h).conn } ∧
      ((s.record h).inPlan → ((ringSettled ringId n own s).record h).conn = .none) := by
  obtain ⟨hConn, -⟩ := refreshConn_effects (canonical_ringUnplanned ringId n own hs)
  have hRecord : (ringSettled ringId n own s).record h = _ := hConn h
  rw [record_ringUnplanned ringId n own hs] at hRecord
  refine ⟨by rw [hRecord], fun hPlan => ?_⟩
  rw [hRecord]
  refine connNow_of_unplanned ?_
  rw [record_ringUnplanned ringId n own hs, (ringRecord_cases s h).1 hPlan]

theorem marks_ringSettled {h : Nat} (hPlan : (s.record h).inPlan)
    (hResult : (s.record h).outcome ≠ .unplanned ∨ (s.record h).reason ≠ .none) :
    h ∈ (ringSettled ringId n own s).store.changed := by
  refine changed_refreshConn_kept (((unplans_effects (handles_nodup (canonical_ringWritten ringId n own hs)) _).2 h).2 (.inr ?_))
  have hRecord : (ringWritten ringId n own s).record h = { s.record h with exchange := s.droppedExchange h } :=
    record_dropDetours hs h
  rw [hRecord]
  refine ⟨mem_handles_of_ne fun hFree => ?_, hPlan, hResult⟩
  have hLife : (s.record h).lifecycle = .free := by
    have := congrArg Record.lifecycle (hRecord.symm.trans hFree)
    exact this
  rcases hPlan with h | h <;> rw [hLife] at h <;> cases h

/-- With the law of the exchanges nothing else is marked (R4, R138). -/
theorem changed_ringSettled (hLaw : ExchangesSound s) (h : Nat) : h ∈ (ringSettled ringId n own s).store.changed ↔
    h ∈ s.store.changed ∨ (s.record h).inPlan ∧ ((s.record h).outcome ≠ .unplanned ∨ (s.record h).reason ≠ .none) := by
  refine ⟨fun hMem => ?_, fun h => h.elim ((marksRecords_ringSettled ringId n own s).kept _) fun h =>
    marks_ringSettled ringId n own hs h.1 h.2⟩
  have hOutcome : ¬ (s.record h).inPlan → (s.record h).outcome = .unplanned := fun hPlan => by
    refine (hLaw h).2.2 ?_
    unfold Record.inPlan at hPlan
    cases hLife : (s.record h).lifecycle <;> simp_all
  obtain ⟨-, hConn, -⟩ := refreshConn_effects (canonical_ringUnplanned ringId n own hs)
  rcases (hConn h).1 hMem with hMem | ⟨-, hNow⟩
  · rcases ((unplans_effects (handles_nodup (canonical_ringWritten ringId n own hs)) _).2 h).1 hMem with hMem | ⟨-, hPlan, hResult⟩
    · refine (changed_dropDetours s.handles s h hMem).imp id fun hDetour => ?_
      by_cases hPlan : (s.record h).inPlan
      · exact ⟨hPlan, .inl (by rw [hDetour]; exact nofun)⟩
      · rw [hOutcome hPlan] at hDetour; cases hDetour
    · have hRecord : (ringWritten ringId n own s).record h = { s.record h with exchange := s.droppedExchange h } :=
        record_dropDetours hs h
      rw [hRecord] at hPlan hResult
      exact .inr ⟨hPlan, hResult⟩
  · exfalso
    rw [connNow_of_unplanned] at hNow
    · rcases hNow with h | h <;> cases h
    · rw [record_ringUnplanned ringId n own hs]
      by_cases hPlan : (s.record h).inPlan
      · rw [(ringRecord_cases s h).1 hPlan]
      · rw [(ringRecord_cases s h).2 hPlan]
        exact hOutcome hPlan

end RingSettled

end Sys2Proof.Machine
end

section
/-!
PROOFS. A Set Ring that changes the ring parameters (O29): the whole of the state that it leaves.
-/

namespace Sys2Proof.Machine

variable {s t u : State}

/-- A lane after a Set Ring that changes the ring parameters keeps nothing of its queue (R27). -/
theorem Lane.newRing_eq (l : Lane) (b : Bool) : l.newRing b = { l with
    adjacency := .down, adjTimer := none, pendingKeys := [], queue := [], mapSent := false, exchanged := false, differs := false,
    greetTimer := if b = true then some 10000 else l.greetTimer } := rfl

/-- Writes of run-time fields leave the queue of a lane whose adjacency is down. -/
theorem DynStep.lane_of_down {w : Nat → Prop} (h : DynStep w s t) {d : Side} (hDown : (s.lane d).adjacency = .down) :
    t.lane d = s.lane d := by
  rcases h.queue d with hQueue | ⟨hUp, -⟩
  · rw [h.lane d, hQueue]
  · rw [hDown] at hUp; cases hUp

theorem lane_ringSettled (ringId n own : Nat) (s : State) (d : Side) :
    (ringSettled ringId n own s).lane d = (s.lane d).newRing (decide (s.node.ringId = 0)) := by
  have hDrop := dynStep_dropDetours s
  have hWritten : (ringWritten ringId n own s).lane d = (s.lane d).newRing (decide (s.node.ringId = 0)) := by
    have hLane : (ringWritten ringId n own s).lane d =
        ((forEach s.handles dropDetour s).lane d).newRing (decide ((forEach s.handles dropDetour s).node.ringId = 0)) := by
      cases d <;> rfl
    rw [hLane, hDrop.lane d, hDrop.node]
    rfl
  have hUnplan := (dynStep_unplans (ringWritten ringId n own s)).lane_of_down (d := d) (by rw [hWritten]; rfl)
  rw [ringSettled, (dynStep_refreshConn _).lane_of_down (d := d) (by rw [hUnplan, hWritten]; rfl), hUnplan, hWritten]

/-- Writes of run-time fields before and after the new ring values and the emptying of the plan. -/
theorem frame_of_dynSteps {w w' w'' : Nat → Prop} {ringId n own : Nat} {a v : State} (hDrop : DynStep w s a)
    (hUnplan : DynStep w' (emptyPlan (newRing ringId n own a)) u) (hConn : DynStep w'' u v) : v = { s with
    node := { s.node with ringId := ringId, ringSize := n, own := own }, laneEast := v.laneEast, laneWest := v.laneWest,
    map := { s.map with others := [] },
    planner := { s.planner with committed := [], buffer := [], excluded := [], nextGrants := [], abandonCount := 0 },
    store := { s.store with records := v.store.records, changed := v.store.changed }, attn := v.attn } := by
  have hA := hDrop.frame
  have hU := hUnplan.frame
  have hV := hConn.frame
  rw [hA] at hU
  rw [hU] at hV
  rw [hV]
  rfl

/-- What a Set Ring writes before the Line Monitors are worked out (R26, R27, R117). -/
theorem ringSettled_frame (ringId n own : Nat) (s : State) : ringSettled ringId n own s = { s with
    node := { s.node with ringId := ringId, ringSize := n, own := own },
    laneEast := (ringSettled ringId n own s).laneEast, laneWest := (ringSettled ringId n own s).laneWest,
    map := { s.map with others := [] },
    planner := { s.planner with committed := [], buffer := [], excluded := [], nextGrants := [], abandonCount := 0 },
    store := { s.store with
      records := (ringSettled ringId n own s).store.records, changed := (ringSettled ringId n own s).store.changed },
    attn := (ringSettled ringId n own s).attn } :=
  frame_of_dynSteps (dynStep_dropDetours s) (dynStep_unplans (ringWritten ringId n own s)) (dynStep_refreshConn _)

/-- The Line Monitors worked out one after the other, each from its own inputs (R39, R41). -/
theorem evalMonitors_effects (s : State) :
    let t := evalMonitor .west (evalMonitor .east s)
    t = { s with monEast := t.monEast, monWest := t.monWest } ∧ ∀ d, MonitorWorked d s t := by
  intro t
  have ht : t = evalMonitor .west (evalMonitor .east s) := rfl
  have hFrame : t = { s with monEast := t.monEast, monWest := t.monWest } := by
    rw [ht, evalMonitor_eq .west, evalMonitor_eq .east]
    rfl
  have hWest : t.mon .west = (evalMonitor .west (evalMonitor .east s)).mon .west := rfl
  have hEast : t.mon .east = (evalMonitor .east s).mon .east := State.mon_setMon_other _ Side.west _
  have hKept : (evalMonitor .east s).mon .west = s.mon .west := State.mon_setMon_other _ Side.east _
  refine ⟨hFrame, fun d => ?_⟩
  cases d with
  | east =>
    have hMon : t.mon .east = (evalMonitor .east s).mon .east := hEast
    have hNow : t.defectsNow .east = (evalMonitor .east s).defectsNow .east := by
      rw [ht, State.defectsNow, State.defectsNow, sameInputs_evalMonitor_lane, ← ht, hMon, ht]
      generalize evalMonitor .east s = u
      rw [evalMonitor, State.lane_setMon, State.setMon_node]
    refine ⟨?_, ?_⟩
    · rw [hNow, defectsNow_evalMonitor, hMon, mon_evalMonitor]
    · rw [hMon, mon_evalMonitor]
  | west =>
    refine ⟨?_, ?_⟩
    · rw [ht, defectsNow_evalMonitor, mon_evalMonitor]
    · rw [hWest, mon_evalMonitor, hKept]

/-- In Configuring both own reports are Halted already, so that none is taken (R34, R53). -/
theorem refreshReports_of_halted (hState : s.node.state ≠ .running) (hEast : (s.map.own .east).content = Content.halted)
    (hWest : (s.map.own .west).content = Content.halted) : refreshReports s = compareSpans s := by
  have hComposed : ∀ d, s.composed d = Content.halted := fun d => if_pos hState
  rw [refreshReports, takeOwn_of_composed (d := .east) ((hComposed .east).trans hEast.symm),
    takeOwn_of_composed (d := .west) ((hComposed .west).trans hWest.symm)]

/-- What a Set Ring that changes the ring parameters makes of the state (R26, R27, R82, R88, R117, R139). -/
theorem changeRing_effects (ringId n own : Nat) (hSize : n ≠ 0) (hOwn : OwnComposed s) (hState : s.node.state = .configuring) :
    let w := ringSettled ringId n own s
    let t := changeRing ringId n own s
    t.node = { s.node with ringId := ringId, ringSize := n, own := own } ∧
      (∀ d, t.lane d = (s.lane d).newRing (decide (s.node.ringId = 0))) ∧
      (∀ d, t.report (ownKey n own d) = some (s.map.own d)) ∧
      (∀ key, key ≠ ownKey n own .east → key ≠ ownKey n own .west → t.report key = none) ∧
      t.map.delays = s.map.delays ∧ t.store = w.store ∧ SpanEffects w.attn t.planner s t ∧
      (∀ d, MonitorWorked d s t) ∧
      t.planner = { s.planner with committed := [], buffer := [], excluded := [], nextGrants := [], abandonCount := 0 } ∧
      t.fabric = { s.fabric with cadence := t.fabric.cadence } ∧ t.pending = s.pending := by
  intro w t
  have hFrame : w = _ := ringSettled_frame ringId n own s
  have hLane : ∀ d, w.lane d = (s.lane d).newRing (decide (s.node.ringId = 0)) := lane_ringSettled ringId n own s
  have hMonW : ∀ d, w.mon d = s.mon d := mon_ringSettled ringId n own s
  have ht : t = refreshReports (evalMonitor .west (evalMonitor .east w)) := changeRing_eq ringId n own s
  clear_value w t
  obtain ⟨hMons, hWorked⟩ := evalMonitors_effects w
  generalize evalMonitor .west (evalMonitor .east w) = z at *
  have hNode : z.node = { s.node with ringId := ringId, ringSize := n, own := own } := by rw [hMons, hFrame]
  have hMap : z.map = { s.map with others := [] } := by rw [hMons, hFrame]
  have hHalted : ∀ d, s.composed d = Content.halted := fun d => if_pos (by rw [hState]; exact nofun)
  have hConfiguring : z.node.state = .configuring := by rw [hNode]; exact hState
  have hSame : refreshReports z = compareSpans z :=
    refreshReports_of_halted (by rw [hConfiguring]; exact nofun)
      (by rw [hMap]; exact hOwn.1.trans (hHalted .east)) (by rw [hMap]; exact hOwn.2.trans (hHalted .west))
  have hSpans := spanEffects_compareSpans z
  have hEq := compareSpans_eq z
  have hDefects : ∀ d, t.defectsNow d = z.defectsNow d := fun d => by rw [ht, defectsNow_refreshReports]
  have hMonT : ∀ d, t.mon d = z.mon d := fun d => by rw [ht, mon_refreshReports]
  rw [← hSame, ← ht] at hSpans hEq
  clear ht hSame
  have hAttn : z.attn = w.attn := by rw [hMons]
  have hPlanner : t.planner = { s.planner with
      committed := [], buffer := [], excluded := [], nextGrants := [], abandonCount := 0 } := by
    rw [hSpans.planner_of_configuring (by rw [hEq]; exact hConfiguring), hMons, hFrame]
  have hSpansZ : z.map.spans = s.map.spans := by rw [hMap]
  have hCadence : z.fabric.cadence = s.fabric.cadence := by rw [hMons, hFrame]
  have hNodeT : t.node = { s.node with ringId := ringId, ringSize := n, own := own } := by rw [hEq]; exact hNode
  have hOthers : t.map.others = [] := by rw [hEq]; exact congrArg SpanMap.others hMap
  have hOwnT : ∀ d, t.map.own d = s.map.own d := fun d => by
    rw [hEq, hMap]
    cases d <;> rfl
  refine ⟨hNodeT, fun d => ?_, fun d => ?_, fun key hEast hWest => ?_, by rw [hEq, hMap],
    by rw [hEq, hMons], ?_, fun d => ?_, hPlanner, by rw [hEq, hMons, hFrame], by rw [hEq, hMons, hFrame]⟩
  · rw [← hLane, hEq, hMons]
    cases d <;> rfl
  · rw [← hOwnT, State.report, hNodeT]
    cases d with
    | east => exact if_pos ⟨hSize, rfl⟩
    | west => rw [if_neg fun h => ownKey_east_ne_west _ _ _ _ h.2.symm, if_pos ⟨hSize, rfl⟩]; rfl
  · rw [report_of_not_own (by rw [hNodeT]; exact hEast) (by rw [hNodeT]; exact hWest), hOthers]
    rfl
  · rw [hPlanner, ← hAttn]
    rw [hSpans.planner_of_configuring (by rw [hEq]; exact hConfiguring)] at hPlanner
    rw [← hPlanner]
    exact hSpans.of_spans hSpansZ hCadence
  · obtain ⟨hNow, hKept⟩ := hWorked d
    refine ⟨by rw [hMonT, hDefects]; exact hNow, ?_⟩
    rw [hMonT, ← hMonW]
    exact hKept

theorem unfit_eq_none {n own : Nat} (hFit : ∀ h, (s.record h).lifecycle = .active ∨ (s.record h).lifecycle = .retiring →
    (s.record h).plan.endsFit n = true ∧ portPresenceOk (s.record h).plan (s.record h).port own = true) :
    s.unfit n own = none := by
  rw [State.unfit, List.find?_eq_none]
  intro h _ hUnfit
  rw [Bool.and_eq_true, Bool.or_eq_true, decide_eq_true_eq, decide_eq_true_eq] at hUnfit
  obtain ⟨hPlan, hNot⟩ := hUnfit
  obtain ⟨hEnds, hPort⟩ := hFit h hPlan
  rw [fitsRing, hEnds, hPort] at hNot
  cases hNot

theorem clashUnder_eq_none {n : Nat} (hApart : ∀ h k, h ≠ k → (s.record h).lifecycle = .active →
    (s.record k).lifecycle = .active →
    slotClash n (s.record h).plan (s.record k).plan = false) : s.clashUnder n = none := by
  rw [State.clashUnder, List.find?_eq_none]
  intro h _ hClash
  rw [Bool.and_eq_true, decide_eq_true_eq] at hClash
  obtain ⟨hActive, hOther⟩ := hClash
  have hNone := (findOther_eq_none (s := s) (h := h)
      (f := fun r => decide (r.lifecycle = .active) && slotClash n r.plan (s.record h).plan) rfl).2 fun k hNe => by
    by_cases hk : (s.record k).lifecycle = .active
    · rw [hApart k h hNe hk hActive, Bool.and_false]
    · simp [hk]
  rw [hNone] at hOther
  cases hOther

theorem sameRing_eq_false {ringId n own : Nat} (hNew : ¬ (ringId = s.node.ringId ∧ n = s.node.ringSize ∧ own = s.node.own)) :
    s.sameRing ringId n own = false := by
  rw [State.sameRing, Bool.eq_false_iff]
  simpa only [ne_eq, Bool.and_eq_true, decide_eq_true_eq, and_assoc] using hNew

/-- A Set Ring whose checks pass and which changes a value is carried out (R26). -/
theorem carrySetRing_changes {ringId n own : Nat} (hState : s.node.state = .configuring) (hFields : ringFieldsOk ringId n own = true)
    (hUnfit : s.unfit n own = none) (hClash : s.clashUnder n = none) (hSame : s.sameRing ringId n own = false) :
    carrySetRing ringId n own s =
      { state := changeRing ringId n own s, status := .ok, data := (changeRing ringId n own s).node.ringBytes } := by
  rw [carrySetRing, if_neg (not_not.2 hState), hFields, hUnfit, hClash, hSame]
  simp only [Bool.not_true, Bool.false_eq_true, if_false]

/-- Settles O29: the checks pass, and the plan, the exchanges and the Span Map are emptied in one event. -/
theorem setRingEmptiesPlanAndMap : Obligations.SetRingEmptiesPlanAndMap := by
  intro s tag ringId n own hAccepts hTables hOwn hState hId hIdMax hSize hSizeMax hOwnN hFit hApart hNew
  have hCarry := carrySetRing_changes (s := clearHolder s) (ringId := ringId) (n := n) (own := own) hState
    (by simp [ringFieldsOk, hId, hIdMax, hSize, hSizeMax, hOwnN]) (unfit_eq_none hFit) (clashUnder_eq_none hApart)
    (sameRing_eq_false hNew)
  have hExec := exec_carried (i := .setRing tag ringId n own) (tag := tag) (fun _ => rfl) hAccepts hCarry (port_changeRing ..)
  obtain ⟨hNode, hLane, hOwnKeys, hOthers, hDelays, hStore, hSpans, hMons, hPlanner, hFabric, hPending⟩ :=
    changeRing_effects (s := clearHolder s) ringId n own (by omega) hOwn hState
  have hRecord := record_ringSettled (s := clearHolder s) ringId n own hTables.1
  have hMarks := marksRecords_ringSettled ringId n own (clearHolder s)
  have hChanged := fun hLaw => changed_ringSettled (s := clearHolder s) ringId n own hTables.1 hLaw
  have hListed := fun h => marks_ringSettled (s := clearHolder s) ringId n own (h := h) hTables.1
  have hFrame := ringSettled_frame ringId n own (clearHolder s)
  generalize ringSettled ringId n own (clearHolder s) = w at *
  generalize changeRing ringId n own (clearHolder s) = t at *
  have hRecordT : ∀ h, t.record h = w.record h := fun h => by rw [State.record, hStore, State.record]
  have hPlan : ∀ h, (s.record h).inPlan → t.record h = { s.record h with
      exchange := s.droppedExchange h, outcome := .unplanned, reason := .none, conn := .none } := fun h hPlan => by
    obtain ⟨hRing, hConn⟩ := hRecord h
    rw [hRecordT, hRing, hConn hPlan, (ringRecord_cases (clearHolder s) h).1 hPlan]
    rfl
  have hFields : ∀ h, (t.record h).lifecycle = (s.record h).lifecycle ∧ (t.record h).plan = (s.record h).plan ∧
      (t.record h).port = (s.record h).port ∧ (t.record h).code = (s.record h).code ∧
      (t.record h).exchange = s.droppedExchange h := fun h => by
    by_cases hIn : (s.record h).inPlan
    · rw [hPlan h hIn]
      exact ⟨rfl, rfl, rfl, rfl, rfl⟩
    · rw [hRecordT, (hRecord h).1, (ringRecord_cases (clearHolder s) h).2 hIn]
      exact ⟨rfl, rfl, rfl, rfl, rfl⟩
  refine ⟨_, hExec, hNode, fun d => ?_, hOwnKeys, hOthers, hDelays, fun h => ?_, fun h => (hFields h).2.2.2.2, fun h hIn hResult => ?_,
    fun hLaw h => ?_, ⟨w.attn, hSpans, hMarks.causes _ nofun, ?_⟩, hMons, fun h hIn => ?_, ?_, ?_, ?_, hPlanner, hFabric, ?_,
    hPending⟩
  · have hLaneT := hLane d
    rw [Lane.newRing_eq] at hLaneT
    simp only [decide_eq_true_eq] at hLaneT
    cases d <;> exact hLaneT
  · obtain ⟨hLife, hPlanning, hPort, hCode, -⟩ := hFields h
    exact ⟨hLife, hPlanning, hPort, hCode⟩
  · show h ∈ t.store.changed
    rw [hStore]
    exact hListed h hIn hResult
  · show h ∈ t.store.changed ↔ _
    rw [hStore]
    exact hChanged hLaw h
  · show _ ↔ _ ∨ _ ∧ t.store.changed ≠ []
    rw [hStore]
    exact hMarks.raised
  · have hR := hPlan h hIn
    exact ⟨congrArg Record.outcome hR, congrArg Record.reason hR, congrArg Record.conn hR⟩
  · show t.store.digest = s.store.digest
    rw [hStore, hFrame]
    rfl
  · show t.store.labelIndex = s.store.labelIndex
    rw [hStore, hFrame]
    rfl
  · show t.store.stream = s.store.stream
    rw [hStore, hFrame]
    rfl
  · show _ = (s.withRequest _ _ _ _).port
    rw [hNode]
    rfl

end Sys2Proof.Machine
end

section
/-!
PROOFS. The desired map (O53): the value that an entry takes from what all records write, as R123 states it of the rows of R122.
-/

namespace Sys2Proof.Machine

variable {s t u : State}

/-! ### What all records write -/

theorem writesOf_of_not_mem {h : Nat} (hk : h ∉ s.handles) : s.writesOf h = [] := by
  have hFree : s.record h = Record.free := Table.get_of_not_mem _ hk
  refine List.eq_nil_iff_forall_not_mem.2 fun ⟨i, v⟩ hMem => ?_
  rw [State.writesOf, hFree] at hMem
  obtain ⟨role, -, hRow⟩ := namesEntry_iff_role.1 (namesEntry_iff.2 hMem)
  cases role <;> simp [NamesAs, Record.free] at hRow

theorem mem_allWrites {i : Nat} {v : ConnValue} :
    (i, v) ∈ s.allWrites ↔ ∃ h, NamesEntry s.node.ringSize s.node.own (s.record h) i v := by
  simp only [State.allWrites, List.mem_flatMap, namesEntry_iff]
  refine ⟨fun ⟨h, _, hMem⟩ => ⟨h, hMem⟩, fun ⟨h, hMem⟩ => ⟨h, ?_, hMem⟩⟩
  by_contra hk
  have hNone := writesOf_of_not_mem hk
  rw [State.writesOf] at hNone
  rw [hNone] at hMem
  cases hMem

/-- Numbers that give nothing do not show in a concatenation. -/
theorem flatMap_filter_ne_nil {α β : Type} (f : α → List β) (l : List α) :
    (l.filter fun a => !(f a).isEmpty).flatMap f = l.flatMap f := by
  induction l with
  | nil => rfl
  | cons a l ih =>
    rw [List.filter_cons]
    split
    next => rw [List.flatMap_cons, List.flatMap_cons, ih]
    next hEmpty =>
      have hNil : f a = [] := by simpa using hEmpty
      rw [List.flatMap_cons, hNil, List.nil_append, ih]

/-- What all records write is told from what each writes: the records stand in ascending handle order. -/
theorem allWrites_congr (hs : Table.wf Record.free s.store.records = true) (ht : Table.wf Record.free t.store.records = true)
    (hEach : ∀ h, t.writesOf h = s.writesOf h) : t.allWrites = s.allWrites := by
  have hListed : ∀ {v : State} {h : Nat}, (!(v.writesOf h).isEmpty) = true → h ∈ v.handles := fun {v h} hSome => by
    by_contra hk
    rw [writesOf_of_not_mem hk] at hSome
    cases hSome
  have hSame : t.writesOf = s.writesOf := funext hEach
  have hFilter : (t.handles.filter fun h => !(t.writesOf h).isEmpty) = s.handles.filter fun h => !(s.writesOf h).isEmpty := by
    refine List.Perm.eq_of_pairwise (le := (· < ·)) (fun a b _ _ h k => absurd h (Nat.lt_asymm k))
      ((handles_pairwise ht).sublist List.filter_sublist) ((handles_pairwise hs).sublist List.filter_sublist)
      ((List.perm_ext_iff_of_nodup ((handles_nodup ht).filter _) ((handles_nodup hs).filter _)).2 fun h => ?_)
    simp only [List.mem_filter]
    constructor
    · rintro ⟨-, hSome⟩
      rw [hEach] at hSome
      exact ⟨hListed hSome, hSome⟩
    · rintro ⟨-, hSome⟩
      rw [← hEach] at hSome
      exact ⟨hListed hSome, hSome⟩
  rw [State.allWrites, State.allWrites, ← flatMap_filter_ne_nil t.writesOf, hFilter, hSame, flatMap_filter_ne_nil]

/-! ### The value of an entry -/

/-- The value that an entry takes follows R123. -/
theorem desiredFollows_resolveEntry (s : State) (i : Nat) : DesiredFollows s i (resolveEntry s.allWrites i) := by
  unfold DesiredFollows
  set names := fun h w => NamesEntry s.node.ringSize s.node.own (s.record h) i w with hDef
  have hNames : ∀ v, (∃ h, names h v) ↔ (i, v) ∈ s.allWrites := fun v => mem_allWrites.symm
  unfold resolveEntry
  cases hFind : s.allWrites.find? fun w => decide (w.1 = i) && decide (w.2 ≠ .void) with
  | some p =>
    obtain ⟨j, x⟩ := p
    have hGives := List.find?_some hFind
    have hMem := List.mem_of_find?_eq_some hFind
    simp only [Bool.and_eq_true, decide_eq_true_eq] at hGives
    obtain ⟨rfl, hx⟩ := hGives
    obtain ⟨k, hk⟩ := (hNames x).2 hMem
    exact ⟨fun h w _ _ hAgree => (hAgree k x hk).resolve_left hx, fun h w _ hAll => absurd (hAll k x hk) hx,
      fun hNone => absurd hk (hNone k x)⟩
  | none =>
    have hOnlyVoid : ∀ h w, names h w → w = .void := fun h w hw => by
      have hNot := List.find?_eq_none.1 hFind _ ((hNames w).1 ⟨h, hw⟩)
      simpa using hNot
    dsimp only
    refine ⟨fun h w hw hNe _ => absurd (hOnlyVoid h w hw) hNe, fun h w hw _ => if_pos ?_, fun hNone => if_neg fun hAny => ?_⟩
    · rw [List.any_eq_true]
      exact ⟨_, (hNames w).1 ⟨h, hw⟩, by simp⟩
    · obtain ⟨⟨j, w⟩, hMem, hj⟩ := List.any_eq_true.1 hAny
      obtain rfl : j = i := by simpa using hj
      obtain ⟨h, hw⟩ := (hNames w).2 hMem
      exact hNone h w hw

end Sys2Proof.Machine
end

section
/-!
PROOFS. The writes of the commit up to where the Confirmation Unit is handed the outcomes (O53): the plan, the outcomes, the freed
records, the digest and the desired map.
-/

namespace Sys2Proof.Machine

variable {s t u : State}

/-! ### The outcomes -/

/-- The outcomes that a commit writes mark the records whose outcome or reason changes (R108). -/
theorem changed_writeResults (hs : Table.wf Record.free s.store.records = true) (k : Nat) :
    (k ∈ s.store.changed → k ∈ (writeResults s).store.changed) ∧
      ((s.record k).outcome ≠ (committedResult s.planner.buffer k (s.record k)).1 ∨
          (s.record k).reason ≠ (committedResult s.planner.buffer k (s.record k)).2 →
        k ∈ (writeResults s).store.changed) := by
  have hOne : ∀ (h : Nat) (u : State) (j : Nat), j ∈ (writeResult h (committedResult s.planner.buffer h (s.record h)).1
      (committedResult s.planner.buffer h (s.record h)).2 u).store.changed ↔ j ∈ u.store.changed ∨
        (j = h ∧ ((u.record h).outcome ≠ (committedResult s.planner.buffer h (s.record h)).1 ∨
          (u.record h).reason ≠ (committedResult s.planner.buffer h (s.record h)).2)) := fun h u j => by
    rw [writeResult, mem_changed_markChangedIf, Bool.or_eq_true, decide_eq_true_eq, decide_eq_true_eq, State.setRec]
    tauto
  have hRun : ∀ (l : List Nat) (u : State), (∀ h ∈ l, u.record h = s.record h) → l.Nodup → ∀ j,
      j ∈ (forEach l (fun h t => writeResult h (committedResult s.planner.buffer h (s.record h)).1
        (committedResult s.planner.buffer h (s.record h)).2 t) u).store.changed ↔ j ∈ u.store.changed ∨
          (j ∈ l ∧ ((s.record j).outcome ≠ (committedResult s.planner.buffer j (s.record j)).1 ∨
            (s.record j).reason ≠ (committedResult s.planner.buffer j (s.record j)).2)) := by
    intro l
    induction l with
    | nil => simp [forEach]
    | cons h l ih =>
      intro u hSame hNodup j
      obtain ⟨hNew, hRest⟩ := List.nodup_cons.1 hNodup
      rw [forEach_cons, ih _ (fun k hk => ?_) hRest, hOne, hSame h (by simp)]
      · by_cases hj : j = h
        · subst hj; simp [hNew]
        · simp [hj]
      · rw [record_writeResult, if_neg (ne_of_mem_of_not_mem hk hNew)]
        exact hSame k (List.mem_cons_of_mem _ hk)
  have hMem := hRun s.handles s (fun _ _ => rfl) (handles_nodup hs) k
  refine ⟨fun h => hMem.2 (.inl h), fun hNe => hMem.2 (.inr ⟨?_, hNe⟩)⟩
  by_contra hk
  have hFree : s.record k = Record.free := Table.get_of_not_mem _ hk
  rw [hFree] at hNe
  exact hNe.elim (fun h => h rfl) fun h => h rfl

theorem marksRecords_writeResults (s : State) : MarksRecords s (writeResults s) :=
  .forEach (fun h u => .writeResult h _ _ u) _ s

theorem lane_writeResults (d : Side) (s : State) : (writeResults s).lane d = s.lane d := by
  have hRun : ∀ (l : List Nat) (f : Nat → Outcome × Reason) (u : State),
      (forEach l (fun h t => writeResult h (f h).1 (f h).2 t) u).lane d = u.lane d := fun l f => by
    induction l with
    | nil => exact fun _ => rfl
    | cons h l ih =>
      intro u
      rw [forEach_cons, ih, writeResult, lane_markChangedIf]
      cases d <;> rfl
  exact hRun s.handles (fun h => committedResult s.planner.buffer h (s.record h)) s

/-! ### The records that become Free -/

theorem freeRecords_effects (l : List Nat) (s : State) :
    forEach l freeRecord s = { s with store := { s.store with
        records := (forEach l freeRecord s).store.records, labelIndex := (forEach l freeRecord s).store.labelIndex,
        changed := (forEach l freeRecord s).store.changed } } ∧
      ∀ k, k ∈ (forEach l freeRecord s).store.changed ↔ k ∉ l ∧ k ∈ s.store.changed := by
  induction l generalizing s with
  | nil => exact ⟨rfl, fun k => by simp [forEach]⟩
  | cons h l ih =>
    obtain ⟨hFrame, hChanged⟩ := ih (freeRecord h s)
    rw [forEach_cons]
    refine ⟨?_, fun k => ?_⟩
    · generalize forEach l freeRecord (freeRecord h s) = t at *
      rw [hFrame]
      rfl
    · rw [hChanged]
      have hOne : k ∈ (freeRecord h s).store.changed ↔ k ≠ h ∧ k ∈ s.store.changed := by
        exact (mem_setErase _ _ _).trans and_comm
      rw [hOne, List.mem_cons, not_or]
      tauto

theorem wf_freeRecords (l : List Nat) (hs : Table.wf Record.free s.store.records = true) :
    Table.wf Record.free (forEach l freeRecord s).store.records = true := by
  induction l generalizing s with
  | nil => exact hs
  | cons h l ih => exact ih (wf_freeRecord h hs)

/-! ### Up to the Confirmation Unit -/

/-- What the commit writes before the Confirmation Unit is handed the outcomes (R107 to R109, R122 to R124). -/
structure CommitWritten (s a : State) : Prop where
  frame : a = { s with
    store := { s.store with
      records := a.store.records, labelIndex := a.store.labelIndex, digest := a.store.digest, changed := a.store.changed },
    laneEast := a.laneEast, laneWest := a.laneWest, attn := a.attn,
    planner := { s.planner with committed := s.planner.nextGrants, commitNumber := s.planner.commitNumber + 1 },
    fabric := { s.fabric with entries := a.fabric.entries, resyncDone := s.fabric.resyncDone || s.isResync } }
  records : Table.wf Record.free a.store.records = true
  entries : Table.wf Entry.untouched a.fabric.entries = true
  record : ∀ k, a.record k = if k ∈ s.freedByCommit then Record.free else (s.record k).planned s.planner.buffer k
  marks : ∀ k, k ∉ s.freedByCommit → ((s.record k).outcome ≠ (committedResult s.planner.buffer k (s.record k)).1 ∨
    (s.record k).reason ≠ (committedResult s.planner.buffer k (s.record k)).2) → k ∈ a.store.changed
  unmarked : ∀ k ∈ s.freedByCommit, k ∉ a.store.changed
  lanes : LanesButDigest false s a
  entry : ∀ j, a.entry j =
    if j < 512 then (s.entry j).commit (resolveEntry a.allWrites j) s.isResync else Entry.untouched

theorem commitWritten_effects (hs : Table.wf Record.free s.store.records = true) : CommitWritten s (commitWritten s) := by
  have hRecord := record_commitWritten hs
  have hResults := dynStep_writeResults (installPlan s)
  have hMarks := changed_writeResults (s := installPlan s) hs
  have hCauses := (marksRecords_writeResults (installPlan s)).causes
  have hFreed := freedByCommit_writeResults hs
  have hWf := hResults.canonical hs
  have hCommit : commitWritten s = deriveMap (freeExcluded (writeResults (installPlan s))) := rfl
  have hLaneW : ∀ d, (writeResults (installPlan s)).lane d = s.lane d := fun d =>
    (lane_writeResults d (installPlan s)).trans (by cases d <;> rfl)
  generalize writeResults (installPlan s) = v at *
  obtain ⟨hFreeFrame, hFreeChanged⟩ := freeRecords_effects v.freedByCommit v
  have hFreeWf := wf_freeRecords v.freedByCommit hWf
  have hFreeEq : freeExcluded v = setDigest (v.store.digest - v.codeSum v.freedByCommit) (forEach v.freedByCommit freeRecord v) := rfl
  have hLanes := lanesButDigest_setDigest (v.store.digest - v.codeSum v.freedByCommit) (forEach v.freedByCommit freeRecord v)
  have hDigest := setDigest_eq (v.store.digest - v.codeSum v.freedByCommit) (forEach v.freedByCommit freeRecord v)
  rw [← hFreeEq] at hLanes hDigest
  generalize forEach v.freedByCommit freeRecord v = x at *
  generalize freeExcluded v = y at *
  have hMap := deriveMap_eq y
  have hEntries := canonical_deriveMap y
  have hEntry := fun j => entry_deriveMap j y
  have hResync : (deriveMap y).fabric.resyncDone = (y.fabric.resyncDone || y.isResync) := rfl
  rw [← hCommit] at hMap hEntries hEntry hResync
  have hSame : y.planner.excluded = s.planner.excluded ∧ y.node = s.node ∧ y.fabric = s.fabric := by
    rw [hDigest, hFreeFrame, hResults.frame]
    exact ⟨rfl, rfl, rfl⟩
  obtain ⟨-, hNode, hFabric⟩ := hSame
  have hIsResync : y.isResync = s.isResync := by rw [State.isResync, hNode, hFabric, State.isResync]
  have hEntrySame : ∀ j, y.entry j = s.entry j := fun j => by rw [State.entry, hFabric, State.entry]
  generalize commitWritten s = a at *
  have hWrites : a.allWrites = y.allWrites := by rw [hMap]; rfl
  have hStore : a.store = y.store := by rw [hMap]
  have hChanged : y.store.changed = x.store.changed := by rw [hDigest]
  refine ⟨?_, ?_, hEntries, hRecord, fun k hk hNe => ?_, fun k hk => ?_, ?_, fun j => ?_⟩
  · have hDone : a.fabric.resyncDone = (s.fabric.resyncDone || s.isResync) := by rw [hResync, hFabric, hIsResync]
    rw [hDone] at hMap
    rw [hMap, hDigest, hFreeFrame, hResults.frame]
    rfl
  · rw [hStore, hDigest]
    exact hFreeWf
  · rw [hStore, hChanged, hFreeChanged, hFreed]
    exact ⟨hk, (hMarks k).2 hNe⟩
  · rw [hStore, hChanged, hFreeChanged, hFreed]
    exact fun h => h.1 hk
  · refine hLanes.congr (fun d => ?_) ?_ ?_ (fun d => ?_) ?_ ?_
    · rw [← hLaneW, hFreeFrame]; cases d <;> rfl
    · rw [hFreeFrame, hResults.frame]; rfl
    · rw [hFreeFrame]; exact (hCauses .tableDisagreement (by decide)).symm
    · rw [hMap]; cases d <;> rfl
    · rw [hStore]
    · rw [hMap]
  · rw [hEntry, hEntrySame, hIsResync, hWrites]

end Sys2Proof.Machine
end

section
/-!
PROOFS. The outcomes handed to the Confirmation Unit in the commit (O53): which exchanges start, are cleared, or stand.
-/

namespace Sys2Proof.Machine

variable {s t u a : State}

/-- The exchange with which a record comes onto its detour (R139). -/
def Exchange.pending : Exchange := { Exchange.idle with state := .pending }

/-- This end's role for a record that comes onto its detour with its local connection applied (R139, R140). -/
def State.startsWith (s : State) (before : Outcome) (h : Nat) : Option Role :=
  (s.endRole h).filter fun r =>
    decide (before ≠ .detour ∧ (s.record h).outcome = .detour ∧ s.node.state ≠ .configuring) && s.localApplied h r

theorem startsWith_eq_some {before : Outcome} {h : Nat} {r : Role} : s.startsWith before h = some r ↔
    s.endRole h = some r ∧ before ≠ .detour ∧ (s.record h).outcome = .detour ∧ s.node.state ≠ .configuring ∧
      s.LocalApplied h r := by
  rw [State.startsWith, Option.filter_eq_some_iff, Bool.and_eq_true, decide_eq_true_eq, localApplied_iff, and_assoc, and_assoc]

/-- The exchange of a record after the Confirmation Unit was handed its outcome (R139 to R141). -/
def State.outcomeExchange (s : State) (before : Outcome) (h : Nat) : Exchange :=
  if (s.endRole h).isSome = true ∧ before ≠ .detour ∧ (s.record h).outcome = .detour then
    if (s.startsWith before h).isSome then Exchange.pending.started s.confirmTime else Exchange.pending
  else if (s.endRole h).isSome = true ∧ before = .detour ∧ (s.record h).outcome ≠ .detour then Exchange.idle
  else (s.record h).exchange

/-- What a record sends on a lane when its outcome is handed on (R141, R142). -/
def State.outcomeConfirm (s : State) (before : Outcome) (h : Nat) (e : Side) : List PathConfirm :=
  match s.startsWith before h with
  | some r => if e = (s.record h).plan.detourSide r then [s.confirmFor h r false] else []
  | none => []

theorem outcome_congr {before : Outcome} {h : Nat} (hRecord : u.record h = s.record h) (hNode : u.node = s.node)
    (hFabric : u.fabric = s.fabric) :
    u.outcomeExchange before h = s.outcomeExchange before h ∧ u.outcomeConfirm before h = s.outcomeConfirm before h := by
  have hStarts : u.startsWith before h = s.startsWith before h := by
    unfold State.startsWith State.endRole State.localApplied State.entry
    rw [hRecord, hNode, hFabric]
  refine ⟨?_, funext fun e => ?_⟩
  · unfold State.outcomeExchange State.confirmTime State.endRole
    rw [hStarts, hRecord, hNode]
  · unfold State.outcomeConfirm State.confirmFor
    rw [hStarts, hRecord, hNode]

/-- The test of a record that has just come onto its detour. -/
theorem tested_of_pending {before : Outcome} {h : Nat} (hEnters : before ≠ .detour ∧ (u.record h).outcome = .detour) :
    (setExchange h Exchange.pending u).tested h = u.startsWith before h := by
  have hRecord : (setExchange h Exchange.pending u).record h = { u.record h with exchange := Exchange.pending } := by
    rw [record_setExchange, if_pos rfl]
  have hFrame := (exchangeStep_setExchange h Exchange.pending u).frame
  have hNode : (setExchange h Exchange.pending u).node = u.node := by rw [hFrame]
  have hFabric : (setExchange h Exchange.pending u).fabric = u.fabric := by rw [hFrame]
  unfold State.tested State.startsWith State.endRole State.localApplied State.entry
  rw [hRecord, hNode, hFabric]
  simp [hEnters, Exchange.pending]

theorem exchangeStep_confirmOutcome (h : Nat) (before : Outcome) (u : State) :
    ExchangeStep h (u.outcomeExchange before h) (u.outcomeConfirm before h) u (confirmOutcome h before u) := by
  have hSome : u.startsWith before h ≠ none →
      (u.endRole h).isSome = true ∧ before ≠ .detour ∧ (u.record h).outcome = .detour := fun hNe => by
    obtain ⟨r, hr⟩ := Option.ne_none_iff_exists'.1 hNe
    obtain ⟨hRole, hBefore, hNow, -⟩ := startsWith_eq_some.1 hr
    exact ⟨by rw [hRole]; rfl, hBefore, hNow⟩
  have hQuiet : ¬ ((u.endRole h).isSome = true ∧ before ≠ .detour ∧ (u.record h).outcome = .detour) →
      u.outcomeConfirm before h = fun _ => [] := fun hNot => by
    have hNone : u.startsWith before h = none := not_not.1 fun hNe => hNot (hSome hNe)
    unfold State.outcomeConfirm
    rw [hNone]
  unfold confirmOutcome
  cases hRole : u.endRole h with
  | none =>
    rw [hQuiet (by simp [hRole]), State.outcomeExchange, if_neg (by simp [hRole]), if_neg (by simp [hRole])]
    exact exchangeStep_same h u
  | some r =>
    dsimp only
    by_cases hEnters : before ≠ .detour ∧ (u.record h).outcome = .detour
    · rw [if_pos hEnters, State.outcomeExchange, if_pos ⟨by rw [hRole]; rfl, hEnters⟩]
      have hSteps := (exchangeStep_setExchange h Exchange.pending u).trans
        (exchangeStep_testLocal h (setExchange h Exchange.pending u))
      have hRecord : (setExchange h Exchange.pending u).record h = { u.record h with exchange := Exchange.pending } := by
        rw [record_setExchange, if_pos rfl]
      have hNode : (setExchange h Exchange.pending u).node = u.node := by rw [setExchange_frame]
      have hExchange : (setExchange h Exchange.pending u).testedExchange h =
          if (u.startsWith before h).isSome then Exchange.pending.started u.confirmTime else Exchange.pending := by
        unfold State.testedExchange State.confirmTime
        rw [tested_of_pending hEnters, hRecord, hNode]
        cases u.startsWith before h with
        | none => rfl
        | some r => rfl
      have hConfirm : (fun e => [] ++ (setExchange h Exchange.pending u).testedConfirm h e) = u.outcomeConfirm before h := by
        funext e
        unfold State.testedConfirm State.outcomeConfirm State.confirmFor
        rw [tested_of_pending hEnters, hRecord, hNode, List.nil_append]
        rfl
      rw [hExchange, hConfirm] at hSteps
      exact hSteps
    · rw [if_neg hEnters, hQuiet fun hAll => hEnters hAll.2, State.outcomeExchange, if_neg fun hAll => hEnters hAll.2]
      by_cases hLeaves : before = .detour ∧ (u.record h).outcome ≠ .detour
      · rw [if_pos hLeaves, if_pos ⟨by rw [hRole]; rfl, hLeaves⟩]
        exact exchangeStep_setExchange h Exchange.idle u
      · rw [if_neg hLeaves, if_neg fun hAll => hLeaves hAll.2]
        exact exchangeStep_same h u

theorem exchangeRun_handOutcomes (old : State) (hs : Table.wf Record.free a.store.records = true) :
    ExchangeRun a.handles (fun h => a.outcomeExchange (old.record h).outcome h) (fun h => a.outcomeConfirm (old.record h).outcome h) a
      (handOutcomes old a) :=
  exchangeRun_forEach (handles_nodup hs) fun h _ u hRecord hNode hFabric => by
    obtain ⟨hExchange, hConfirm⟩ := outcome_congr (before := (old.record h).outcome) hRecord hNode hFabric
    rw [← hExchange, ← hConfirm]
    exact exchangeStep_confirmOutcome h _ u

end Sys2Proof.Machine
end

section
/-!
PROOFS. The commit (O53): the exchanges, the driver's choice, the connection statuses and the next sweep, up to the test for the entry to
Running.
-/

namespace Sys2Proof.Machine

variable {s t u a : State}

/-- The Planner at the end of the commit, in a state (R94, R111). -/
def State.afterCommit (s : State) : Planner :=
  if s.planner.replan then { s.planner with
      phase := .gathering, gatherPos := 0, snapshot := s.takeSnapshot, buffer := [], excluded := [], late := [],
      nextGrants := [], replan := false, abandonCount := 0 }
  else { s.planner with phase := .idle, abandonCount := 0 }

theorem endCommit_eq (s : State) : endCommit s = { s with planner := s.afterCommit } := by
  unfold endCommit State.afterCommit
  dsimp only
  split <;> rfl

/-- What the commit leaves, from the state `a` in which the Confirmation Unit is handed the outcomes. -/
structure CommitSettled (s a t : State) : Prop where
  record : ∀ k, t.record k =
    { a.record k with conn := (t.record k).conn, exchange := a.outcomeExchange (s.record k).outcome k }
  conn : ∀ k, (t.record k).conn = t.connNow k
  follows : ConnFollows s t
  kept : ∀ k, k ∈ a.store.changed → k ∈ t.store.changed
  unmarked : ∀ k, a.record k = Record.free → k ∉ a.store.changed → k ∉ t.store.changed
  lanes : ∀ e, t.lane e = { a.lane e with
    queue := (a.lane e).queued (a.handles.flatMap fun h => a.outcomeConfirm (s.record h).outcome h e) }
  records : Table.wf Record.free t.store.records = true
  sends : a.fabric.outstanding = none → a.fabric.responseTimer = none → SendsNext a.node.state a.fabric a.entry t
  waits : a.fabric.outstanding ≠ none → t.fabric = a.fabric
  entry : ∀ i, t.entry i = a.entry i ∨ (a.entry i).status = .dirty ∧ t.entry i = { a.entry i with status := .inFlight }
  frame : t = { a with
    store := { a.store with records := t.store.records, changed := t.store.changed },
    laneEast := t.laneEast, laneWest := t.laneWest, attn := t.attn,
    planner := a.afterCommit,
    fabric := { a.fabric with
      entries := t.fabric.entries, outstanding := t.fabric.outstanding, responseTimer := t.fabric.responseTimer,
      tagCounter := t.fabric.tagCounter, tx := t.fabric.tx } }
  causes : ∀ c, c ≠ .recordsChanged → causeIn t.attn.pending c = causeIn a.attn.pending c

/-- The exchange of a record that a commit frees, or that was Free, is idle. -/
theorem outcomeExchange_of_free {before : Outcome} {k : Nat} (hFree : a.record k = Record.free) :
    a.outcomeExchange before k = Exchange.idle := by
  unfold State.outcomeExchange
  rw [hFree, if_neg (by simp [Record.free])]
  split <;> rfl

theorem connNow_of_free {k : Nat} (hFree : a.record k = Record.free) : a.connNow k = .none :=
  connNow_of_unplanned (by rw [hFree]; rfl)

theorem commitSettled_effects (hRecords : Table.wf Record.free a.store.records = true)
    (hEntries : Table.wf Entry.untouched a.fabric.entries = true)
    (hConnBefore : ∀ k, (a.record k).conn = (s.record k).conn ∨ a.record k = Record.free) :
    CommitSettled s a (endCommit (refreshConn (dispatch (handOutcomes s a)))) := by
  have hRun := exchangeRun_handOutcomes s hRecords
  have hHand := dynStep_handOutcomes s a
  have hRecord : ∀ k, (handOutcomes s a).record k =
      { a.record k with exchange := a.outcomeExchange (s.record k).outcome k } := fun k => by
    rw [hRun.record]
    split
    · rfl
    next hk =>
      have hFree : a.record k = Record.free := Table.get_of_not_mem _ hk
      rw [outcomeExchange_of_free hFree, hFree]
      rfl
  generalize handOutcomes s a = b at *
  have hEntryB : ∀ i, b.entry i = a.entry i := hHand.entry
  have hWfB : Table.wf Entry.untouched b.fabric.entries = true := by rw [hHand.fabric]; exact hEntries
  have hSends : a.fabric.outstanding = none → a.fabric.responseTimer = none →
      SendsNext a.node.state a.fabric a.entry (dispatch b) := fun hFree hTimer => by
    have hNext := sendsNext_dispatch (s := b) hWfB (by rw [hHand.fabric]; exact hFree) (by rw [hHand.fabric]; exact hTimer)
    rwa [hHand.node, hHand.fabric, funext hEntryB] at hNext
  have hWaits : a.fabric.outstanding ≠ none → (dispatch b).fabric = a.fabric := fun hBusy => by
    rw [dispatch, if_pos (.inl (by rw [hHand.fabric]; exact hBusy)), hHand.fabric]
  have hDispatch := dispatch_eq b
  have hEntry := entry_dispatch hWfB
  simp only [hEntryB] at hEntry
  have hDispatched := fun k => record_dispatch k b
  generalize dispatch b = x at *
  have hLaneX : ∀ e, x.lane e = b.lane e := fun e => by rw [hDispatch]; cases e <;> rfl
  have hWfX : Table.wf Record.free x.store.records = true := by rw [hDispatch]; exact hHand.canonical hRecords
  obtain ⟨hConnRecord, hConnChanged, hConnLane, hConnCause⟩ := refreshConn_effects hWfX
  have hConnStep := dynStep_refreshConn x
  have hConn := connFollows_refreshConn (s := s) hWfX fun h => by
    rw [hDispatched, hRecord]
    refine (hConnBefore h).imp id fun hFree => connNow_of_unplanned ?_
    rw [hDispatched, hRecord, hFree]
    rfl
  have hWfY := hConnStep.canonical hWfX
  generalize refreshConn x = y at *
  have hEnd := endCommit_eq y
  generalize endCommit y = t at *
  obtain ⟨hNow, hFollows⟩ := hConn
  have hStoreT : t.store = y.store := by rw [hEnd]
  have hRecordT : ∀ k, t.record k = y.record k := fun k => by rw [State.record, hStoreT, State.record]
  have hEntryT : ∀ i, t.entry i = y.entry i := fun i => by rw [hEnd]; rfl
  have hLaneT : ∀ e, t.lane e = b.lane e := fun e => by
    rw [← hLaneX, ← hConnLane, hEnd]
    cases e <;> rfl
  have hFabricT : t.fabric = x.fabric := by rw [hEnd]; exact hConnStep.fabric
  refine ⟨fun k => ?_, fun k => ?_, ?_, fun k hk => ?_, fun k hFree hk => ?_, fun e => ?_, by rw [hStoreT]; exact hWfY,
    fun hFree hTimer => ?_, fun hBusy => hFabricT.trans (hWaits hBusy), fun i => ?_, ?_, fun c hc => ?_⟩
  · rw [hRecordT, hConnRecord, hDispatched, hRecord]
  · rw [hRecordT, hNow k, hEnd]
    rfl
  · exact hFollows.congr (fun _ => rfl) (by rw [hEnd]) (by rw [hEnd]) hRecordT hEntryT fun k hk => by rw [hStoreT]; exact hk
  · rw [hStoreT, hConnChanged, hDispatch]
    exact .inl (hRun.kept k hk)
  · rw [hStoreT, hConnChanged]
    have hFreeX : x.record k = Record.free := by
      rw [hDispatched, hRecord, hFree, outcomeExchange_of_free hFree]
      rfl
    rintro (hMem | ⟨hNe, -⟩)
    · rw [hDispatch] at hMem
      rcases hRun.only k hMem with hOld | hListed
      · exact hk hOld
      · exact (mem_handles_iff hRecords).1 hListed hFree
    · rw [connNow_of_free hFreeX, hFreeX] at hNe
      exact hNe rfl
  · rw [hLaneT, hRun.lanes]
  · exact (hSends hFree hTimer).congr rfl rfl rfl rfl (fun _ => rfl) (by rw [hFabricT]) (by rw [hFabricT]) (by rw [hFabricT])
      (by rw [hFabricT]) (by rw [hFabricT])
  · rw [hEntryT, hConnStep.entry]
    exact hEntry i
  · have hAfter : y.afterCommit = a.afterCommit := by
      have hNode : y.node = a.node := by rw [hConnStep.node, hDispatch, hHand.node]
      have hMap : y.map = a.map := by rw [hConnStep.map, hDispatch, hHand.map]
      have hPlanner : y.planner = a.planner := by rw [hConnStep.planner, hDispatch, hHand.planner]
      unfold State.afterCommit State.takeSnapshot State.heldSpan
      rw [hNode, hMap, hPlanner]
    rw [hEnd, hAfter, hConnStep.frame, hDispatch, hHand.frame]
  · rw [hEnd]
    exact (hConnCause c hc).trans (by rw [hDispatch]; exact hRun.causes c hc)

end Sys2Proof.Machine
end

section
/-!
PROOFS. The commit as one event (O53).
-/

namespace Sys2Proof.Machine

variable {s t u a : State}

/-! ### The readiness of a sweep, and what its buffer gives -/

theorem readyToCommit_of {p : Planner} (hEnded : PassesEnded p) (hNoExtra : ∀ e ∈ p.buffer, e.verdict ≠ .forExtra) :
    p.readyToCommit = true := by
  rw [Planner.readyToCommit, settledPhase_of_ended hEnded]
  have hNone : hasMark p.buffer .forExtra = false := by
    unfold hasMark
    simpa using hNoExtra
  rw [hNone]
  rfl

theorem committedResult_of_entry {buffer : List PlanEntry} (hApart : buffer.Pairwise fun a b => a.handle ≠ b.handle)
    {e : PlanEntry} (hMem : e ∈ buffer) {o : Outcome} {w : Reason} (hVerdict : e.verdict = .settled o w) {r : Record}
    (hLife : r.lifecycle = .active ∨ r.lifecycle = .retiring) : committedResult buffer e.handle r = (o, w) := by
  have hFind : buffer.find? (fun x => decide (x.handle = e.handle)) = some e := by
    induction buffer with
    | nil => cases hMem
    | cons x l ih =>
      obtain ⟨hNe, hRest⟩ := List.pairwise_cons.1 hApart
      rcases List.mem_cons.1 hMem with rfl | hIn
      · simp
      · rw [List.find?_cons_of_neg (by simpa using hNe e hIn)]
        exact ih hRest hIn
  unfold committedResult
  rcases hLife with h | h <;> rw [h] <;> dsimp only <;> rw [hFind] <;> dsimp only <;> rw [hVerdict]

theorem committedResult_of_none {buffer : List PlanEntry} {h : Nat} (hNone : ∀ e ∈ buffer, e.handle ≠ h) {r : Record}
    (hActive : r.lifecycle = .active) : committedResult buffer h r = (.unplanned, .none) := by
  have hFind : buffer.find? (fun x => decide (x.handle = h)) = none := by simpa using hNone
  unfold committedResult
  rw [hActive]
  dsimp only
  rw [hFind]
  rfl

theorem mem_freedByCommit {k : Nat} : k ∈ s.freedByCommit ↔ k ∈ s.planner.excluded ∧ (s.record k).lifecycle = .retiring := by
  rw [State.freedByCommit, List.mem_filter, decide_eq_true_eq]

/-! ### One entry -/

theorem Entry.commit_status (e : Entry) (v : ConnValue) (resync : Bool) : (e.commit v resync).status =
    if e.status = .inFlight then .inFlight
    else if e.status = .dirty ∨ resync = true ∨ v ≠ e.desired then .dirty
    else e.status := by
  unfold Entry.commit
  dsimp only
  cases e.status <;> simp

theorem Entry.commit_applied (e : Entry) (v : ConnValue) (resync : Bool) :
    (e.commit v resync).status = .applied ↔ e.status = .applied ∧ resync = false ∧ v = e.desired := by
  rw [Entry.commit_status]
  cases e.status <;> cases resync <;> by_cases hv : v = e.desired <;> simp [hv]

/-! ### The commit is one event -/

/-- The test for the entry to Running fails where the commit leaves work for the driver (R33). -/
theorem runningCheck_commitSettled (hTables : TablesCanonical s) (hFabric : FabricSound s)
    (hDue : s.node.state = .syncing → s.fabric.resyncDone = false ∨ s.fabric.outstanding ≠ none ∨ s.dirtySet ≠ [])
    (hC : CommitSettled s (commitWritten s) (commitSettled s)) (hW : CommitWritten s (commitWritten s)) :
    runningCheck (commitSettled s) = commitSettled s := by
  have hAfter : TablesCanonical (commitSettled s) ∧ FabricSound (commitSettled s) :=
    (atoms_commitSettled (w := everyRegion) trivial trivial s).keeps (P := fun u => TablesCanonical u ∧ FabricSound u)
      (fun _ _ hAtom ⟨hT, hF⟩ => ⟨hAtom.tablesCanonical hT, hAtom.fabricSound hT hF⟩) ⟨hTables, hFabric⟩
  refine if_neg ?_
  rintro ⟨hSyncing, -, hClean, hFree⟩
  obtain ⟨-, -, -, -, -, -, -, hEntries⟩ := id hTables
  have hSState : s.node.state = .syncing := by
    have hNode : (commitSettled s).node = s.node := by rw [hC.frame, hW.frame]
    rwa [hNode] at hSyncing
  have hOut : (commitWritten s).fabric.outstanding = s.fabric.outstanding := by rw [hW.frame]
  have hSFree : s.fabric.outstanding = none := by
    by_contra hBusy
    have hSame := hC.waits (by rw [hOut]; exact hBusy)
    rw [hSame, hOut] at hFree
    exact hBusy hFree
  have hNotDirty : ∀ i, ((commitWritten s).entry i).status ≠ .dirty := fun i hDirty => by
    rcases hC.entry i with hSame | ⟨-, hSent⟩
    · have hMem := (mem_dirtySet (s := commitSettled s) (i := i) hAfter.1.2.2.2.2.2.2.2).2 (by rw [hSame]; exact hDirty)
      rw [hClean] at hMem
      cases hMem
    · exact hAfter.2.not_inFlight hFree i (by rw [hSent])
  rcases hDue hSState with hResync | hBusy | hDirty
  · have hIs : s.isResync = true := by rw [State.isResync, hSState, hResync]; rfl
    refine hNotDirty 0 ?_
    rw [hW.entry, if_pos (by decide), Entry.commit_status, if_neg (hFabric.not_inFlight hSFree 0), if_pos (.inr (.inl hIs))]
  · exact hBusy hSFree
  · obtain ⟨i, hi⟩ := List.exists_mem_of_ne_nil _ hDirty
    have hStatus := (mem_dirtySet hEntries).1 hi
    refine hNotDirty i ?_
    rw [hW.entry, if_pos (hFabric.entry_lt (by rw [hStatus]; decide)), Entry.commit_status,
      if_neg (hFabric.not_inFlight hSFree i), if_pos (.inl hStatus)]

/-- A detour entry is Applied after the commit where it was so and keeps its desired value, outside the resync commit (R124, R138). -/
theorem localApplied_commitWritten (hFabric : FabricSound s) (hW : CommitWritten s a) {h : Nat}
    (hKept : h ∉ s.freedByCommit) (r : Role) : a.LocalApplied h r ↔ s.LocalApplied h r ∧ s.isResync = false ∧
      (a.entry ((s.record h).plan.detourEntry r)).desired = (s.entry ((s.record h).plan.detourEntry r)).desired := by
  have hPlan : (a.record h).plan = (s.record h).plan := by rw [hW.record, if_neg hKept]; rfl
  have hPort : (a.record h).port = (s.record h).port := by rw [hW.record, if_neg hKept]; rfl
  unfold State.LocalApplied
  rw [hPlan, hPort, hW.entry]
  by_cases hi : (s.record h).plan.detourEntry r < 512
  · rw [if_pos hi, Entry.commit_applied]
    exact ⟨fun ⟨q, hq, hLast, hStatus, hResync, hSame⟩ => ⟨⟨q, hq, hLast, hStatus⟩, hResync, hSame⟩,
      fun ⟨⟨q, hq, hLast, hStatus⟩, hResync, hSame⟩ => ⟨q, hq, hLast, hStatus, hResync, hSame⟩⟩
  · have hNone : s.entry ((s.record h).plan.detourEntry r) = Entry.untouched := hFabric.2.2.2.1 _ (by omega)
    rw [if_neg hi, hNone]
    constructor
    · rintro ⟨q, -, hLast, -⟩
      cases hLast
    · rintro ⟨⟨q, -, hLast, -⟩, -⟩
      cases hLast

theorem lanesButDigest_of_queues (h : LanesButDigest false s a) (hLane : ∀ e, t.lane e = { a.lane e with queue := (t.lane e).queue })
    (hDigest : t.store.digest = a.store.digest)
    (hCause : causeIn t.attn.pending .tableDisagreement = causeIn a.attn.pending .tableDisagreement) : LanesButDigest true s t := by
  obtain ⟨hOld, hCompared⟩ := h
  have hDiffers : ∀ e, (t.lane e).differs = (a.lane e).differs := fun e => by rw [hLane]
  refine ⟨fun e => ?_, ?_⟩
  · rw [hDiffers, hLane, hOld]
    rfl
  · unfold DigestCompared at *
    simp only [hDiffers, hDigest, hCause]
    exact hCompared

section Parts

variable (hW : CommitWritten s a) (hC : CommitSettled s a t)

include hW

theorem CommitWritten.record_kept {h : Nat} (hKept : h ∉ s.freedByCommit) :
    a.record h = (s.record h).planned s.planner.buffer h := by rw [hW.record, if_neg hKept]

theorem CommitWritten.node : a.node = s.node := by rw [hW.frame]

/-- This node's part in a record stands through the commit. -/
theorem CommitWritten.endRole {h : Nat} (hKept : h ∉ s.freedByCommit) : a.endRole h = s.endRole h :=
  endRole_eq hW.node (by rw [hW.record_kept hKept]; rfl)

include hC

/-- The plan is installed, and a sweep starts or the Planner is Idle (R94, R107, R110, R111). -/
theorem commit_planner : t.planner.committed = s.planner.nextGrants ∧
    t.planner.commitNumber = s.planner.commitNumber + 1 ∧ t.planner.abandonCount = 0 ∧ t.planner.replan = false ∧
    t.planner.phase = (if s.planner.replan then .gathering else .idle) ∧
    (s.planner.replan = false → t.planner.buffer = s.planner.buffer ∧ t.planner.excluded = s.planner.excluded ∧
      t.planner.nextGrants = s.planner.nextGrants) ∧
    (s.planner.replan = true → t.planner.gatherPos = 0 ∧ t.planner.snapshot = t.takeSnapshot ∧ t.planner.buffer = [] ∧
      t.planner.excluded = [] ∧ t.planner.late = [] ∧ t.planner.nextGrants = []) := by
  have hPlanner : t.planner = a.afterCommit := by rw [hC.frame]
  have hBefore : a.planner = { s.planner with
      committed := s.planner.nextGrants, commitNumber := s.planner.commitNumber + 1 } := by rw [hW.frame]
  have hSnapshot : t.takeSnapshot = a.takeSnapshot := by rw [hC.frame]; rfl
  rw [hSnapshot, hPlanner, State.afterCommit, hBefore]
  cases hReplan : s.planner.replan with
  | true => exact ⟨rfl, rfl, rfl, rfl, rfl, nofun, fun _ => ⟨rfl, rfl, rfl, rfl, rfl, rfl⟩⟩
  | false => exact ⟨rfl, rfl, rfl, hReplan, rfl, fun _ => ⟨rfl, rfl, rfl⟩, nofun⟩

/-- The records take their outcomes, and the excluded ones that are Retiring become Free (R108, R109). -/
theorem commit_records (hExcluded : ∀ h ∈ s.planner.excluded, ∀ e ∈ s.planner.buffer, e.handle ≠ h)
    (hApart : s.planner.buffer.Pairwise fun a b => a.handle ≠ b.handle) :
    (∀ e ∈ s.planner.buffer, ∀ o w, e.verdict = .settled o w →
      ((s.record e.handle).lifecycle = .active ∨ (s.record e.handle).lifecycle = .retiring) →
      (t.record e.handle).outcome = o ∧ (t.record e.handle).reason = w ∧
        ((s.record e.handle).outcome ≠ o ∨ (s.record e.handle).reason ≠ w → e.handle ∈ t.store.changed)) ∧
    (∀ h, (s.record h).lifecycle = .active → (∀ e ∈ s.planner.buffer, e.handle ≠ h) →
      (t.record h).outcome = .unplanned ∧ (t.record h).reason = .none) ∧
    (∀ h ∈ s.planner.excluded, (s.record h).lifecycle = .retiring → t.record h = Record.free ∧ h ∉ t.store.changed) ∧
    (∀ h, h ∉ s.freedByCommit →
      (t.record h).lifecycle = (s.record h).lifecycle ∧ (t.record h).plan = (s.record h).plan ∧
        (t.record h).port = (s.record h).port ∧ (t.record h).code = (s.record h).code) := by
  refine ⟨fun e he o w hVerdict hLife => ?_, fun h hActive hNone => ?_, fun h hh hRetiring => ?_, fun h hKept => ?_⟩
  · have hKept : e.handle ∉ s.freedByCommit := fun hMem => hExcluded _ (mem_freedByCommit.1 hMem).1 e he rfl
    have hResult := committedResult_of_entry hApart he hVerdict hLife
    have hMarks := hW.marks _ hKept
    rw [hC.record, hW.record_kept hKept, Record.planned, hResult]
    rw [hResult] at hMarks
    exact ⟨rfl, rfl, fun hNe => hC.kept _ (hMarks hNe)⟩
  · have hKept : h ∉ s.freedByCommit := fun hMem => by
      have hRetiring := (mem_freedByCommit.1 hMem).2
      rw [hActive] at hRetiring
      cases hRetiring
    rw [hC.record, hW.record_kept hKept, Record.planned, committedResult_of_none hNone hActive]
    exact ⟨rfl, rfl⟩
  · have hFreed : h ∈ s.freedByCommit := mem_freedByCommit.2 ⟨hh, hRetiring⟩
    have hFree : a.record h = Record.free := by rw [hW.record, if_pos hFreed]
    have hNone : t.connNow h = .none := connNow_of_unplanned (by rw [hC.record, hFree]; rfl)
    refine ⟨?_, hC.unmarked h hFree (hW.unmarked h hFreed)⟩
    rw [hC.record, hC.conn, hNone, outcomeExchange_of_free hFree, hFree]
    rfl
  · rw [hC.record, hW.record_kept hKept]
    exact ⟨rfl, rfl, rfl, rfl⟩

/-- The entries take the values that R123 gives, and the driver sends the next Dirty one (R122 to R126). -/
theorem commit_entries (hFabric : FabricSound s) :
    (∀ i, i < 512 → (t.entry i).desired = resolveEntry t.allWrites i ∧ DesiredFollows t i (t.entry i).desired ∧
      (t.entry i).last = (s.entry i).last) ∧
    (∀ i, a.entry i = if i < 512 then
        { desired := resolveEntry t.allWrites i, last := (s.entry i).last,
          status := if (s.entry i).status = .inFlight then .inFlight
            else if (s.entry i).status = .dirty ∨ s.isResync = true ∨ resolveEntry t.allWrites i ≠ (s.entry i).desired then .dirty
            else (s.entry i).status }
      else Entry.untouched) ∧
    (s.fabric.outstanding = none → SendsNext s.node.state s.fabric a.entry t) ∧
    (s.fabric.outstanding ≠ none → (∀ i, t.entry i = a.entry i) ∧ t.fabric.outstanding = s.fabric.outstanding ∧
      t.fabric.tagCounter = s.fabric.tagCounter ∧ t.fabric.responseTimer = s.fabric.responseTimer ∧
      t.fabric.tx = s.fabric.tx) := by
  have hNode : t.node = s.node := by rw [hC.frame]; exact hW.node
  have hWrites : t.allWrites = a.allWrites := allWrites_congr hW.records hC.records fun h => by
    rw [State.writesOf, State.writesOf, hNode, hW.node]
    exact Record.writes_congr _ _ (by rw [hC.record]) (by rw [hC.record]) (by rw [hC.record])
  have hFabricA : a.fabric = { s.fabric with entries := a.fabric.entries, resyncDone := s.fabric.resyncDone || s.isResync } := by
    rw [hW.frame]
  have hOut : a.fabric.outstanding = s.fabric.outstanding := by rw [hFabricA]
  have hTimer : a.fabric.responseTimer = s.fabric.responseTimer := by rw [hFabricA]
  have hTag : a.fabric.tagCounter = s.fabric.tagCounter := by rw [hFabricA]
  have hTx : a.fabric.tx = s.fabric.tx := by rw [hFabricA]
  refine ⟨fun i hi => ?_, fun i => ?_, fun hFree => ?_, fun hBusy => ?_⟩
  · have hEntry : a.entry i = (s.entry i).commit (resolveEntry t.allWrites i) s.isResync := by
      rw [hW.entry, if_pos hi, hWrites]
    have hDesired : (t.entry i).desired = resolveEntry t.allWrites i := by
      rcases hC.entry i with h | ⟨-, h⟩ <;> rw [h, hEntry] <;> rfl
    refine ⟨hDesired, ?_, ?_⟩
    · rw [hDesired]
      exact desiredFollows_resolveEntry t i
    · rcases hC.entry i with h | ⟨-, h⟩ <;> rw [h, hEntry] <;> rfl
  · rw [hW.entry, hWrites]
    refine if_congr Iff.rfl ?_ rfl
    rw [← Entry.commit_status]
    rfl
  · have hSends := hC.sends (hOut.trans hFree) (hTimer.trans (hFabric.1.2 hFree))
    rw [hW.node] at hSends
    exact hSends.congr hTag.symm (by rw [hFabricA]) (by rw [hFabricA]) hTx.symm (fun _ => rfl) rfl rfl rfl rfl rfl
  · have hSame := hC.waits (by rw [hOut]; exact hBusy)
    exact ⟨fun i => by rw [State.entry, hSame, State.entry], by rw [hSame, hOut], by rw [hSame, hTag], by rw [hSame, hTimer],
      by rw [hSame, hTx]⟩

end Parts

end Sys2Proof.Machine
end

section
/-!
PROOFS. The exchanges and the attempts of the commit, and the commit as a whole (O53).
-/

namespace Sys2Proof.Machine

variable {s t u a : State}

section Parts

variable (hW : CommitWritten s a) (hC : CommitSettled s a t)

include hW hC

/-- The exchange of a record starts, is cleared or stands as its outcome changes (R139 to R141). -/
theorem commit_exchange (hState : s.node.state ≠ .configuring) {h : Nat} {r : Role} (hKept : h ∉ s.freedByCommit)
    (hr : s.endRole h = some r) :
    ((s.record h).outcome ≠ .detour → (t.record h).outcome = .detour →
      (a.LocalApplied h r → (t.record h).exchange = { Exchange.idle with
        state := .awaiting, attempts := 1, sending := true, timer := some (s.node.confirmInterval * 1000) }) ∧
      (¬ a.LocalApplied h r → (t.record h).exchange = { Exchange.idle with state := .pending })) ∧
    ((s.record h).outcome = .detour → (t.record h).outcome ≠ .detour → (t.record h).exchange = Exchange.idle) ∧
    (((s.record h).outcome = .detour ↔ (t.record h).outcome = .detour) → (t.record h).exchange = (s.record h).exchange) := by
  have hRole : a.endRole h = some r := (hW.endRole hKept).trans hr
  have hSome : (a.endRole h).isSome = true := by rw [hRole]; rfl
  have hOutcome : (t.record h).outcome = (a.record h).outcome := by rw [hC.record]
  have hTime : a.confirmTime = s.node.confirmInterval * 1000 := by rw [State.confirmTime, hW.node]
  have hExchange : (t.record h).exchange = a.outcomeExchange (s.record h).outcome h := by rw [hC.record]
  rw [hOutcome, hExchange, State.outcomeExchange]
  refine ⟨fun hBefore hNow => ⟨fun hApplied => ?_, fun hNot => ?_⟩, fun hBefore hNow => ?_, fun hSame => ?_⟩
  · have hStarts : a.startsWith (s.record h).outcome h = some r :=
      startsWith_eq_some.2 ⟨hRole, hBefore, hNow, by rw [hW.node]; exact hState, hApplied⟩
    rw [if_pos ⟨hSome, hBefore, hNow⟩, hStarts, hTime]
    rfl
  · have hStarts : a.startsWith (s.record h).outcome h = none := Option.eq_none_iff_forall_ne_some.2 fun q hq => by
      obtain ⟨hq, -, -, -, hApplied⟩ := startsWith_eq_some.1 hq
      obtain rfl := Option.some.inj (hRole.symm.trans hq)
      exact hNot hApplied
    rw [if_pos ⟨hSome, hBefore, hNow⟩, hStarts]
    rfl
  · rw [if_neg fun h => h.2.1 hBefore, if_pos ⟨hSome, hBefore, hNow⟩]
  · rw [if_neg fun h => h.2.1 (hSame.2 h.2.2), if_neg fun h => h.2.2 (hSame.1 h.2.1), hW.record_kept hKept]
    rfl

/-- The records that come onto their detour with the local connection applied send attempt 1, in ascending handle order (R141, R142). -/
theorem commit_attempts {enters : Nat → Role → Prop}
    (hEnters : ∀ h r, enters h r ↔ h ∉ s.freedByCommit ∧ a.startsWith (s.record h).outcome h = some r) :
    QueueAttempts enters (fun _ => false) s t := by
  have hLane : ∀ e, (a.lane e).adjacency = (s.lane e).adjacency ∧ (a.lane e).queue = (s.lane e).queue := fun e => by
    have hOld := hW.lanes.1 e
    exact ⟨by rw [hOld], by rw [hOld]; rfl⟩
  have hNotFree : ∀ {h r}, a.startsWith (s.record h).outcome h = some r → a.record h ≠ Record.free := fun hr hFree => by
    have hOutcome := (startsWith_eq_some.1 hr).2.2.1
    rw [hFree] at hOutcome
    cases hOutcome
  refine queueAttempts_of (l := a.handles) (sent := fun h => a.outcomeConfirm (s.record h).outcome h) (handles_pairwise hW.records)
    (fun h r hr => mem_handles_of_ne (hNotFree ((hEnters h r).1 hr).2)) (fun h r hr => ?_) (fun h _ r hr e => ?_)
    (fun h _ hNone e => ?_) fun e => ?_
  · obtain ⟨hKept, hStarts⟩ := (hEnters h r).1 hr
    rw [← hW.endRole hKept]
    exact (startsWith_eq_some.1 hStarts).1
  · obtain ⟨hKept, hStarts⟩ := (hEnters h r).1 hr
    unfold State.outcomeConfirm State.confirmFor State.attemptOf
    rw [hStarts, hW.record_kept hKept, hW.node]
    rfl
  · have hStarts : a.startsWith (s.record h).outcome h = none := Option.eq_none_iff_forall_ne_some.2 fun r hr => by
      refine hNone r ((hEnters h r).2 ⟨fun hFreed => hNotFree hr ?_, hr⟩)
      rw [hW.record, if_pos hFreed]
    unfold State.outcomeConfirm
    rw [hStarts]
  · obtain ⟨hUp, hQueue⟩ := hLane e
    rw [hC.lanes]
    unfold Lane.queued
    dsimp only
    rw [hUp, hQueue]

end Parts

/-- Settles O53: the writes of the commit, then the Confirmation Unit, the driver, the statuses and the next sweep. -/
theorem commitPutsThePlanIntoEffect : Obligations.CommitPutsThePlanIntoEffect := by
  intro s hTables hFabric hState hDue hEnded hNoExtra hExcluded hApart resync
  have hW := commitWritten_effects hTables.1
  have hC : CommitSettled s (commitWritten s) (commitSettled s) :=
    commitSettled_effects hW.records hW.entries fun k => by
      rw [hW.record]
      by_cases hk : k ∈ s.freedByCommit
      · exact .inr (if_pos hk)
      · exact .inl (by rw [if_neg hk]; rfl)
  have hExec : exec .sweepCommit s = .next (commitSettled s) := by
    show execSweepCommit s = _
    rw [execSweepCommit, if_pos (readyToCommit_of hEnded hNoExtra), commitSweep_eq,
      runningCheck_commitSettled hTables hFabric hDue hC hW]
  generalize commitWritten s = a at *
  generalize commitSettled s = t at *
  obtain ⟨hPlan, hNumber, hCount, hReplan, hPhase, hIdle, hSweeps⟩ := commit_planner hW hC
  obtain ⟨hResults, hUnplanned, hFreed, hKeptFields⟩ := commit_records hW hC hExcluded hApart
  obtain ⟨hDesired, hMarked, hSends, hWaits⟩ := commit_entries hW hC hFabric
  have hKept : ∀ {h}, ¬ (h ∈ s.planner.excluded ∧ (s.record h).lifecycle = .retiring) ↔ h ∉ s.freedByCommit :=
    not_congr mem_freedByCommit.symm
  have hOutcome : ∀ h, (t.record h).outcome = (a.record h).outcome := fun h => by rw [hC.record]
  have hDesiredA : ∀ i, (t.entry i).desired = (a.entry i).desired := fun i => by
    rcases hC.entry i with h | ⟨-, h⟩ <;> rw [h]
  have hFabricT : t.fabric.resyncDone = (s.fabric.resyncDone || resync) ∧ t.fabric.pointer = s.fabric.pointer ∧
      t.fabric.cadence = s.fabric.cadence ∧ t.fabric.reassertTimer = s.fabric.reassertTimer ∧
      t.fabric.reassertPending = s.fabric.reassertPending := by
    rw [hC.frame, hW.frame]
    exact ⟨rfl, rfl, rfl, rfl, rfl⟩
  obtain ⟨hDone, hPointer, hCadence, hReassert, hRequest⟩ := hFabricT
  have hRest : t.node = s.node ∧ t.map = s.map ∧ t.monEast = s.monEast ∧ t.monWest = s.monWest ∧ t.port = s.port ∧
      t.store.stream = s.store.stream ∧ t.pending = s.pending := by
    rw [hC.frame, hW.frame]
    exact ⟨rfl, rfl, rfl, rfl, rfl, rfl, rfl⟩
  obtain ⟨hNode, hMap, hEast, hWest, hPort, hStream, hPending⟩ := hRest
  refine ⟨t, hExec, hPlan, hNumber, hCount, hReplan, hPhase, hIdle, hSweeps, hResults, hUnplanned, hFreed,
    fun h hNot => hKeptFields h (hKept.1 hNot), hDesired, ⟨fun hFree => ?_, fun hBusy => ?_⟩, hDone, hPointer, hCadence, hReassert,
    hRequest, fun h r hNot hr hi => ?_, ?_, hC.conn, hC.follows, hNode, hMap, hEast, hWest, ?_, hPort, hStream, hPending⟩
  · refine (hSends hFree).congr rfl rfl rfl rfl (fun i => ?_) rfl rfl rfl rfl rfl
    exact (hMarked i).symm
  · obtain ⟨hEntries, hCommand⟩ := hWaits hBusy
    exact ⟨fun i => (hEntries i).trans (hMarked i), hCommand⟩
  · have hLocal := localApplied_commitWritten hFabric hW (hKept.1 hNot) r
    obtain ⟨hStarts, hLeaves, hStands⟩ := commit_exchange hW hC hState (hKept.1 hNot) hr
    rw [← hDesiredA] at hLocal
    refine ⟨fun hBefore hNow => ⟨fun hApplied => ?_, fun hApplied => ?_⟩, hLeaves, hStands⟩
    · obtain ⟨⟨q, hq, hLast⟩, hNo, hStatus, hSame⟩ := hApplied
      exact (hStarts hBefore hNow).1 (hLocal.2 ⟨⟨q, hq, hLast, hStatus⟩, hNo, hSame⟩)
    · refine (hStarts hBefore hNow).2 fun h => hApplied ?_
      obtain ⟨⟨q, hq, hLast, hStatus⟩, hNo, hSame⟩ := hLocal.1 h
      exact ⟨⟨q, hq, hLast⟩, hNo, hStatus, hSame⟩
  · refine commit_attempts hW hC fun h r => ?_
    rw [startsWith_eq_some, hKept, hOutcome, hW.node]
    constructor
    · rintro ⟨hFreedNot, hr, hBefore, hNow, hApplied⟩
      have hLocal := localApplied_commitWritten hFabric hW hFreedNot r
      rw [← hDesiredA] at hLocal
      exact ⟨hFreedNot, (hW.endRole hFreedNot).trans hr, hBefore, hNow, hState, hLocal.2 hApplied⟩
    · rintro ⟨hFreedNot, hr, hBefore, hNow, -, hApplied⟩
      have hLocal := localApplied_commitWritten hFabric hW hFreedNot r
      rw [← hDesiredA] at hLocal
      exact ⟨hFreedNot, (hW.endRole hFreedNot).symm.trans hr, hBefore, hNow, hLocal.1 hApplied⟩
  · exact lanesButDigest_of_queues hW.lanes (fun e => by rw [hC.lanes]) (by rw [hC.frame]) (hC.causes _ (by decide))

end Sys2Proof.Machine
end

section
/-!
PROOFS. What a change in the Span Map sets off (O47), for each event that may change a report.
-/

namespace Sys2Proof.Machine

variable {s t u v w : State} {d : Side}

/-! ### Events without a change, and events at a Line Monitor -/

/-- Where the spans are worked out already, nothing changes. -/
theorem spanEffects_refl (hw : SpansWorkedOut s) : SpanEffects s.attn s.planner s s := by
  have hHeld : ∀ k, k < s.node.ringSize → (s.heldSpan k).effective = s.effectiveState k ∧
      (s.heldSpan k).planning = planCondOf (s.effectiveState k) := fun k hk => by
    rw [heldSpan_of_workedOut hw hk]
    exact ⟨rfl, rfl⟩
  unfold SpanEffects
  refine ⟨hw, fun ⟨k, hk, hNe⟩ => absurd (hHeld k hk).1.symm hNe, fun _ => rfl, fun ⟨k, hk, hLost, hHad⟩ => ?_, fun _ => rfl,
    fun _ => rfl, fun ⟨k, hk, hNe⟩ => absurd (hHeld k hk).2.symm hNe⟩
  rw [(hHeld k hk).2] at hHad
  exact absurd hLost hHad

/-- Writing a Line Monitor and composing again has the effects of the spans that changed. -/
theorem spanEffects_setMon (d : Side) (m : Monitor) (s : State) :
    SpanEffects s.attn s.planner s (refreshReports (s.setMon d m)) := by
  have h := spanEffects_refreshReports (s.setMon d m)
  rw [State.setMon_attn, State.setMon_planner] at h
  exact h.of_held (by rw [State.setMon_map]) (State.setMon_fabric s d m)

theorem spanEffects_lineEvent_setMon (d : Side) (m : Monitor) (s : State) :
    SpanEffects s.attn s.planner s (lineEvent d (s.setMon d m)) := by
  have h := spanEffects_lineEvent d (s.setMon d m)
  rw [State.setMon_attn, State.setMon_planner] at h
  exact h.of_held (by rw [State.setMon_map]) (State.setMon_fabric s d m)

theorem spanEffects_lineEvent_setLane (d : Side) (l : Lane) (s : State) :
    SpanEffects s.attn s.planner s (lineEvent d (s.setLane d l)) := by
  have h := spanEffects_lineEvent d (s.setLane d l)
  rw [State.setLane_attn, State.setLane_planner] at h
  exact h.of_held (by rw [State.setLane_map]) (State.setLane_fabric s d l)

/-- The events at a Line Monitor or its lane that can change an own report (R39 to R50, R58, R64). -/
theorem exec_lineEvent_effects (hw : SpansWorkedOut s) {i : Instr}
    (hi : (∃ b, i = .lineFail d b) ∨ (∃ e, i = .blockCountReport d e) ∨ i = .holdOffTimerExpiry d ∨ i = .wtrTimerExpiry d ∨
      i = .silenceTimerExpiry d ∨ i = .laneBadFrame d ∨ i = .fill d ∨ i = .discardedGoodFrame d ∨
      i = .lockWindowTimerExpiry d ∨ i = .adjacencyTimerExpiry d) :
    ∃ t, exec i s = .next t ∧ SpanEffects s.attn s.planner s t := by
  have hSame := spanEffects_refl hw
  rcases hi with ⟨b, rfl⟩ | ⟨e, rfl⟩ | rfl | rfl | rfl | rfl | rfl | rfl | rfl | rfl
  · exact ⟨_, rfl, spanEffects_lineEvent_setMon d _ s⟩
  · cases e with
    | none => exact ⟨s, rfl, hSame⟩
    | some e => exact ⟨_, rfl, spanEffects_setMon d _ s⟩
  · show ∃ t, execHoldOffTimerExpiry d s = .next t ∧ _
    unfold execHoldOffTimerExpiry
    split
    · exact ⟨s, rfl, hSame⟩
    · exact ⟨_, rfl, spanEffects_setMon d _ s⟩
  · show ∃ t, execWtrTimerExpiry d s = .next t ∧ _
    unfold execWtrTimerExpiry
    split
    · exact ⟨s, rfl, hSame⟩
    · exact ⟨_, rfl, spanEffects_setMon d _ s⟩
  · show ∃ t, execSilenceTimerExpiry d s = .next t ∧ _
    unfold execSilenceTimerExpiry
    split
    · exact ⟨s, rfl, hSame⟩
    · exact ⟨_, rfl, spanEffects_setMon d _ s⟩
  · exact ⟨_, rfl, spanEffects_lineEvent_setLane d _ s⟩
  · exact ⟨_, rfl, spanEffects_lineEvent_setLane d _ s⟩
  · exact ⟨_, rfl, spanEffects_lineEvent_setLane d _ s⟩
  · show ∃ t, execLockWindowTimerExpiry d s = .next t ∧ _
    unfold execLockWindowTimerExpiry
    split
    · exact ⟨s, rfl, hSame⟩
    · exact ⟨_, rfl, spanEffects_lineEvent_setLane d _ s⟩
  · show ∃ t, execAdjacencyTimerExpiry d s = .next t ∧ _
    unfold execAdjacencyTimerExpiry
    split
    · exact ⟨s, rfl, hSame⟩
    · exact ⟨_, rfl, spanEffects_lineEvent_setLane d _ s⟩

/-! ### A Span Report -/

/-- A report that is stored has the effects of its span, and touches no other (R72, R84). -/
theorem spanEffects_stored {key : Nat} (e : EndReport) (hEast : key ≠ ownKey s.node.ringSize s.node.own .east)
    (hWest : key ≠ ownKey s.node.ringSize s.node.own .west) :
    let t := compareSpans (markKey d.other key (s.setOther key e))
    SpanEffects s.attn s.planner s t ∧ ∀ k, keyOf k .lower ≠ key → keyOf k .upper ≠ key → t.effectiveState k = s.effectiveState k := by
  intro t
  obtain ⟨-, hOthers, -⟩ := stored_spanReport (d := d) (e := e) hEast hWest
  have hEffects := spanEffects_compareSpans (markKey d.other key (s.setOther key e))
  have hMark := markKey_eq d.other key (s.setOther key e)
  refine ⟨?_, fun k hLower hUpper => ?_⟩
  · rw [hMark, State.setLane_attn, State.setLane_planner, ← hMark] at hEffects
    exact hEffects.of_held (by rw [hMark, State.setLane_map]; rfl) (by rw [hMark, State.setLane_fabric]; rfl)
  · rw [State.effectiveState, hOthers _ hLower, hOthers _ hUpper, State.effectiveState]

/-! ### The answers of the fabric -/

theorem SpansWorkedOut.congr (hw : SpansWorkedOut s) (hMap : t.map = s.map) (hNode : t.node = s.node) : SpansWorkedOut t := by
  unfold SpansWorkedOut State.workedOutSpans State.workedOut State.effectiveState State.report at *
  rw [hMap, hNode]
  exact hw

/-- The test for the entry to Running has the effects of the spans that changed (R33, R84). -/
theorem spanEffects_runningCheck (hw : SpansWorkedOut s) : SpanEffects s.attn s.planner s (runningCheck s) := by
  unfold runningCheck
  split
  · exact (spanEffects_refreshReports _).of_spans rfl rfl
  · exact spanEffects_refl hw

theorem spanEffects_afterCommand (hw : SpansWorkedOut s) (hRecords : Table.wf Record.free s.store.records = true)
    (hEntries : Table.wf Entry.untouched w.fabric.entries = true) (hFree : w.fabric.outstanding = none)
    (hTimer : w.fabric.responseTimer = none) (hEq : w = { s with fabric := w.fabric, attn := w.attn })
    (hCadence : w.fabric.cadence = s.fabric.cadence)
    (hCause : causeIn w.attn.pending .spanMapChange = causeIn s.attn.pending .spanMapChange) :
    ∃ a, SpanEffects a s.planner s (afterCommand s w) ∧
      causeIn a.pending .spanMapChange = causeIn s.attn.pending .spanMapChange := by
  have hWf : Table.wf Record.free w.store.records = true := by rw [hEq]; exact hRecords
  have hSettled := settled_settleCommand (old := s) hWf hEntries hFree hTimer
  have hFrame := hSettled.frame
  have hCauses := hSettled.causes .spanMapChange (by decide)
  rw [afterCommand_eq]
  generalize settleCommand s w = v at *
  have hSame : v.map = s.map ∧ v.planner = s.planner ∧ v.node = s.node ∧ v.fabric.cadence = w.fabric.cadence := by
    rw [hFrame, hEq]
    exact ⟨rfl, rfl, rfl, rfl⟩
  obtain ⟨hMap, hPlanner, hNode, hvCadence⟩ := hSame
  have hvWorked : SpansWorkedOut v := hw.congr hMap hNode
  refine ⟨v.attn, ?_, hCauses.trans hCause⟩
  rw [← hPlanner]
  exact (spanEffects_runningCheck hvWorked).of_spans (by rw [hMap]) (hvCadence.trans hCadence)

/-! ### A Greeting -/

/-- What a Greeting makes of its lane, with the causes that it raises (R62, R63). -/
def greetedBy (d : Side) (g : Greeting) (s : State) : State :=
  if s.correct d g then correctGreeting d g s else incorrectGreeting d g s

theorem greetedBy_eq (d : Side) (g : Greeting) (s : State) :
    greetedBy d g s = { s.setLane d ((greetedBy d g s).lane d) with attn := (greetedBy d g s).attn } := by
  unfold greetedBy
  split
  · exact correctGreeting_eq d g s
  · exact incorrectGreeting_eq d g s

theorem causeIn_compareDigest (d : Side) (s : State) (c : Cause) : causeIn (compareDigest d s).attn.pending c =
    (causeIn s.attn.pending c ||
      ((s.lane d).comparedWith s.store.digest && !(s.lane d).differs && decide (c = .tableDisagreement))) := by
  rw [compareDigest_raises, causeIn_raiseIf, State.setLane_attn]

/-- A Greeting raises Table Disagreement and Misconnection alone (R63, R66). -/
theorem causeIn_greetedBy_of_ne (d : Side) (g : Greeting) (s : State) {c : Cause} (hTable : c ≠ .tableDisagreement)
    (hMisconnection : c ≠ .misconnection) : causeIn (greetedBy d g s).attn.pending c = causeIn s.attn.pending c := by
  have hCompare : ∀ l : Lane, causeIn (compareDigest d (s.setLane d l)).attn.pending c = causeIn s.attn.pending c := fun l => by
    rw [causeIn_compareDigest, State.setLane_attn]
    simp [hTable]
  unfold greetedBy
  split
  · unfold correctGreeting
    dsimp only
    split
    · rw [State.setLane_attn]
    · rw [State.setLane_attn]
    · split
      · unfold enterUp
        rw [causeIn_compareDigest, State.setLane_attn, State.setLane_attn]
        simp [hTable]
      · rw [State.setLane_attn]
    · split
      · exact hCompare _
      · rw [State.setLane_attn]
  · unfold incorrectGreeting
    rw [causeIn_raiseIf, State.setLane_attn]
    simp [hMisconnection]

theorem spanEffects_greeting (d : Side) (g : Greeting) (s : State) :
    SpanEffects (greetedBy d g s).attn s.planner s (lineEvent d (greetedBy d g s)) := by
  have h := spanEffects_lineEvent d (greetedBy d g s)
  have hEq := greetedBy_eq d g s
  have hFields : (greetedBy d g s).planner = s.planner ∧ (greetedBy d g s).map = s.map ∧ (greetedBy d g s).fabric = s.fabric := by
    rw [hEq]
    cases d <;> exact ⟨rfl, rfl, rfl⟩
  obtain ⟨hPlanner, hMap, hFabric⟩ := hFields
  rw [hPlanner] at h
  exact h.of_held (by rw [hMap]) hFabric

theorem actOnGreeting_eq (d : Side) (g : Greeting) (s : State) :
    actOnGreeting d g s = joinCheck (lineEvent d (greetedBy d g s)) := rfl

theorem joinCheck_of (s : State) : joinCheck s = if s.node.state = .joining ∧ s.joinCondition = true then
    { s with
      node := { s.node with state := .syncing, joinTimer := none },
      planner := { s.planner with
        phase := .gathering, gatherPos := 0, snapshot := s.takeSnapshot, buffer := [], excluded := [], late := [],
        nextGrants := [], replan := false, abandonCount := 0 } }
    else s := rfl

/-! ### Force and release -/

/-- The spans, the attention, the Planner and the cadence scale after an event are all that its effects speak of. -/
theorem SpanEffects.of_after {a : Attention} {p : Planner} (h : SpanEffects a p s t) (hMap : u.map = t.map) (hNode : u.node = t.node)
    (hAttn : u.attn = t.attn) (hPlanner : u.planner = t.planner) (hCadence : u.fabric.cadence = t.fabric.cadence) :
    SpanEffects a p s u := by
  have hState : ∀ k, u.effectiveState k = t.effectiveState k := fun k => by
    unfold State.effectiveState State.report
    rw [hMap, hNode]
  have hSnapshot : u.takeSnapshot = t.takeSnapshot := by
    unfold State.takeSnapshot State.heldSpan
    rw [hMap, hNode]
  obtain ⟨hWorked, hRest⟩ := h
  refine ⟨hWorked.congr hMap hNode, ?_⟩
  simp only [hState, hNode, hAttn, hPlanner, hCadence, hSnapshot]
  exact hRest

theorem exec_force_effects (hAccepts : Accepts s) {i : Instr} {tag : Byte} {flag : Bool}
    (hExec : ∀ v, exec i v = .next (takeRequest i tag (carryForce (sideCode d) flag) v)) :
    ∃ t, exec i s = .next t ∧ SpanEffects s.attn s.planner s t := by
  have hCarry : carryForce (sideCode d) flag (clearHolder s) =
      { state := setForce d flag (clearHolder s), status := .ok,
        data := contentBytes ((setForce d flag (clearHolder s)).map.own d).content } := by
    rw [carryForce, sideOperand_sideCode]
  have hRun := exec_carried hExec hAccepts hCarry (port_setForce d flag _)
  have hEffects : SpanEffects s.attn s.planner (clearHolder s) (setForce d flag (clearHolder s)) :=
    spanEffects_setMon d { (clearHolder s).mon d with force := flag } (clearHolder s)
  generalize setForce d flag (clearHolder s) = t at *
  exact ⟨_, hRun, (hEffects.of_spans (s := s) rfl rfl).of_after rfl rfl rfl rfl rfl⟩

/-- A Span Report that is stored (R57, R72). -/
theorem exec_spanReport_stored {r : SpanReport} (hs : MonitorSound s d) (ho : OwnComposed s) (hw : SpansWorkedOut s)
    (hLocked : (s.lane d).lock = .locked) (hRing : s.node.ringId ≠ 0) (hRange : spanReportInRange r = true)
    (hHeard : (s.lane d).adjacency = .heard ∨ (s.lane d).adjacency = .up) (hSpan : r.span < s.node.ringSize)
    (hFresh : ∀ e, s.report (reportKey r) = some e → newer r.epoch e.epoch = true)
    (hEast : reportKey r ≠ ownKey s.node.ringSize s.node.own .east) (hWest : reportKey r ≠ ownKey s.node.ringSize s.node.own .west) :
    exec (.spanReport d r) s = .next (compareSpans (markKey d.other (reportKey r)
      ((s.setLane d (s.lane d).keptLock).setOther (reportKey r) { content := reportContent r, epoch := r.epoch }))) := by
  have hExec : exec (.spanReport d r) s = .next (actOnSpanReport d r (s.setLane d (s.lane d).keptLock)) := by
    show Host.Outcome.next (takeFrame d (spanReportInRange r) (actOnSpanReport d r) s) = _
    rw [hRange, takeFrame_of_sound hs ho hw hLocked hRing]
  have hAdj : ((s.setLane d (s.lane d).keptLock).lane d).adjacency = (s.lane d).adjacency := by rw [State.lane_setLane]; rfl
  rw [hExec, actOnSpanReport, hAdj, State.setLane_node, if_pos hHeard, if_pos hSpan, if_neg hEast, if_neg hWest, takeOther_of_fresh]
  intro e he
  rw [State.setLane_map] at he
  exact hFresh e (by rw [report_of_not_own hEast hWest]; exact he)

theorem lineEvent_node (d : Side) (s : State) : (lineEvent d s).node = s.node := by
  rw [lineEvent, refreshReports_node, evalMonitor, State.setMon_node]

theorem greetedBy_node (d : Side) (g : Greeting) (s : State) : (greetedBy d g s).node = s.node := by
  rw [greetedBy_eq]
  cases d <;> rfl

/-- An answer has the effects of the spans that changed, with which the node may enter Running (R33, R84). -/
theorem exec_answer_effects {c : Command} {i : Instr} (hTables : TablesCanonical s) (hw : SpansWorkedOut s)
    (hOut : s.fabric.outstanding = some c) (hi : (∃ b, i = .fabricDone c.tag b) ∨ i = .fabricRefused c.tag) :
    ∃ t a, exec i s = .next t ∧ SpanEffects a s.planner s t ∧
      causeIn a.pending .spanMapChange = causeIn s.attn.pending .spanMapChange := by
  obtain ⟨hRecords, -, -, -, -, -, -, hEntries⟩ := hTables
  have hWorked : SpansWorkedOut (s.setAnswered true) := hw.congr rfl rfl
  rcases hi with ⟨b, rfl⟩ | rfl
  · have hFabric := confirmed_fabric c b (s.setAnswered true)
    obtain ⟨a, hEffects, hCause⟩ := spanEffects_afterCommand (s := s.setAnswered true) (w := confirmed c b (s.setAnswered true)) hWorked
      hRecords (by rw [confirmed, raiseIf_eq]; exact canonical_confirmEntry c (s := retireCommand c (s.setAnswered true)) hEntries)
      (by rw [hFabric]; rfl) (by rw [hFabric]; rfl) (confirmed_eq c b _) (by rw [hFabric]; rfl)
      (by rw [confirmed, causeIn_raiseIf, confirmEntry_eq]; simp)
    exact ⟨_, a, exec_fabricDone b hOut, hEffects.of_spans rfl rfl, hCause⟩
  · obtain ⟨a, hEffects, hCause⟩ := spanEffects_afterCommand (s := s.setAnswered true)
      (w := failEntry c (retireCommand c (s.setAnswered true))) hWorked hRecords (Table.set_wf _ _ hEntries) rfl rfl rfl rfl
      ((causeIn_raise _ _ _).trans (by simp))
    exact ⟨_, a, exec_fabricRefused hOut, hEffects.of_spans rfl rfl, hCause⟩

/-- Settles O47: the comparison at the end of each of these events has the effects of the spans that changed. -/
theorem spanChangesTriggerPlanner : Obligations.SpanChangesTriggerPlanner := by
  refine ⟨fun s d r hs ho hw hLocked hRing hRange hHeard hSpan hFresh hEast hWest => ?_,
    fun s d i _ hw hi => exec_lineEvent_effects hw hi, fun s d g hs ho hw hLocked hRing hRange => ?_,
    fun s tag d hAccepts _ _ => ?_, fun s c i hTables _ hw hOut hi => exec_answer_effects hTables hw hOut hi⟩
  · have hExec := exec_spanReport_stored hs ho hw hLocked hRing hRange hHeard hSpan (fun e he => (newer_iff _ _).2 (hFresh e he))
      hEast hWest
    have hNode : (s.setLane d (s.lane d).keptLock).node = s.node := State.setLane_node _ _ _
    have hMap : (s.setLane d (s.lane d).keptLock).map = s.map := State.setLane_map _ _ _
    obtain ⟨hEffects, hOthers⟩ := spanEffects_stored (s := s.setLane d (s.lane d).keptLock) (d := d)
      { content := reportContent r, epoch := r.epoch } (by rw [hNode]; exact hEast) (by rw [hNode]; exact hWest)
    rw [State.setLane_attn, State.setLane_planner] at hEffects
    refine ⟨_, hExec, hEffects.of_held (by rw [hMap]) (State.setLane_fabric ..), fun k hk => (hOthers k ?_ ?_).trans ?_⟩
    · unfold reportKey keyOf
      cases r.spanEnd <;> dsimp only <;> omega
    · unfold reportKey keyOf
      cases r.spanEnd <;> dsimp only <;> omega
    · unfold State.effectiveState State.report
      rw [hNode, hMap]
  · have hExec : exec (.greeting d g) s = .next (actOnGreeting d g (s.setLane d (s.lane d).keptLock)) := by
      show Host.Outcome.next (takeFrame d (greetingInRange g) (actOnGreeting d g) s) = _
      rw [hRange, takeFrame_of_sound hs ho hw hLocked hRing]
    have hEffects := spanEffects_greeting d g (s.setLane d (s.lane d).keptLock)
    have hCause := causeIn_greetedBy_of_ne d g (s.setLane d (s.lane d).keptLock) (c := .spanMapChange) (by decide) (by decide)
    rw [State.setLane_planner] at hEffects
    rw [State.setLane_attn] at hCause
    have hNode : (lineEvent d (greetedBy d g (s.setLane d (s.lane d).keptLock))).node = s.node := by
      rw [lineEvent_node, greetedBy_node, State.setLane_node]
    refine ⟨_, _, hEffects.of_held (by rw [State.setLane_map]) (State.setLane_fabric ..), hCause, ?_⟩
    rw [hExec, actOnGreeting_eq]
    generalize lineEvent d (greetedBy d g (s.setLane d (s.lane d).keptLock)) = u at *
    rw [joinCheck_of, hNode]
  · obtain ⟨t, ht, hForce⟩ := exec_force_effects (d := d) hAccepts (i := .forceSpan tag (sideCode d)) (tag := tag) (flag := true)
      fun _ => rfl
    obtain ⟨u, hu, hRelease⟩ := exec_force_effects (d := d) hAccepts (i := .releaseSpan tag (sideCode d)) (tag := tag)
      (flag := false) fun _ => rfl
    exact ⟨t, u, ht, hu, hForce, hRelease⟩

end Sys2Proof.Machine
end

section
/-!
PROOFS. Greetings and the adjacency (O45): what the event at the Line Monitor leaves of both lanes, and what a Greeting makes of its own.
-/

namespace Sys2Proof.Machine

variable {s t u w : State} {d : Side}

/-! ### The event at the Line Monitor -/

/-- What composing and comparing, at the end of an event at a Line Monitor, leaves alone (R53, R68, R84). -/
structure LineEnd (s u : State) : Prop where
  lanes : ∀ e, u.lane e = { s.lane e with pendingKeys := (u.lane e).pendingKeys }
  down : ∀ e, (s.lane e).adjacency ≠ .up → (u.lane e).pendingKeys = (s.lane e).pendingKeys
  kept : ∀ e k, k ∈ (s.lane e).pendingKeys → k ∈ (u.lane e).pendingKeys
  frame : u.node = s.node ∧ u.store = s.store ∧ u.map.others = s.map.others ∧ u.map.delays = s.map.delays ∧
    u.fabric = { s.fabric with cadence := u.fabric.cadence } ∧ u.port = s.port ∧ u.pending = s.pending
  plan : u.planner.committed = s.planner.committed ∧ u.planner.commitNumber = s.planner.commitNumber
  causes : ∀ c, c ≠ .spanMapChange → causeIn u.attn.pending c = causeIn s.attn.pending c

/-- The effects of the spans leave the plan in force (R84 to R87). -/
theorem SpanEffects.committed {a : Attention} {p : Planner} (h : SpanEffects a p s t) :
    t.planner.committed = p.committed ∧ t.planner.commitNumber = p.commitNumber := by
  obtain ⟨-, -, -, -, -, hQuiet, hMoved⟩ := h
  by_cases hNot : (¬ ∃ k, k < t.node.ringSize ∧ planCondOf (t.effectiveState k) ≠ (s.heldSpan k).planning) ∨
      t.node.state = .configuring
  · rw [hQuiet hNot]
    exact ⟨rfl, rfl⟩
  · obtain ⟨hSome, hRuns⟩ := not_or.1 hNot
    obtain ⟨hIdle, hFew, hMany⟩ := hMoved (not_not.1 hSome) hRuns
    by_cases hPhase : p.phase = .idle
    · rw [hIdle hPhase]
      exact ⟨rfl, rfl⟩
    · by_cases hCount : p.abandonCount < 4
      · rw [hFew hPhase hCount]
        exact ⟨rfl, rfl⟩
      · rw [hMany hPhase (not_lt.1 hCount)]
        exact ⟨rfl, rfl⟩

theorem lineEnd_lineEvent (d : Side) (s : State) : LineEnd s (lineEvent d s) := by
  have hLane : ∀ e, (evalMonitor d s).lane e = s.lane e := fun e => by rw [evalMonitor, State.lane_setMon]
  have hEval := evalMonitor_eq d s
  have hMarks := marksOwnKeys_refreshReports (evalMonitor d s)
  have hCause : ∀ c, c ≠ .spanMapChange → causeIn (lineEvent d s).attn.pending c = causeIn s.attn.pending c := fun c hc => by
    rw [lineEvent, causeIn_refreshReports_of_ne _ hc, evalMonitor, State.setMon_attn]
  have hDown : ∀ e, (s.lane e).adjacency ≠ .up → ((lineEvent d s).lane e).pendingKeys = (s.lane e).pendingKeys := fun e hNot => by
    have hStill : ((takeOwn .east (evalMonitor d s)).lane e).adjacency ≠ .up := by rw [lane_takeOwn, hLane]; exact hNot
    rw [lineEvent, refreshReports, lane_compareSpans, lane_takeOwn .west]
    dsimp only
    rw [if_neg fun h => hStill h.2.1, lane_takeOwn .east]
    dsimp only
    rw [hLane, if_neg fun h => hNot h.2.1]
  have hEq := refreshReports_eq (evalMonitor d s)
  refine ⟨fun e => lane_lineEvent d e s, hDown, fun e k hk => ?_, ?_, (spanEffects_lineEvent d s).committed, hCause⟩
  · refine (hMarks e k).2 (.inl ?_)
    rw [hLane]
    exact hk
  · rw [lineEvent, hEq, hEval]
    cases d <;> exact ⟨rfl, rfl, rfl, rfl, rfl, rfl, rfl⟩

/-! ### A correct Greeting -/

/-- A lane that is not Up holds nothing to send, no exchange and no comparison (R65, R66, R68). -/
def Lane.still (l : Lane) : Prop :=
  l.adjacency ≠ .up → l.pendingKeys = [] ∧ l.queue = [] ∧ l.mapSent = false ∧ l.exchanged = false ∧ l.differs = false

/-- A lane that falls, whatever it was, is still (R63, R65). -/
theorem fallTo_eq {l : Lane} (hStill : l.still) (a : Adjacency) : l.fallTo a = { l with
    adjacency := a, pendingKeys := [], queue := [], mapSent := false, exchanged := false, differs := false } := by
  unfold Lane.fallTo
  split
  · rfl
  next hNot =>
    obtain ⟨hKeys, hQueue, hSent, hExchanged, hDiffers⟩ := hStill hNot
    cases l
    simp_all

/-- A Greeting that leaves the lane Up: heard on a lane that is Heard or Up (R62). -/
def Lane.comesUp (l : Lane) (g : Greeting) : Bool := g.heard && (decide (l.adjacency = .heard) || decide (l.adjacency = .up))

/-- A Greeting that finds the lane Up and leaves it Up (R62). -/
def Lane.staysUp (l : Lane) (g : Greeting) : Bool := g.heard && decide (l.adjacency = .up)

/-- What a correct Greeting makes of the lane `l`, in a ring of `n` and with the own digest (R62, R65 to R67). -/
structure GreetedCorrectly (n : Nat) (digest : BitVec 32) (g : Greeting) (l m : Lane) : Prop where
  timer : m.adjTimer = some 50000 ∧ m.neighbour = some g
  receiver : m.lock = l.lock ∧ m.badRun = l.badRun ∧ m.lockWindow = l.lockWindow
  adjacency : m.adjacency = if l.comesUp g then .up else .heard
  exchanged : m.exchanged = (l.staysUp g && (l.exchanged || g.mapSent))
  marked : l.comesUp g = true → l.staysUp g = false → m.pendingKeys = allKeys n
  unmarked : l.comesUp g = false → m.pendingKeys = []
  mapSent : m.mapSent = (l.staysUp g && l.mapSent)
  differs : m.differs = (l.comesUp g && decide (g.digest ≠ digest))
  queue : m.queue = if l.staysUp g then l.queue else []

/-- A correct Greeting on a lane that is not Up and does not come Up. -/
theorem greetedCorrectly_heard {l : Lane} {g : Greeting} (n : Nat) (digest : BitVec 32) (hStill : l.still)
    (hNotUp : l.adjacency ≠ .up) (hNot : l.comesUp g = false) :
    GreetedCorrectly n digest g l { l.greeted g with adjacency := .heard } := by
  obtain ⟨hKeys, hQueue, hSent, hExchanged, hDiffers⟩ := hStill hNotUp
  have hStays : l.staysUp g = false := by simp [Lane.staysUp, hNotUp]
  refine ⟨⟨rfl, rfl⟩, ⟨rfl, rfl, rfl⟩, by rw [hNot]; rfl, by rw [hStays]; exact hExchanged, fun h => ?_, fun _ => hKeys,
    by rw [hStays]; exact hSent, by rw [hNot]; exact hDiffers, by rw [hStays]; exact hQueue⟩
  rw [hNot] at h
  cases h

theorem greetedCorrectly_of (d : Side) (g : Greeting) (s : State) (hStill : (s.lane d).still) :
    GreetedCorrectly s.node.ringSize s.store.digest g (s.lane d) ((correctGreeting d g s).lane d) := by
  rw [lane_correctGreeting]
  generalize s.lane d = l at *
  have hCompared : ∀ m : Lane, m.adjacency = .up → m.neighbour = some g →
      m.compared s.store.digest = { m with differs := decide (g.digest ≠ s.store.digest) } := fun m hUp hSome => by
    rw [Lane.compared, Lane.comparedWith_up _ hUp hSome]
  cases hAdjacency : l.adjacency with
  | down => exact greetedCorrectly_heard _ _ hStill (by rw [hAdjacency]; decide) (by simp [Lane.comesUp, hAdjacency])
  | mismatched => exact greetedCorrectly_heard _ _ hStill (by rw [hAdjacency]; decide) (by simp [Lane.comesUp, hAdjacency])
  | heard =>
    have hNotUp : l.adjacency ≠ .up := by rw [hAdjacency]; decide
    dsimp only
    cases hHeard : g.heard with
    | false =>
      have hLane : { l.greeted g with adjacency := .heard } = l.greeted g := by
        rw [← hAdjacency]
        rfl
      have hStays := greetedCorrectly_heard s.node.ringSize s.store.digest hStill hNotUp
        (g := g) (by simp [Lane.comesUp, hHeard])
      rw [hLane] at hStays
      exact hStays
    | true =>
      obtain ⟨-, hQueue, -⟩ := hStill hNotUp
      have hComes : l.comesUp g = true := by simp [Lane.comesUp, hHeard, hAdjacency]
      have hStays : l.staysUp g = false := by simp [Lane.staysUp, hAdjacency]
      rw [if_pos rfl, hCompared _ rfl rfl]
      exact ⟨⟨rfl, rfl⟩, ⟨rfl, rfl, rfl⟩, by rw [hComes]; rfl, by rw [hStays]; rfl, fun _ _ => rfl,
        fun h => absurd (hComes.symm.trans h) (by decide), by rw [hStays]; rfl, by rw [hComes]; rfl, by rw [hStays]; exact hQueue⟩
  | up =>
    dsimp only
    cases hHeard : g.heard with
    | false =>
      have hComes : l.comesUp g = false := by simp [Lane.comesUp, hHeard]
      have hStays : l.staysUp g = false := by simp [Lane.staysUp, hHeard]
      rw [if_neg (by decide), fallTo_eq (show (l.greeted g).still from hStill)]
      exact ⟨⟨rfl, rfl⟩, ⟨rfl, rfl, rfl⟩, by rw [hComes]; rfl, by rw [hStays]; rfl, fun h => absurd (hComes.symm.trans h) (by decide),
        fun _ => rfl, by rw [hStays]; rfl, by rw [hComes]; rfl, by rw [hStays]; rfl⟩
    | true =>
      have hComes : l.comesUp g = true := by simp [Lane.comesUp, hHeard, hAdjacency]
      have hStays : l.staysUp g = true := by simp [Lane.staysUp, hHeard, hAdjacency]
      rw [if_pos rfl, hCompared { l.greeted g with exchanged := l.exchanged || g.mapSent } hAdjacency rfl]
      exact ⟨⟨rfl, rfl⟩, ⟨rfl, rfl, rfl⟩, by rw [hComes]; exact hAdjacency, by rw [hStays]; rfl,
        fun _ h => absurd (hStays.symm.trans h) (by decide), fun h => absurd (hComes.symm.trans h) (by decide), by rw [hStays]; rfl,
        by rw [hComes]; rfl, by rw [hStays]; rfl⟩

/-- A correct Greeting raises Table Disagreement where the comparison goes from Same to Differs, and nothing else (R66). -/
theorem causeIn_correctGreeting (d : Side) (g : Greeting) (s : State) (hStill : (s.lane d).still) (c : Cause) :
    causeIn (correctGreeting d g s).attn.pending c = (causeIn s.attn.pending c ||
      ((s.lane d).comesUp g && decide (g.digest ≠ s.store.digest) && !(s.lane d).differs && decide (c = .tableDisagreement))) := by
  have hAdj : ((s.lane d).greeted g).adjacency = (s.lane d).adjacency := rfl
  unfold correctGreeting
  dsimp only
  rw [hAdj]
  cases hAdjacency : (s.lane d).adjacency with
  | down => simp [Lane.comesUp, hAdjacency]
  | mismatched => simp [Lane.comesUp, hAdjacency]
  | heard =>
    obtain ⟨-, -, -, -, hDiffers⟩ := hStill (by rw [hAdjacency]; decide)
    dsimp only
    cases hHeard : g.heard with
    | false => simp [Lane.comesUp, hHeard]
    | true =>
      rw [if_pos rfl, enterUp, causeIn_compareDigest, State.lane_setLane, State.lane_setLane, State.setLane_store,
        State.setLane_store, State.setLane_attn, State.setLane_attn, Lane.comparedWith_up _ rfl rfl, hDiffers]
      simp [Lane.comesUp, hHeard, hAdjacency]
  | up =>
    dsimp only
    cases hHeard : g.heard with
    | false => simp [Lane.comesUp, hHeard]
    | true =>
      rw [if_pos rfl, causeIn_compareDigest, State.lane_setLane, State.setLane_store, State.setLane_attn,
        Lane.comparedWith_up _ rfl rfl]
      simp [Lane.comesUp, hHeard, hAdjacency, Lane.greeted]

end Sys2Proof.Machine
end

section
/-!
PROOFS. Greetings and the adjacency timer as whole events (O45).
-/

namespace Sys2Proof.Machine

variable {s t u w : State} {d : Side}

theorem Lane.still_of_sound {l : Lane} (h : l.sound) : l.still := h.2.2.2.2.2.2.2.2.2

/-- A test of the join condition starts a sweep and enters Syncing, or does nothing (R32, R33). -/
theorem joinCheck_effects (s : State) :
    let t := joinCheck s
    let joins := s.node.state = .joining ∧ ∀ e, (s.lane e).adjacency = .up ∧ (s.lane e).exchanged = true
    (¬ joins → t = s) ∧
      (joins → t = { s with
        node := { s.node with state := .syncing, joinTimer := none },
        planner := { s.planner with
          phase := .gathering, gatherPos := 0, snapshot := t.takeSnapshot, buffer := [], excluded := [], late := [],
          nextGrants := [], replan := false, abandonCount := 0 } }) := by
  intro t joins
  have hJoins : (s.node.state = .joining ∧ s.joinCondition = true) ↔ joins := by
    unfold State.joinCondition
    simp only [Bool.and_eq_true, decide_eq_true_eq, joins]
    constructor
    · rintro ⟨hState, ⟨⟨hEast, hWest⟩, hEastDone⟩, hWestDone⟩
      exact ⟨hState, fun e => by cases e; exacts [⟨hEast, hEastDone⟩, ⟨hWest, hWestDone⟩]⟩
    · rintro ⟨hState, hAll⟩
      exact ⟨hState, ⟨⟨(hAll .east).1, (hAll .west).1⟩, (hAll .east).2⟩, (hAll .west).2⟩
  refine ⟨fun hNot => if_neg fun h => hNot (hJoins.1 h), fun hYes => ?_⟩
  have ht : t = enterSyncing s := if_pos (hJoins.2 hYes)
  have hSnapshot : t.takeSnapshot = s.takeSnapshot := by rw [ht]; rfl
  rw [hSnapshot, ht]
  rfl

/-- A lane that counted a good frame in Locked (R58), with the marks of the event that follows. -/
theorem takeGood_effects (hLocked : (s.lane d).lock = .locked) : LineEnd (s.setLane d (s.lane d).keptLock) (takeGood d s) := by
  rw [takeGood, Lane.countGood_keeps hLocked]
  exact lineEnd_lineEvent d _

theorem exec_greeting_acted {g : Greeting} (hLocked : (s.lane d).lock = .locked) (hRing : s.node.ringId ≠ 0)
    (hRange : greetingInRange g = true) :
    exec (.greeting d g) s = .next (joinCheck (lineEvent d (greetedBy d g (takeGood d s)))) := by
  have hActs : s.actsOn d = true := by simp [State.actsOn, hLocked, hRing]
  show Host.Outcome.next (takeFrame d (greetingInRange g) (actOnGreeting d g) s) = _
  rw [takeFrame, hActs, hRange, Bool.and_self, if_pos rfl, actOnGreeting_eq]

theorem correct_congr (hNode : t.node = s.node) (d : Side) (g : Greeting) : t.correct d g = s.correct d g := by
  unfold State.correct
  rw [hNode]

/-- The state in which a Greeting finds its lane, after the frame has counted (R57, R58). -/
structure Counted (d : Side) (s x : State) : Prop where
  lane : x.lane d = { (s.lane d).keptLock with pendingKeys := (x.lane d).pendingKeys }
  other : x.lane d.other = { s.lane d.other with pendingKeys := (x.lane d.other).pendingKeys }
  still : (x.lane d).still
  frame : x.node = s.node ∧ x.store = s.store ∧ x.map.others = s.map.others ∧ x.map.delays = s.map.delays ∧
    x.fabric = { s.fabric with cadence := x.fabric.cadence } ∧ x.port = s.port ∧ x.pending = s.pending
  plan : x.planner.committed = s.planner.committed ∧ x.planner.commitNumber = s.planner.commitNumber
  causes : ∀ c, c ≠ .spanMapChange → causeIn x.attn.pending c = causeIn s.attn.pending c

theorem counted_takeGood (hSound : (s.lane d).sound) (hLocked : (s.lane d).lock = .locked) : Counted d s (takeGood d s) := by
  obtain ⟨hLanes, hDown, -, hFrame, hPlan, hCauses⟩ := takeGood_effects hLocked
  have hBase := hLanes d
  have hOther := hLanes d.other
  have hQuiet := hDown d
  rw [State.lane_setLane] at hBase hQuiet
  rw [State.lane_setLane_other] at hOther
  rw [State.setLane_planner] at hPlan
  simp only [State.setLane_attn] at hCauses
  simp only [State.setLane_node, State.setLane_store, State.setLane_map, State.setLane_fabric, State.setLane_port,
    State.setLane_pending] at hFrame
  refine ⟨hBase, hOther, fun hNot => ?_, hFrame, hPlan, hCauses⟩
  rw [hBase] at hNot
  obtain ⟨hKeys, hRest⟩ := Lane.still_of_sound hSound hNot
  rw [hBase, hQuiet hNot]
  exact ⟨hKeys, hRest⟩

/-- What a Greeting makes of its lane and the causes it raises, told from the lane before the frame (R61 to R63, R66). -/
theorem greetedBy_effects {x : State} (g : Greeting) (hx : Counted d s x) :
    let l := s.lane d
    let m := (greetedBy d g x).lane d
    (s.correct d g = true → GreetedCorrectly s.node.ringSize s.store.digest g l.keptLock m ∧
      ∀ c, causeIn (greetedBy d g x).attn.pending c = (causeIn x.attn.pending c ||
        (l.comesUp g && decide (g.digest ≠ s.store.digest) && !l.differs && decide (c = .tableDisagreement)))) ∧
    (s.correct d g = false → m = { l.keptLock with
        adjTimer := some 50000, neighbour := some g, adjacency := .mismatched, pendingKeys := [], queue := [], mapSent := false,
        exchanged := false, differs := false } ∧
      ∀ c, causeIn (greetedBy d g x).attn.pending c = (causeIn x.attn.pending c ||
        (decide (l.adjacency ≠ .mismatched) && decide (c = .misconnection)))) := by
  intro l m
  obtain ⟨hLane, -, hStill, ⟨hNode, hStore, -⟩, -⟩ := hx
  have hCorrect : x.correct d g = s.correct d g := correct_congr hNode d g
  refine ⟨fun hYes => ?_, fun hNo => ?_⟩
  · have hGreeted : greetedBy d g x = correctGreeting d g x := if_pos (hCorrect.trans hYes)
    have hOf := greetedCorrectly_of d g x hStill
    have hCause := causeIn_correctGreeting d g x hStill
    rw [hNode, hStore, hLane] at hOf
    simp only [m, hGreeted]
    refine ⟨?_, fun c => ?_⟩
    · obtain ⟨hTimer, hReceiver, hAdjacency, hExchanged, hMarked, hUnmarked, hSent, hDiffers, hQueue⟩ := hOf
      exact ⟨hTimer, hReceiver, hAdjacency, hExchanged, hMarked, hUnmarked, hSent, hDiffers, hQueue⟩
    · rw [hCause c, hStore, hLane]
      rfl
  · have hGreeted : greetedBy d g x = incorrectGreeting d g x := if_neg (by rw [hCorrect, hNo]; decide)
    simp only [m, hGreeted]
    refine ⟨?_, fun c => ?_⟩
    · rw [lane_incorrectGreeting, fallTo_eq (show ((x.lane d).greeted g).still from hStill), hLane]
      rfl
    · rw [incorrectGreeting, causeIn_raiseIf, State.setLane_attn, hLane]
      rfl

theorem Lane.comesUp_iff {l : Lane} {g : Greeting} :
    l.comesUp g = true ↔ g.heard = true ∧ (l.adjacency = .heard ∨ l.adjacency = .up) := by simp [Lane.comesUp]

theorem Lane.staysUp_iff {l : Lane} {g : Greeting} : l.staysUp g = true ↔ g.heard = true ∧ l.adjacency = .up := by
  simp [Lane.staysUp]

/-- The lane of a correct Greeting, as 4.4 tells it from the lane before the frame. -/
theorem GreetedCorrectly.table {n : Nat} {digest : BitVec 32} {g : Greeting} {l m : Lane} (h : GreetedCorrectly n digest g l m) :
    let stays := g.heard = true ∧ l.adjacency = .up
    let up := g.heard = true ∧ (l.adjacency = .heard ∨ l.adjacency = .up)
    m.adjacency = (if up then .up else .heard) ∧
      m.exchanged = decide (l.adjacency = .up ∧ g.heard = true ∧ (l.exchanged = true ∨ g.mapSent = true)) ∧
      (l.adjacency = .heard → g.heard = true → m.pendingKeys = allKeys n) ∧ (¬ up → m.pendingKeys = []) ∧
      (¬ stays → m.mapSent = false) ∧ (stays → m.mapSent = l.mapSent) ∧ (stays → m.queue = l.queue) ∧ (¬ stays → m.queue = []) ∧
      m.differs = decide (up ∧ g.digest ≠ digest) := by
  intro stays up
  have hStays : l.staysUp g = true ↔ stays := Lane.staysUp_iff
  have hUp : l.comesUp g = true ↔ up := Lane.comesUp_iff
  have hNotStays : ¬ stays → l.staysUp g = false := fun h => Bool.eq_false_iff.2 fun k => h (hStays.1 k)
  refine ⟨h.adjacency.trans (if_congr hUp rfl rfl), ?_, fun hHeard hFlag => h.marked (hUp.2 ⟨hFlag, .inl hHeard⟩) ?_,
    fun hNot => h.unmarked (Bool.eq_false_iff.2 fun k => hNot (hUp.1 k)), fun hNot => ?_, fun hYes => ?_, fun hYes => ?_,
    fun hNot => ?_, ?_⟩
  · rw [h.exchanged, Bool.eq_iff_iff, Bool.and_eq_true, Bool.or_eq_true, hStays, decide_eq_true_eq]
    tauto
  · refine hNotStays fun hBoth => ?_
    rw [hBoth.2] at hHeard
    cases hHeard
  · rw [h.mapSent, hNotStays hNot, Bool.false_and]
  · rw [h.mapSent, hStays.2 hYes, Bool.true_and]
  · rw [h.queue, if_pos (hStays.2 hYes)]
  · rw [h.queue, if_neg fun k => hNot (hStays.1 k)]
  · rw [h.differs, Bool.eq_iff_iff, Bool.and_eq_true, hUp, decide_eq_true_eq, decide_eq_true_eq]

/-- Settles O45: the frame counts, the lane takes the Greeting, and the Line Monitor and the join condition follow. -/
theorem greetingsMoveTheAdjacency : Obligations.GreetingsMoveTheAdjacency := by
  refine ⟨fun s d g hSound hLocked hRing hRange => ?_, fun s d hSound hTimer => ?_⟩
  · have hExec := exec_greeting_acted hLocked hRing hRange
    have hx := counted_takeGood hSound hLocked
    generalize takeGood d s = x at *
    obtain ⟨hCorrect, hIncorrect⟩ := greetedBy_effects g hx
    have hGreeted := greetedBy_eq d g x
    generalize greetedBy d g x = w at *
    have hEnd := lineEnd_lineEvent d w
    generalize lineEvent d w = u at *
    obtain ⟨hIdle, hJoins⟩ := joinCheck_effects u
    have hLaneT : ∀ e, (joinCheck u).lane e = u.lane e := lane_joinCheck u
    have hRest := joinCheck_eq u
    generalize joinCheck u = t at *
    obtain ⟨hLanes, hDown, hKept, hFrame, hPlan, hCauses⟩ := hEnd
    have hMine : t.lane d = { w.lane d with pendingKeys := (t.lane d).pendingKeys } := by rw [hLaneT]; exact hLanes d
    have hQuiet : (w.lane d).adjacency ≠ .up → (t.lane d).pendingKeys = (w.lane d).pendingKeys := fun h => by
      rw [hLaneT]; exact hDown d h
    have hCause : ∀ c, c ≠ .spanMapChange → causeIn t.attn.pending c = causeIn w.attn.pending c := fun c hc => by
      rw [hRest]; exact hCauses c hc
    have hCauseX := hx.causes
    have hHead : (w.lane d).adjTimer = some 50000 ∧ (w.lane d).neighbour = some g ∧ (w.lane d).lock = .locked ∧
        (w.lane d).badRun = 0 ∧ (w.lane d).lockWindow = some 4000 := by
      cases hCase : s.correct d g with
      | true =>
        obtain ⟨hTimer, hNeighbour⟩ := (hCorrect hCase).1.timer
        obtain ⟨hLock, hBad, hWindow⟩ := (hCorrect hCase).1.receiver
        exact ⟨hTimer, hNeighbour, hLock.trans hLocked, hBad, hWindow⟩
      | false =>
        rw [(hIncorrect hCase).1]
        exact ⟨rfl, rfl, hLocked, rfl, rfl⟩
    have hOtherW : w.lane d.other = x.lane d.other := by rw [hGreeted]; cases d <;> rfl
    have hFields : w.node = x.node ∧ w.store = x.store ∧ w.map = x.map ∧ w.planner = x.planner ∧ w.fabric = x.fabric ∧
        w.port = x.port ∧ w.pending = x.pending := by
      rw [hGreeted]
      cases d <;> exact ⟨rfl, rfl, rfl, rfl, rfl, rfl, rfl⟩
    obtain ⟨hwNode, hwStore, hwMap, hwPlanner, hwFabric, hwPort, hwPending⟩ := hFields
    obtain ⟨huNode, huStore, huOthers, huDelays, huFabric, huPort, huPending⟩ := hFrame
    obtain ⟨hxNode, hxStore, hxOthers, hxDelays, hxFabric, hxPort, hxPending⟩ := hx.frame
    have hNode : u.node = s.node := huNode.trans (hwNode.trans hxNode)
    rw [hNode] at hIdle hJoins
    simp only [← hLaneT] at hIdle hJoins
    obtain ⟨hTimer, hNeighbour, hLock, hBad, hWindow⟩ := hHead
    refine ⟨t, hExec, ?_, ?_, ?_, ?_, ?_, fun hYes => ?_, fun hNo => ?_, ?_, ?_, ⟨fun hNot => ?_, fun hYes => ?_⟩, ?_, ?_, ?_, ?_,
      ?_, ?_⟩
    · rw [hMine, hTimer]
    · rw [hMine, hNeighbour]
    · rw [hMine, hLock]
    · rw [hMine, hBad]
    · rw [hMine, hWindow]
    · obtain ⟨hOf, hRaised⟩ := hCorrect hYes
      obtain ⟨hAdjacency, hExchanged, hMarked, hUnmarked, hUnsent, hSent, hQueue, hNoQueue, hDiffers⟩ := hOf.table
      refine ⟨by rw [hMine]; exact hAdjacency, by rw [hMine]; exact hExchanged, fun hHeard hFlag k hk => ?_,
        by rw [hMine]; exact hUnsent, by rw [hMine]; exact hSent, by rw [hMine]; exact hQueue, by rw [hMine]; exact hNoQueue,
        fun hNot => ?_, by rw [hMine]; exact hDiffers, ?_⟩
      · rw [hLaneT]
        refine hKept d k ?_
        rw [hMarked hHeard hFlag]
        exact List.mem_range.2 hk
      · rw [hQuiet (by rw [hAdjacency.trans (if_neg hNot)]; decide)]
        exact hUnmarked hNot
      · rw [hCause _ (by decide), hRaised, hCauseX _ (by decide), Bool.eq_iff_iff]
        simp only [Bool.or_eq_true, Bool.and_eq_true, Lane.comesUp_iff, decide_eq_true_eq, Bool.not_eq_true', and_true, and_assoc]
    · obtain ⟨hLane, hRaised⟩ := hIncorrect hNo
      have hKeys := hQuiet (by rw [hLane]; exact nofun)
      rw [hCause _ (by decide), hRaised, hCauseX _ (by decide), hMine, hKeys, hLane]
      exact ⟨rfl, rfl, rfl, rfl, rfl, rfl, by simp⟩
    · rw [hCause _ (by decide)]
      cases hCase : s.correct d g with
      | true => rw [(hCorrect hCase).2, hCauseX _ (by decide)]; simp
      | false => rw [(hIncorrect hCase).2, hCauseX _ (by decide)]; simp
    · rw [hLaneT, hLanes, hOtherW, hx.other]
    · rw [hIdle hNot, hNode]
    · have hJoined := hJoins hYes
      have hPlanner := congrArg State.planner hJoined
      refine ⟨congrArg State.node hJoined, hPlanner.trans ?_⟩
      dsimp only
      rw [hPlan.1, hPlan.2, hwPlanner, hx.plan.1, hx.plan.2]
    · rw [hRest, huStore, hwStore, hxStore]
    · rw [hRest, huOthers, hwMap, hxOthers]
    · rw [hRest, huDelays, hwMap, hxDelays]
    · have hFabric : t.fabric = u.fabric := by rw [hRest]
      rw [hFabric]
      refine huFabric.trans ?_
      rw [hwFabric, hxFabric]
    · rw [hRest, huPort, hwPort, hxPort]
    · rw [hRest, huPending, hwPending, hxPending]
  · have hEnd := lineEnd_lineEvent d (s.setLane d (s.lane d).toDown)
    obtain ⟨n, hn⟩ := Option.ne_none_iff_exists'.1 hTimer
    have hExec : exec (.adjacencyTimerExpiry d) s = .next (lineEvent d (s.setLane d (s.lane d).toDown)) := by
      show execAdjacencyTimerExpiry d s = _
      rw [execAdjacencyTimerExpiry, hn]
    generalize lineEvent d (s.setLane d (s.lane d).toDown) = t at *
    obtain ⟨hLanes, hDown, -, ⟨hNode, hStore, hOthers, -, -, hPort, hPending⟩, -⟩ := hEnd
    have hMine := hLanes d
    have hOther := hLanes d.other
    have hKeys := hDown d
    have hToDown : (s.lane d).toDown = { s.lane d with
        adjacency := .down, adjTimer := none, pendingKeys := [], queue := [], mapSent := false, exchanged := false,
        differs := false } := by rw [Lane.toDown, fallTo_eq (Lane.still_of_sound hSound)]
    rw [State.lane_setLane, hToDown] at hMine hKeys
    rw [State.lane_setLane_other] at hOther
    rw [State.setLane_node] at hNode
    rw [State.setLane_store] at hStore
    rw [State.setLane_map] at hOthers
    rw [State.setLane_port] at hPort
    rw [State.setLane_pending] at hPending
    refine ⟨t, hExec, ?_, hOther, hNode, hStore, hOthers, hPort, hPending⟩
    rw [hMine, hKeys nofun]

end Sys2Proof.Machine
end

section
/-!
PROOFS. What a refusal leaves, and which check of a record request answers first (O26).
-/

namespace Sys2Proof.Machine

variable {s : State} {h k : Nat} {i : StageImage} {p : Planning} {tag : Byte}

/-! ### A refusal leaves the state -/

/-- A response that is neither OK nor CLAMPED comes with the state that was given (R161). -/
def LeavesRefused (s : State) (c : Carried) : Prop := c.status ≠ .ok → c.status ≠ .clamped → c.state = s

theorem leavesRefused_of_ok {c : Carried} (hOk : c.status = .ok) : LeavesRefused s c := fun hNot _ => absurd hOk hNot

theorem leavesRefused_of_state {c : Carried} (hState : c.state = s) : LeavesRefused s c := fun _ _ => hState

theorem leavesRefused_of_clampStatus {c : Carried} {b : Bool} (hStatus : c.status = clampStatus b) : LeavesRefused s c :=
  fun hOk hClamped => by
    cases b with
    | false => exact absurd hStatus hClamped
    | true => exact absurd hStatus hOk

theorem leavesRefused_ite {b : Prop} [Decidable b] {c e : Carried} (hc : LeavesRefused s c) (he : LeavesRefused s e) :
    LeavesRefused s (if b then c else e) := by
  split
  next => exact hc
  next => exact he

theorem leavesRefused_setRing (ringId n own : Nat) (s : State) : LeavesRefused s (carrySetRing ringId n own s) := by
  refine leavesRefused_ite (leavesRefused_of_state rfl) (leavesRefused_ite (leavesRefused_of_state rfl) ?_)
  cases s.unfit n own with
  | some h => exact leavesRefused_of_state rfl
  | none =>
    cases s.clashUnder n with
    | some h => exact leavesRefused_of_state rfl
    | none => exact leavesRefused_of_ok rfl

theorem leavesRefused_setDegrade (side leak declare clear : Nat) (s : State) :
    LeavesRefused s (carrySetDegrade side leak declare clear s) := by
  unfold carrySetDegrade
  cases sideOperand side with
  | none => exact leavesRefused_of_state rfl
  | some d => exact leavesRefused_of_clampStatus rfl

theorem leavesRefused_stage (h : Nat) (i : StageImage) (s : State) : LeavesRefused s (carryStage h i s) := by
  refine leavesRefused_ite (leavesRefused_of_state rfl) ?_
  cases s.stageRequestCheck h i with
  | fail status k => exact leavesRefused_of_state rfl
  | pass => exact leavesRefused_of_ok rfl

theorem leavesRefused_amend (h : Nat) (i : StageImage) (s : State) : LeavesRefused s (carryAmend h i s) := by
  refine leavesRefused_ite (leavesRefused_of_state rfl) ?_
  cases s.amendCheck h i with
  | fail status k => exact leavesRefused_of_state rfl
  | pass =>
    cases imagePlanning i with
    | none => exact leavesRefused_of_state rfl
    | some p => exact leavesRefused_of_ok rfl

theorem leavesRefused_activate (h : Nat) (s : State) : LeavesRefused s (carryActivate h s) := by
  refine leavesRefused_ite (leavesRefused_of_state rfl) ?_
  cases s.activateCheck h with
  | fail status k => exact leavesRefused_of_state rfl
  | pass => exact leavesRefused_of_ok rfl

theorem leavesRefused_findCircuit (c : Nat) (s : State) : LeavesRefused s (carryFindCircuit c s) := by
  refine leavesRefused_ite (leavesRefused_of_state rfl) ?_
  cases s.lookup c with
  | none => exact leavesRefused_of_state rfl
  | some h => exact leavesRefused_of_state rfl

theorem leavesRefused_nextChanged (s : State) : LeavesRefused s (carryNextChanged s) := by
  unfold carryNextChanged
  cases s.store.changed with
  | nil => exact leavesRefused_of_state rfl
  | cons h rest => exact leavesRefused_of_ok rfl

theorem leavesRefused_force (side : Nat) (flag : Bool) (s : State) : LeavesRefused s (carryForce side flag s) := by
  unfold carryForce
  cases sideOperand side with
  | none => exact leavesRefused_of_state rfl
  | some d => exact leavesRefused_of_ok rfl

theorem leavesRefused_readLane (side : Nat) (s : State) : LeavesRefused s (carryReadLane side s) := by
  unfold carryReadLane
  cases sideOperand side with
  | none => exact leavesRefused_of_state rfl
  | some d => exact leavesRefused_of_state rfl

theorem leavesRefused_acknowledge (cause : Nat) (s : State) : LeavesRefused s (carryAcknowledge cause s) := by
  unfold carryAcknowledge
  cases causeOf cause with
  | none => exact leavesRefused_of_state rfl
  | some c => exact leavesRefused_of_ok rfl

/-- Every request but a Stream Chunk is carried out so that a refusal leaves the state (R161). -/
theorem exec_leavesRefused {i : Instr} (hRequest : isRequest i = true) (hChunk : ∀ tag images, i ≠ .streamChunk tag images) :
    ∃ (tag : Byte) (carry : State → Carried), (∀ s, exec i s = .next (takeRequest i tag carry s)) ∧
      ∀ s, LeavesRefused s (carry s) := by
  cases i with
  | start tag => exact ⟨tag, _, fun _ => rfl, fun _ => leavesRefused_ite (leavesRefused_of_state rfl) (leavesRefused_of_ok rfl)⟩
  | stop tag => exact ⟨tag, _, fun _ => rfl, fun _ => leavesRefused_ite (leavesRefused_of_state rfl) (leavesRefused_of_ok rfl)⟩
  | softReset tag => exact ⟨tag, _, fun _ => rfl, fun _ => leavesRefused_of_ok rfl⟩
  | setRing tag ringId n own => exact ⟨tag, _, fun _ => rfl, leavesRefused_setRing ringId n own⟩
  | setTimers tag a b c d e => exact ⟨tag, _, fun _ => rfl, fun _ => leavesRefused_of_clampStatus rfl⟩
  | setDegrade tag side leak declare clear => exact ⟨tag, _, fun _ => rfl, leavesRefused_setDegrade side _ _ _⟩
  | setSpanDelay tag span delay => exact ⟨tag, _, fun _ => rfl,
      fun _ => leavesRefused_ite (leavesRefused_of_state rfl) (leavesRefused_of_ok rfl)⟩
  | readNode tag => exact ⟨tag, _, fun _ => rfl, fun _ => leavesRefused_of_ok rfl⟩
  | stageRecord tag h i => exact ⟨tag, _, fun _ => rfl, leavesRefused_stage h i⟩
  | amendRecord tag h i => exact ⟨tag, _, fun _ => rfl, leavesRefused_amend h i⟩
  | activateRecord tag h => exact ⟨tag, _, fun _ => rfl, leavesRefused_activate h⟩
  | retireRecord tag h => exact ⟨tag, _, fun _ => rfl, fun _ => leavesRefused_ite (leavesRefused_of_state rfl)
      (leavesRefused_ite (leavesRefused_of_state rfl) (leavesRefused_of_ok rfl))⟩
  | discardRecord tag h => exact ⟨tag, _, fun _ => rfl, fun _ => leavesRefused_ite (leavesRefused_of_state rfl)
      (leavesRefused_ite (leavesRefused_of_state rfl) (leavesRefused_of_ok rfl))⟩
  | readRecord tag h => exact ⟨tag, _, fun _ => rfl, fun _ => leavesRefused_ite (leavesRefused_of_state rfl) (leavesRefused_of_ok rfl)⟩
  | findCircuit tag circuit => exact ⟨tag, _, fun _ => rfl, leavesRefused_findCircuit circuit⟩
  | nextChanged tag => exact ⟨tag, _, fun _ => rfl, leavesRefused_nextChanged⟩
  | streamBegin tag first count activate => exact ⟨tag, _, fun _ => rfl, fun _ =>
      leavesRefused_ite (leavesRefused_of_state rfl) (leavesRefused_ite (leavesRefused_of_state rfl) (leavesRefused_of_ok rfl))⟩
  | streamChunk tag images => exact absurd rfl (hChunk tag images)
  | streamStatus tag => exact ⟨tag, _, fun _ => rfl, fun _ => leavesRefused_of_ok rfl⟩
  | streamAbort tag => exact ⟨tag, _, fun _ => rfl, fun _ => leavesRefused_of_ok rfl⟩
  | forceSpan tag side => exact ⟨tag, _, fun _ => rfl, leavesRefused_force side true⟩
  | releaseSpan tag side => exact ⟨tag, _, fun _ => rfl, leavesRefused_force side false⟩
  | readSpanMap tag => exact ⟨tag, _, fun _ => rfl, fun _ => leavesRefused_of_ok rfl⟩
  | readLane tag side => exact ⟨tag, _, fun _ => rfl, leavesRefused_readLane side⟩
  | readSlotGrants tag span => exact ⟨tag, _, fun _ => rfl,
      fun _ => leavesRefused_ite (leavesRefused_of_state rfl) (leavesRefused_of_ok rfl)⟩
  | readConnections tag first count => exact ⟨tag, _, fun _ => rfl,
      fun _ => leavesRefused_ite (leavesRefused_of_ok rfl) (leavesRefused_of_state rfl)⟩
  | readSummary tag => exact ⟨tag, _, fun _ => rfl, fun _ => leavesRefused_of_ok rfl⟩
  | acknowledgeCause tag cause => exact ⟨tag, _, fun _ => rfl, leavesRefused_acknowledge cause⟩
  | setAttentionMask tag enables => exact ⟨tag, _, fun _ => rfl, fun _ => leavesRefused_of_ok rfl⟩
  | _ => exact absurd hRequest Bool.false_ne_true

/-- A request that is taken and refused leaves its response in hand and nothing else (R156, R161). -/
theorem exec_refused_withRequest {i : Instr} {t : State} {x : InHand} (hRequest : isRequest i = true)
    (hChunk : ∀ tag images, i ≠ .streamChunk tag images) (hAccepts : Accepts s) (hExec : exec i s = .next t)
    (hHand : t.port.inHand = some x) (hOk : x.response.status ≠ .ok) (hClamped : x.response.status ≠ .clamped) :
    t = s.withRequest i x.response.tag x.response.status x.response.data := by
  obtain ⟨tag, carry, hCarried, hLeaves⟩ := exec_leavesRefused hRequest hChunk
  rw [hCarried, takeRequest_accepts _ _ _ _ hAccepts] at hExec
  have hKept := hLeaves (clearHolder s)
  generalize carry (clearHolder s) = c at *
  obtain ⟨v, status, data⟩ := c
  cases hExec
  cases hHand
  have hState : v = clearHolder s := hKept hOk hClamped
  rw [hState]
  rfl

/-! ### The planning fields of an image -/

/-- The field checks of an image are those of R1 and R2. -/
theorem imagePlanning_isSome_iff (i : StageImage) : (∃ p, imagePlanning i = some p) ↔ ImageFits i := by
  obtain ⟨handle, circuit, kind, dir, lockout, endA, endB, workSlot, protSlot, prio, ceiling, port, present⟩ := i
  match kind with
  | 0 => simp [imagePlanning, kindOf, ImageFits, workSlotOk, optionalFieldsOk, and_assoc]
  | 1 => simp [imagePlanning, kindOf, ImageFits, workSlotOk, optionalFieldsOk, and_assoc]
  | 2 => simp [imagePlanning, kindOf, ImageFits, workSlotOk, optionalFieldsOk, and_assoc]
  | n + 3 => simp [imagePlanning, kindOf, ImageFits]

theorem imagePlanning_eq_none (hNot : ¬ ImageFits i) : imagePlanning i = none := by
  rw [Option.eq_none_iff_forall_ne_some]
  exact fun p hPlan => hNot ((imagePlanning_isSome_iff i).1 ⟨p, hPlan⟩)

theorem circuit_of_imagePlanning (hPlan : imagePlanning i = some p) : p.circuit = i.circuit := by
  unfold imagePlanning at hPlan
  split at hPlan
  next => cases hPlan
  next =>
    split at hPlan
    next => cases hPlan; rfl
    next => cases hPlan

/-! ### The lowest record that a search names -/

/-- A search over the handles names the lowest number that satisfies its test, for a test that no Free record satisfies. -/
theorem find?_handles (hs : Table.wf Record.free s.store.records = true) {f : Nat → Bool}
    (hFree : ∀ j, s.record j = Record.free → f j = false) (hLowest : IsLowest (fun j => f j = true) k) :
    s.handles.find? f = some k := by
  obtain ⟨hk, hBelow⟩ := hLowest
  have hListed : k ∈ s.handles := (mem_handles_iff hs).2 fun hNot => by rw [hFree k hNot] at hk; cases hk
  obtain ⟨j, hFind⟩ := Option.isSome_iff_exists.1 (List.find?_isSome.2 ⟨k, hListed, hk⟩)
  obtain ⟨-, hj, hLeast⟩ := find?_lowest (handles_pairwise hs) hFind
  have hNotBelow : ¬ j < k := fun hLow => hBelow j hLow hj
  rw [hFind, show j = k by have := hLeast k hListed hk; omega]

theorem findOther_eq_some (hs : Table.wf Record.free s.store.records = true) {f : Record → Bool} (hf : f Record.free = false)
    (hLowest : IsLowest (fun j => j ≠ h ∧ f (s.record j) = true) k) : s.findOther h f = some k := by
  refine find?_handles hs (fun j hj => ?_) ?_
  · rw [hj, hf, Bool.and_false]
  · simpa only [Bool.and_eq_true, decide_eq_true_eq] using hLowest

theorem slotClashWith_eq_some (hs : Table.wf Record.free s.store.records = true)
    (hLowest : IsLowest (fun j => j ≠ h ∧ (s.record j).lifecycle = .active ∧
      slotClash s.node.ringSize (s.record j).plan p = true) k) : s.slotClashWith h p = some k := by
  refine findOther_eq_some hs rfl ?_
  simpa only [Bool.and_eq_true, decide_eq_true_eq] using hLowest

theorem portClashWith_eq_some (hs : Table.wf Record.free s.store.records = true) {port : Option Byte}
    (hLowest : IsLowest (fun j => j ≠ h ∧ (s.record j).lifecycle = .active ∧ port ≠ none ∧ (s.record j).port = port) k) :
    s.portClashWith h port = some k := by
  refine findOther_eq_some hs rfl ?_
  simpa only [Bool.and_eq_true, decide_eq_true_eq, Option.isSome_iff_ne_none, and_assoc] using hLowest

/-- Where no two records in use share a circuit number, the holder that is found is the one there is (R9, R17). -/
theorem labelHolder_eq_some (hs : Table.wf Record.free s.store.records = true) (hLabels : LabelsSound s) {c : Nat}
    (hk : k ≠ h) (hUse : s.inUse k) (hCircuit : (s.record k).plan.circuit = c) : s.labelHolder h c = some k := by
  obtain ⟨-, -, hApart⟩ := hLabels
  refine findOther_eq_some hs rfl ⟨⟨hk, ?_⟩, fun j hLow hj => ?_⟩
  · simpa only [Bool.and_eq_true, decide_eq_true_eq] using And.intro (show (s.record k).lifecycle ≠ .free from hUse) hCircuit
  · dsimp only at hj
    rw [Bool.and_eq_true, decide_eq_true_eq, decide_eq_true_eq] at hj
    obtain ⟨-, hUseJ, hCircuitJ⟩ := hj
    exact hApart j k (Nat.ne_of_lt hLow) hUseJ hUse (hCircuitJ.trans hCircuit.symm)

theorem portHeld_eq_true {port : Option Byte} (hk : k ≠ h)
    (hPlanned : (s.record k).lifecycle = .active ∨ (s.record k).lifecycle = .retiring) (hSome : port ≠ none)
    (hPort : (s.record k).port = port) : s.portHeld h port = true := by
  rw [← Bool.not_eq_false]
  exact fun hFree => (portHeld_eq_false.1 hFree k hk hPlanned).elim hSome fun hNot => hNot hPort

/-! ### Record checks that fail -/

theorem stageRequestCheck_of_busy (hBusy : (s.record h).lifecycle = .active ∨ (s.record h).lifecycle = .retiring) :
    s.stageRequestCheck h i = .fail .wrongState none := by
  rw [State.stageRequestCheck, stageCheck_of_busy i hBusy]

theorem not_busy_of_free (hFree : (s.record h).lifecycle = .free ∨ (s.record h).lifecycle = .staged) :
    ¬ ((s.record h).lifecycle = .active ∨ (s.record h).lifecycle = .retiring) := by
  rcases hFree with hLife | hLife <;> rw [hLife] <;> decide

theorem stageRequestCheck_of_unfit (hFree : (s.record h).lifecycle = .free ∨ (s.record h).lifecycle = .staged)
    (hUnfit : i.handle ≠ h ∨ ¬ ImageFits i) : s.stageRequestCheck h i = .fail .invalidField none := by
  have hNotBusy := not_busy_of_free hFree
  cases hPlan : imagePlanning i with
  | none => rw [State.stageRequestCheck, stageCheck_of_noPlan hNotBusy hPlan]; exact ite_self _
  | some p =>
    have hHandle : i.handle ≠ h := hUnfit.resolve_right (not_not.2 ((imagePlanning_isSome_iff i).1 ⟨p, hPlan⟩))
    rw [State.stageRequestCheck, State.stageCheck, if_neg hNotBusy, hPlan]
    dsimp only
    cases s.labelHolder h p.circuit with
    | none => exact if_pos hHandle
    | some k => exact if_pos hHandle

theorem stageRequestCheck_of_clash (hFree : (s.record h).lifecycle = .free ∨ (s.record h).lifecycle = .staged)
    (hHandle : i.handle = h) (hPlan : imagePlanning i = some p) (hLabel : s.labelHolder h p.circuit = some k) :
    s.stageRequestCheck h i = .fail .labelClash (some k) := by
  rw [State.stageRequestCheck, State.stageCheck, if_neg (not_busy_of_free hFree), hPlan]
  dsimp only
  rw [hLabel]
  exact if_neg (not_not.2 hHandle)

theorem activateCheck_of_wrongState (hState : (s.record h).lifecycle ≠ .staged) :
    s.activateCheck h = .fail .wrongState none := if_pos hState

theorem activateCheck_of_unfit (hState : (s.record h).lifecycle = .staged)
    (hUnfit : ¬ ((s.record h).plan.endA < s.node.ringSize ∧ (s.record h).plan.endB < s.node.ringSize ∧
      ((s.record h).port.isSome = true ↔ s.node.own = (s.record h).plan.endA ∨ s.node.own = (s.record h).plan.endB))) :
    s.activateCheck h = .fail .invalidField none := by
  rw [← fits_iff, Bool.not_eq_false] at hUnfit
  rw [State.activateCheck, if_neg (not_not.2 hState), if_pos hUnfit]

/-- A Staged record that fits the ring is compared by slot, then by port (R12). -/
theorem activateCheck_of_fits (hState : (s.record h).lifecycle = .staged)
    (hFits : (s.record h).plan.endA < s.node.ringSize ∧ (s.record h).plan.endB < s.node.ringSize ∧
      ((s.record h).port.isSome = true ↔ s.node.own = (s.record h).plan.endA ∨ s.node.own = (s.record h).plan.endB)) :
    (∀ k, s.slotClashWith h (s.record h).plan = some k → s.activateCheck h = .fail .slotClash (some k)) ∧
      ∀ k, s.slotClashWith h (s.record h).plan = none → s.portClashWith h (s.record h).port = some k →
        s.activateCheck h = .fail .portClash (some k) := by
  rw [← fits_iff] at hFits
  unfold State.activateCheck
  dsimp only
  rw [if_neg (not_not.2 hState), hFits]
  refine ⟨fun k hSlot => ?_, fun k hSlot hPort => ?_⟩
  · rw [hSlot]; rfl
  · rw [hSlot, hPort]; rfl

theorem amendCheck_of_wrongState (hState : (s.record h).lifecycle ≠ .active) :
    s.amendCheck h i = .fail .wrongState none := if_pos hState

theorem amendCheck_of_noPlan (hState : (s.record h).lifecycle = .active) (hPlan : imagePlanning i = none) :
    s.amendCheck h i = .fail .invalidField none := by
  rw [State.amendCheck, if_neg (not_not.2 hState), hPlan]

theorem amendCheck_of_plan (hState : (s.record h).lifecycle = .active) (hPlan : imagePlanning i = some p) :
    (¬ (i.handle = h ∧ s.amendFits h p (imagePort i) = true) → s.amendCheck h i = .fail .invalidField none) ∧
      (i.handle = h → s.amendFits h p (imagePort i) = true → s.portHeld h (imagePort i) = true →
        s.amendCheck h i = .fail .portClash none) := by
  rw [State.amendCheck, if_neg (not_not.2 hState), hPlan]
  refine ⟨fun hNot => if_pos ?_, fun hHandle hFits hHeld => ?_⟩
  · by_contra hPass
    exact hNot (by simpa using hPass)
  · dsimp only
    rw [hFits, hHeld, if_neg (by simp [hHandle]), if_pos rfl]

/-- An image keeps what an Amend may not change, and its port stands where this node is an end (R14). -/
theorem amendFits_iff {port : Option Byte} : s.amendFits h p port = true ↔
    (p.circuit = (s.record h).plan.circuit ∧ p.kind = (s.record h).plan.kind ∧ p.endA = (s.record h).plan.endA ∧
      p.endB = (s.record h).plan.endB ∧ p.dir = (s.record h).plan.dir ∧ p.workSlot = (s.record h).plan.workSlot ∧
      p.protSlot = (s.record h).plan.protSlot) ∧
    (port.isSome = true ↔ s.node.own = (s.record h).plan.endA ∨ s.node.own = (s.record h).plan.endB) := by
  have hPort : portPresenceOk (s.record h).plan port s.node.own = true ↔
      (port.isSome = true ↔ s.node.own = (s.record h).plan.endA ∨ s.node.own = (s.record h).plan.endB) := by
    rw [portPresenceOk, beq_iff_eq, Bool.eq_iff_iff, Bool.or_eq_true, decide_eq_true_eq, decide_eq_true_eq]
  rw [State.amendFits, Bool.and_eq_true, hPort]
  simp only [Bool.and_eq_true, decide_eq_true_eq, and_assoc]

/-! ### Set Ring refused for a record -/

theorem fitsRing_iff {n own : Nat} {r : Record} : fitsRing n own r = true ↔
    r.plan.endA < n ∧ r.plan.endB < n ∧ (r.port.isSome = true ↔ own = r.plan.endA ∨ own = r.plan.endB) := by
  rw [fitsRing, ← fits_iff]
  simp

theorem unfit_eq_some (hs : Table.wf Record.free s.store.records = true) {n own : Nat}
    (hLowest : IsLowest (fun j => ((s.record j).lifecycle = .active ∨ (s.record j).lifecycle = .retiring) ∧
      ¬ ((s.record j).plan.endA < n ∧ (s.record j).plan.endB < n ∧
        ((s.record j).port.isSome = true ↔ own = (s.record j).plan.endA ∨ own = (s.record j).plan.endB))) k) :
    s.unfit n own = some k := by
  refine find?_handles hs (fun j hj => by rw [hj]; rfl) ?_
  simpa only [Bool.and_eq_true, Bool.or_eq_true, decide_eq_true_eq, Bool.not_eq_true', ← Bool.not_eq_true, fitsRing_iff]
    using hLowest

theorem clashUnder_eq_some (hs : Table.wf Record.free s.store.records = true) {n : Nat}
    (hLowest : IsLowest (fun j => (s.record j).lifecycle = .active ∧
      ∃ i, i ≠ j ∧ (s.record i).lifecycle = .active ∧ slotClash n (s.record i).plan (s.record j).plan = true) k) :
    s.clashUnder n = some k := by
  have hOther : ∀ j, (s.findOther j fun r => decide (r.lifecycle = .active) && slotClash n r.plan (s.record j).plan).isSome = true ↔
      ∃ i, i ≠ j ∧ (s.record i).lifecycle = .active ∧ slotClash n (s.record i).plan (s.record j).plan = true := fun j => by
    rw [Option.isSome_iff_ne_none, ne_eq, findOther_eq_none rfl]
    simp
  refine find?_handles hs (fun j hj => by rw [hj]; rfl) ?_
  simpa only [Bool.and_eq_true, decide_eq_true_eq, hOther] using hLowest

end Sys2Proof.Machine
end

section
/-!
PROOFS. The refused requests, each with its condition, status and data (O26).
-/

namespace Sys2Proof.Machine

variable {s : State} {h k : Nat} {i : StageImage} {tag : Byte} {status : Status}

/-! ### Record requests that a check refuses -/

/-- A record request that is refused without naming another record answers with the status block (R163). -/
theorem exec_refusedBlock {i : Instr} {carry : State → Carried} (hExec : ∀ v, exec i v = .next (takeRequest i tag carry v))
    (hAccepts : Accepts s) (hCarry : carry (clearHolder s) = withBlock h status none (clearHolder s)) :
    exec i s = .next (s.withRequest i tag status (s.blockBytes h)) :=
  exec_answered hExec hAccepts (hCarry.trans (withBlock_none h status (clearHolder s)))

/-- A record request that is refused for another record names it after the status block (R163). -/
theorem exec_refusedBeside {i : Instr} {carry : State → Carried} (hExec : ∀ v, exec i v = .next (takeRequest i tag carry v))
    (hAccepts : Accepts s) (hCarry : carry (clearHolder s) = withBlock h status (some k) (clearHolder s)) :
    exec i s = .next (s.withRequest i tag status (s.blockBytes h ++ be2 k)) :=
  exec_answered hExec hAccepts hCarry

theorem not_badHandle_of_lt (hh : h < 4096) : ¬ badHandle h = true := Bool.eq_false_iff.1 (badHandle_of_lt hh)

theorem badHandle_of_le (hh : 4095 < h) : badHandle h = true := by simp [badHandle, Config.handleCount]; omega

theorem carryStage_fails {o : Option Nat} (hh : h < 4096) (hCheck : s.stageRequestCheck h i = .fail status o) :
    carryStage h i s = withBlock h status o s := by
  rw [carryStage, if_neg (not_badHandle_of_lt hh), hCheck]

theorem carryActivate_fails {o : Option Nat} (hh : h < 4096) (hCheck : s.activateCheck h = .fail status o) :
    carryActivate h s = withBlock h status o s := by
  rw [carryActivate, if_neg (not_badHandle_of_lt hh), hCheck]

theorem carryAmend_fails {o : Option Nat} (hh : h < 4096) (hCheck : s.amendCheck h i = .fail status o) :
    carryAmend h i s = withBlock h status none s := by
  rw [carryAmend, if_neg (not_badHandle_of_lt hh), hCheck]

theorem carryRetire_fails (hh : h < 4096) (hState : (s.record h).lifecycle ≠ .active) :
    carryRetire h s = withBlock h .wrongState none s := by
  rw [carryRetire, if_neg (not_badHandle_of_lt hh), if_pos hState]

theorem carryDiscard_fails (hh : h < 4096) (hState : (s.record h).lifecycle ≠ .staged) :
    carryDiscard h s = withBlock h .wrongState none s := by
  rw [carryDiscard, if_neg (not_badHandle_of_lt hh), if_pos hState]

theorem exec_stage_refused (hAccepts : Accepts s) (hh : h < 4096) (hCheck : s.stageRequestCheck h i = .fail status none) :
    exec (.stageRecord tag h i) s = .next (s.withRequest (.stageRecord tag h i) tag status (s.blockBytes h)) :=
  exec_refusedBlock (fun _ => rfl) hAccepts (carryStage_fails (s := clearHolder s) hh hCheck)

theorem exec_activate_refused (hAccepts : Accepts s) (hh : h < 4096) (hCheck : s.activateCheck h = .fail status none) :
    exec (.activateRecord tag h) s = .next (s.withRequest (.activateRecord tag h) tag status (s.blockBytes h)) :=
  exec_refusedBlock (fun _ => rfl) hAccepts (carryActivate_fails (s := clearHolder s) hh hCheck)

theorem exec_activate_refusedBeside (hAccepts : Accepts s) (hh : h < 4096)
    (hCheck : s.activateCheck h = .fail status (some k)) : exec (.activateRecord tag h) s =
      .next (s.withRequest (.activateRecord tag h) tag status (s.blockBytes h ++ be2 k)) :=
  exec_refusedBeside (fun _ => rfl) hAccepts (carryActivate_fails (s := clearHolder s) hh hCheck)

theorem exec_amend_refused {o : Option Nat} (hAccepts : Accepts s) (hh : h < 4096)
    (hCheck : s.amendCheck h i = .fail status o) :
    exec (.amendRecord tag h i) s = .next (s.withRequest (.amendRecord tag h i) tag status (s.blockBytes h)) :=
  exec_refusedBlock (fun _ => rfl) hAccepts (carryAmend_fails (s := clearHolder s) hh hCheck)

/-! ### Operands out of range -/

theorem sideOperand_of_le {side : Nat} (hSide : 2 ≤ side) : sideOperand side = none := by
  match side with
  | 0 => omega
  | 1 => omega
  | n + 2 => rfl

/-- A request whose carrying out answers with a status alone is refused so (R157, R161). -/
theorem exec_answerOnly {i : Instr} {carry : State → Carried} (hExec : ∀ v, exec i v = .next (takeRequest i tag carry v))
    (hAccepts : Accepts s) (hCarry : carry (clearHolder s) = answerOnly status (clearHolder s)) :
    exec i s = .next (s.withRequest i tag status []) := exec_answered hExec hAccepts hCarry

theorem exec_badSide {side : Nat} (hAccepts : Accepts s) (hSide : 2 ≤ side) :
    (∀ leak declare clear, exec (.setDegrade tag side leak declare clear) s =
      .next (s.withRequest (.setDegrade tag side leak declare clear) tag .invalidField [])) ∧
    exec (.forceSpan tag side) s = .next (s.withRequest (.forceSpan tag side) tag .invalidField []) ∧
    exec (.releaseSpan tag side) s = .next (s.withRequest (.releaseSpan tag side) tag .invalidField []) ∧
    exec (.readLane tag side) s = .next (s.withRequest (.readLane tag side) tag .invalidField []) := by
  have hNone := sideOperand_of_le hSide
  refine ⟨fun _ _ _ => exec_answerOnly (fun _ => rfl) hAccepts ?_, exec_answerOnly (fun _ => rfl) hAccepts ?_,
    exec_answerOnly (fun _ => rfl) hAccepts ?_, exec_answerOnly (fun _ => rfl) hAccepts ?_⟩
  · rw [carrySetDegrade, hNone]
  · rw [carryForce, hNone]
  · rw [carryForce, hNone]
  · rw [carryReadLane, hNone]

theorem exec_badHandle (hAccepts : Accepts s) (hh : 4095 < h) :
    exec (.readRecord tag h) s = .next (s.withRequest (.readRecord tag h) tag .badHandle []) ∧
    exec (.activateRecord tag h) s = .next (s.withRequest (.activateRecord tag h) tag .badHandle []) ∧
    exec (.retireRecord tag h) s = .next (s.withRequest (.retireRecord tag h) tag .badHandle []) ∧
    exec (.discardRecord tag h) s = .next (s.withRequest (.discardRecord tag h) tag .badHandle []) ∧
    ∀ i, exec (.stageRecord tag h i) s = .next (s.withRequest (.stageRecord tag h i) tag .badHandle []) ∧
      exec (.amendRecord tag h i) s = .next (s.withRequest (.amendRecord tag h i) tag .badHandle []) := by
  have hBad := badHandle_of_le hh
  exact ⟨exec_answerOnly (fun _ => rfl) hAccepts (if_pos hBad), exec_answerOnly (fun _ => rfl) hAccepts (if_pos hBad),
    exec_answerOnly (fun _ => rfl) hAccepts (if_pos hBad), exec_answerOnly (fun _ => rfl) hAccepts (if_pos hBad),
    fun _ => ⟨exec_answerOnly (fun _ => rfl) hAccepts (if_pos hBad), exec_answerOnly (fun _ => rfl) hAccepts (if_pos hBad)⟩⟩

/-! ### Set Ring -/

theorem carrySetRing_badFields {ringId n own : Nat} (hState : s.node.state = .configuring)
    (hBad : ringId = 0 ∨ 65535 < ringId ∨ n < 3 ∨ 24 < n ∨ n ≤ own) :
    carrySetRing ringId n own s = answerOnly .invalidField s := by
  have hFields : (!ringFieldsOk ringId n own) = true := by
    rw [Bool.not_eq_true', ← Bool.not_eq_true, ringFieldsOk_iff]
    omega
  rw [carrySetRing, if_neg (not_not.2 hState), if_pos hFields]

theorem carrySetRing_unfit {ringId n own : Nat} (hState : s.node.state = .configuring)
    (hFields : ringFieldsOk ringId n own = true) (hUnfit : s.unfit n own = some k) :
    carrySetRing ringId n own s = { state := s, status := .invalidField, data := be2 k } := by
  rw [carrySetRing, if_neg (not_not.2 hState), hFields, hUnfit]
  rfl

theorem carrySetRing_clashes {ringId n own : Nat} (hState : s.node.state = .configuring)
    (hFields : ringFieldsOk ringId n own = true) (hUnfit : s.unfit n own = none) (hClash : s.clashUnder n = some k) :
    carrySetRing ringId n own s = { state := s, status := .slotClash, data := be2 k } := by
  rw [carrySetRing, if_neg (not_not.2 hState), hFields, hUnfit, hClash]
  rfl

/-! ### The obligation -/

/-- The refusals of one record request by the state and the fields of its own record (R9, R11, R12, R14, R15). -/
theorem exec_refused_for_record (hAccepts : Accepts s) (hh : h < 4096) :
    ((s.record h).lifecycle ≠ .staged →
      exec (.discardRecord tag h) s = .next (s.withRequest (.discardRecord tag h) tag .wrongState (s.blockBytes h)) ∧
        exec (.activateRecord tag h) s = .next (s.withRequest (.activateRecord tag h) tag .wrongState (s.blockBytes h))) ∧
    ((s.record h).lifecycle ≠ .active →
      exec (.retireRecord tag h) s = .next (s.withRequest (.retireRecord tag h) tag .wrongState (s.blockBytes h)) ∧
        ∀ i, exec (.amendRecord tag h i) s =
          .next (s.withRequest (.amendRecord tag h i) tag .wrongState (s.blockBytes h))) :=
  ⟨fun hState => ⟨exec_refusedBlock (fun _ => rfl) hAccepts (carryDiscard_fails (s := clearHolder s) hh hState),
      exec_activate_refused hAccepts hh (activateCheck_of_wrongState hState)⟩,
    fun hState => ⟨exec_refusedBlock (fun _ => rfl) hAccepts (carryRetire_fails (s := clearHolder s) hh hState),
      fun _ => exec_amend_refused hAccepts hh (amendCheck_of_wrongState hState)⟩⟩

/-- Settles O26: a refusal leaves the state, and each condition makes its check the first that fails. -/
theorem refusedRequestsChangeNothing : Obligations.RefusedRequestsChangeNothing := by
  refine ⟨fun i s t x hRequest hChunk hAccepts hExec hHand hOk hClamped =>
      exec_refused_withRequest hRequest hChunk hAccepts hExec hHand hOk hClamped, imagePlanning_isSome_iff,
    fun s tag hAccepts => ?_, fun s tag hAccepts hTables => ?_⟩
  · intro refused
    refine ⟨fun hState => exec_answered (fun _ => rfl) hAccepts (if_pos hState),
      fun hState => exec_answered (fun _ => rfl) hAccepts ?_, fun ringId n own => ⟨fun hState => ?_, fun hState hBad => ?_⟩,
      fun side hSide => exec_badSide hAccepts hSide, fun span hSpan => ⟨fun delay => ?_, ?_⟩,
      fun first count hRange => ?_, exec_answerOnly (fun _ => rfl) hAccepts (if_pos rfl),
      fun first count activate hState hRange => exec_answered (fun _ => rfl) hAccepts ?_,
      fun h hh => exec_badHandle hAccepts hh, fun h hh => ?_⟩
    · refine (if_pos hState).trans ?_
      rw [withNodeState, show (clearHolder s).node.state = .configuring from hState]
      rfl
    · exact exec_answerOnly (fun _ => rfl) hAccepts (if_pos hState)
    · exact exec_answerOnly (fun _ => rfl) hAccepts (carrySetRing_badFields (s := clearHolder s) hState hBad)
    · exact exec_answerOnly (fun _ => rfl) hAccepts (if_pos hSpan)
    · exact exec_answerOnly (fun _ => rfl) hAccepts (if_pos hSpan)
    · refine exec_answerOnly (fun _ => rfl) hAccepts (if_neg ?_)
      simp only [connectionsRangeOk, Bool.and_eq_true, decide_eq_true_eq]
      omega
    · refine (if_neg hState).trans (if_pos ?_)
      simp only [Config.handleCount]
      omega
    · intro r
      obtain ⟨hNotStaged, hNotActive⟩ := exec_refused_for_record (tag := tag) hAccepts hh
      exact ⟨hNotStaged, hNotActive,
        fun hBusy i => exec_stage_refused hAccepts hh (stageRequestCheck_of_busy hBusy),
        fun hFree i hUnfit => exec_stage_refused hAccepts hh (stageRequestCheck_of_unfit hFree hUnfit),
        fun hStaged hUnfit => exec_activate_refused hAccepts hh (activateCheck_of_unfit hStaged hUnfit)⟩
  · intro refused active retiring
    have hRecords : Table.wf Record.free s.store.records = true := hTables.1
    refine ⟨fun ringId n own hState hLow hHigh hSize hMost hOwn => ?_, fun h hh => ?_⟩
    · intro unfit clashes
      have hFields := ringFieldsOk_iff.2 ⟨hLow, hHigh, hSize, hMost, hOwn⟩
      refine ⟨fun k hLowest => exec_answered (fun _ => rfl) hAccepts
          (carrySetRing_unfit (s := clearHolder s) hState hFields (unfit_eq_some (s := s) hRecords hLowest)),
        fun hFit k hLowest => exec_answered (fun _ => rfl) hAccepts
          (carrySetRing_clashes (s := clearHolder s) hState hFields (unfit_eq_none (s := s) fun j hj => ?_)
            (clashUnder_eq_some (s := s) hRecords hLowest))⟩
      have hFits := fitsRing_iff.2 (not_not.1 fun hNot => hFit j ⟨hj, hNot⟩)
      exact (Bool.and_eq_true _ _ ▸ hFits : _ ∧ _)
    · intro r
      refine ⟨fun hLabels hFree i k hHandle hFits hk hUse hCircuit => ?_, fun hStaged hA hB hPort => ?_, fun hActive i => ?_⟩
      · obtain ⟨p, hPlan⟩ := (imagePlanning_isSome_iff i).2 hFits
        have hLabel := labelHolder_eq_some hRecords hLabels hk hUse (hCircuit.trans (circuit_of_imagePlanning hPlan).symm)
        exact exec_refusedBeside (fun _ => rfl) hAccepts (carryStage_fails (s := clearHolder s) hh
          (stageRequestCheck_of_clash (s := s) hFree hHandle hPlan hLabel))
      · intro slot port
        obtain ⟨hSlots, hPorts⟩ := activateCheck_of_fits hStaged ⟨hA, hB, hPort⟩
        refine ⟨fun k hLowest => exec_activate_refusedBeside hAccepts hh (hSlots k (slotClashWith_eq_some hRecords hLowest)),
          fun hNone k hLowest => exec_activate_refusedBeside hAccepts hh
            (hPorts k (slotClashWith_eq_none.2 fun j hj hLive => ?_) (portClashWith_eq_some hRecords hLowest))⟩
        rw [Bool.eq_false_iff]
        exact fun hClash => hNone j ⟨hj, hLive, hClash⟩
      · intro fits
        refine ⟨fun hNot => ?_, fun hFits k hk hPlanned hSome hPort => ?_⟩
        · cases hPlan : imagePlanning i with
          | none => exact exec_amend_refused hAccepts hh (amendCheck_of_noPlan hActive hPlan)
          | some p =>
            refine exec_amend_refused hAccepts hh ((amendCheck_of_plan hActive hPlan).1 fun hPass => hNot ?_)
            obtain ⟨hHandle, hFields⟩ := hPass
            obtain ⟨hKept, hPresent⟩ := amendFits_iff.1 hFields
            exact ⟨hHandle, ⟨p, hPlan, hKept⟩, hPresent⟩
        · obtain ⟨hHandle, ⟨p, hPlan, hKept⟩, hPresent⟩ := hFits
          exact exec_amend_refused hAccepts hh ((amendCheck_of_plan hActive hPlan).2 hHandle
            (amendFits_iff.2 ⟨hKept, hPresent⟩) (portHeld_eq_true hk hPlanned hSome hPort))

end Sys2Proof.Machine
end

section
/-!
PROOFS. Numbers and check sequences on the wire, and the frames of the lanes, the Fabric Link and the status lanes (O20).
-/

namespace Sys2Proof.Machine

/-! ### Numbers as bytes -/

theorem toNat_byte_of_lt {n : Nat} (h : n < 256) : (BitVec.ofNat 8 n).toNat = n := by
  rw [BitVec.toNat_ofNat]
  omega

theorem de2_be2 {n : Nat} (h : n < 65536) : de2 (BitVec.ofNat 8 (n / 256)) (BitVec.ofNat 8 n) = n := by
  rw [de2, BitVec.toNat_ofNat, BitVec.toNat_ofNat]
  omega

theorem de3_be3 {n : Nat} (h : n < 16777216) :
    de3 (BitVec.ofNat 8 (n / 65536)) (BitVec.ofNat 8 (n / 256)) (BitVec.ofNat 8 n) = n := by
  rw [de3, de2, BitVec.toNat_ofNat, BitVec.toNat_ofNat, BitVec.toNat_ofNat]
  omega

theorem de4_be4 {n : Nat} (h : n < 4294967296) :
    de4 (BitVec.ofNat 8 (n / 16777216)) (BitVec.ofNat 8 (n / 65536)) (BitVec.ofNat 8 (n / 256)) (BitVec.ofNat 8 n) = n := by
  rw [de4, de3, de2, BitVec.toNat_ofNat, BitVec.toNat_ofNat, BitVec.toNat_ofNat, BitVec.toNat_ofNat]
  omega

theorem ofNat_de2_toNat (v : BitVec 16) :
    BitVec.ofNat 16 (de2 (BitVec.ofNat 8 (v.toNat / 256)) (BitVec.ofNat 8 v.toNat)) = v := by
  rw [de2_be2 v.isLt, BitVec.ofNat_toNat, BitVec.setWidth_eq]

theorem ofNat_de3_toNat (v : BitVec 24) : BitVec.ofNat 24
    (de3 (BitVec.ofNat 8 (v.toNat / 65536)) (BitVec.ofNat 8 (v.toNat / 256)) (BitVec.ofNat 8 v.toNat)) = v := by
  rw [de3_be3 v.isLt, BitVec.ofNat_toNat, BitVec.setWidth_eq]

theorem ofNat_de4_toNat (v : BitVec 32) : BitVec.ofNat 32
    (de4 (BitVec.ofNat 8 (v.toNat / 16777216)) (BitVec.ofNat 8 (v.toNat / 65536)) (BitVec.ofNat 8 (v.toNat / 256))
      (BitVec.ofNat 8 v.toNat)) = v := by
  rw [de4_be4 v.isLt, BitVec.ofNat_toNat, BitVec.setWidth_eq]

/-! ### Frames closed by their check -/

theorem length_closeFrame (body : List Byte) : (closeFrame body).length = body.length + 2 := by
  rw [closeFrame, List.length_append]
  rfl

theorem crcOk_closeFrame (body : List Byte) : crcOk (closeFrame body) = true := by
  have hShort : (closeFrame body).length - 2 = body.length := by rw [length_closeFrame]; omega
  rw [crcOk, hShort, Bool.and_eq_true, decide_eq_true_eq, decide_eq_true_eq, length_closeFrame, closeFrame, List.drop_left,
    List.take_left]
  exact ⟨by omega, rfl⟩

/-- A frame ends in the two bytes of its check. -/
theorem exists_closeFrame (body : List Byte) : ∃ x y, closeFrame body = body ++ [x] ++ [y] ∧ crcOk (body ++ [x] ++ [y]) = true := by
  have hCheck := crcOk_closeFrame body
  rw [closeFrame] at hCheck ⊢
  generalize (crc16 body).toNat = n at *
  rw [be2, ← List.singleton_append, ← List.append_assoc] at hCheck ⊢
  exact ⟨_, _, rfl, hCheck⟩

/-! ### Codes -/

theorem sideOf_byte (d : Side) : sideOf (BitVec.ofNat 8 (sideCode d)).toNat = some d := by cases d <;> rfl

theorem nodeStateOf_byte (n : NodeState) : nodeStateOf (BitVec.ofNat 8 (nodeStateCode n)).toNat = some n := by
  cases n <;> rfl

theorem spanEndOf_byte (e : SpanEnd) : spanEndOf (BitVec.ofNat 8 (spanEndCode e)).toNat = some e := by cases e <;> rfl

theorem reportStateOf_byte (st : ReportState) : reportStateOf (BitVec.ofNat 8 (reportStateCode st)).toNat = some st := by
  cases st <;> rfl

theorem reportCauseOf_byte (c : ReportCause) : reportCauseOf (BitVec.ofNat 8 (reportCauseCode c)).toNat = some c := by
  cases c <;> rfl

theorem flag_byte (b : Bool) : (BitVec.ofNat 8 b.toNat).getLsbD 0 = b := by cases b <;> rfl

/-- Bit 0 of a flag byte is the flag. -/
theorem flagByte_bit (b : Bool) : (if b then 1 else 0 : Byte).getLsbD 0 = b := by cases b <;> decide

/-! ### Lane frames -/

theorem length_laneFrame {kind : Nat} {body : List Byte} (hBody : body.length ≤ 13) : (laneFrame kind body).length = 16 := by
  rw [laneFrame, length_closeFrame, List.length_append, List.length_append, List.length_replicate, be1, List.length_singleton]
  omega

/-- A lane frame is its type, its body and what fills and closes it. -/
theorem laneFrame_eq (kind : Nat) (body : List Byte) :
    ∃ rest, laneFrame kind body = BitVec.ofNat 8 kind :: (body ++ rest) := by
  refine ⟨List.replicate (13 - body.length) 0 ++ be2 (crc16 (be1 kind ++ body ++ List.replicate (13 - body.length) 0)).toNat, ?_⟩
  rw [laneFrame, closeFrame, List.append_assoc, List.append_assoc, be1, List.singleton_append]

/-- A whole lane frame with a good check is read by its type. -/
theorem decodeLaneFrame_good {d : Side} {frame : List Byte} (hLength : frame.length = 16) (hCheck : crcOk frame = true) :
    ((frame.getD 0 0).toNat = 1 → decodeLaneFrame d frame = .fill d) ∧
    ((frame.getD 0 0).toNat = 2 →
      decodeLaneFrame d frame = frameOf d (decodeGreeting (frame.drop 1)) greetingInRange (.greeting d)) ∧
    ((frame.getD 0 0).toNat = 3 →
      decodeLaneFrame d frame = frameOf d (decodeSpanReport (frame.drop 1)) spanReportInRange (.spanReport d)) ∧
    ((frame.getD 0 0).toNat = 4 →
      decodeLaneFrame d frame = frameOf d (decodePathConfirm (frame.drop 1)) confirmInRange (.pathConfirm d)) := by
  unfold decodeLaneFrame
  rw [if_pos ⟨hLength, hCheck⟩]
  exact ⟨fun h => by rw [h]; rfl, fun h => by rw [h]; rfl, fun h => by rw [h]; rfl, fun h => by rw [h]; rfl⟩

theorem frameOf_inRange {α : Type} {d : Side} {body : Option α} {inRange : α → Bool} {f : α → Instr} {x : α}
    (hBody : body = some x) (hRange : inRange x = true) : frameOf d body inRange f = f x := by
  rw [hBody]
  exact if_pos hRange

theorem greetingInRange_iff {g : Greeting} :
    greetingInRange g = true ↔ 1 ≤ g.ringId ∧ g.ringId ≤ 65535 ∧ g.sender ≤ 23 ∧ 3 ≤ g.ringSize ∧ g.ringSize ≤ 24 := by
  simp [greetingInRange, and_assoc]

theorem confirmInRange_iff {p : PathConfirm} :
    confirmInRange p = true ↔ p.handle ≤ 4095 ∧ p.sender ≤ 23 ∧ p.target ≤ 23 := by
  simp [confirmInRange, and_assoc]

theorem decodeGreeting_eq {b : List Byte} {side : Side} {state : NodeState} (hSide : sideOf (b.getD 3 0).toNat = some side)
    (hState : nodeStateOf (b.getD 9 0).toNat = some state) : decodeGreeting b = some
      { ringId := de2 (b.getD 0 0) (b.getD 1 0), sender := (b.getD 2 0).toNat, senderSide := side,
        ringSize := (b.getD 4 0).toNat,
        digest := BitVec.ofNat 32 (de4 (b.getD 5 0) (b.getD 6 0) (b.getD 7 0) (b.getD 8 0)), nodeState := state,
        heard := (b.getD 10 0).getLsbD 7, mapSent := (b.getD 10 0).getLsbD 6 } := by
  rw [decodeGreeting, hSide, hState]

theorem decodeSpanReport_eq {b : List Byte} {e : SpanEnd} {st : ReportState} {c : ReportCause}
    (hEnd : spanEndOf (b.getD 1 0).toNat = some e) (hState : reportStateOf (b.getD 2 0).toNat = some st)
    (hCause : reportCauseOf (b.getD 3 0).toNat = some c) : decodeSpanReport b = some
      { span := (b.getD 0 0).toNat, spanEnd := e, state := st, cause := c,
        epoch := BitVec.ofNat 16 (de2 (b.getD 4 0) (b.getD 5 0)) } := by
  rw [decodeSpanReport, hEnd, hState, hCause]

theorem heard_and_mapSent_byte (heard mapSent : Bool) :
    (BitVec.ofNat 8 (128 * heard.toNat + 64 * mapSent.toNat)).getLsbD 7 = heard ∧
      (BitVec.ofNat 8 (128 * heard.toNat + 64 * mapSent.toNat)).getLsbD 6 = mapSent := by
  cases heard <;> cases mapSent <;> decide

theorem decodeGreeting_frame {g : Greeting} (hRange : greetingInRange g = true) (rest : List Byte) :
    decodeGreeting (be2 g.ringId ++ be1 g.sender ++ be1 (sideCode g.senderSide) ++ be1 g.ringSize ++ be4 g.digest.toNat ++
      be1 (nodeStateCode g.nodeState) ++ be1 (128 * g.heard.toNat + 64 * g.mapSent.toNat) ++ rest) = some g := by
  obtain ⟨-, hRing, hSender, -, hSize⟩ := greetingInRange_iff.1 hRange
  obtain ⟨hHeard, hMapSent⟩ := heard_and_mapSent_byte g.heard g.mapSent
  refine (decodeGreeting_eq (side := g.senderSide) (state := g.nodeState) ?_ ?_).trans ?_
  · exact sideOf_byte _
  · exact nodeStateOf_byte _
  simp only [be1, be2, be3, be4, List.cons_append, List.nil_append, List.getD_cons_zero, List.getD_cons_succ]
  rw [de2_be2 (by omega), toNat_byte_of_lt (by omega), toNat_byte_of_lt (by omega), ofNat_de4_toNat, hHeard, hMapSent]

theorem decodeSpanReport_frame {r : SpanReport} (hRange : spanReportInRange r = true) (rest : List Byte) :
    decodeSpanReport (be1 r.span ++ be1 (spanEndCode r.spanEnd) ++ be1 (reportStateCode r.state) ++
      be1 (reportCauseCode r.cause) ++ be2 r.epoch.toNat ++ rest) = some r := by
  have hSpan : r.span ≤ 23 := of_decide_eq_true hRange
  refine (decodeSpanReport_eq (e := r.spanEnd) (st := r.state) (c := r.cause) ?_ ?_ ?_).trans ?_
  · exact spanEndOf_byte _
  · exact reportStateOf_byte _
  · exact reportCauseOf_byte _
  simp only [be1, be2, List.cons_append, List.nil_append, List.getD_cons_zero, List.getD_cons_succ]
  rw [toNat_byte_of_lt (by omega), ofNat_de2_toNat]

theorem decodePathConfirm_frame {p : PathConfirm} (hRange : confirmInRange p = true) (rest : List Byte) :
    decodePathConfirm (be2 p.handle ++ be2 p.check.toNat ++ be1 p.sender ++ be1 p.target ++ be1 p.heard.toNat ++
      be1 p.hops.toNat ++ rest) = some p := by
  obtain ⟨hHandle, hSender, hTarget⟩ := confirmInRange_iff.1 hRange
  have hHeard : (BitVec.ofNat 8 p.heard.toNat).toNat ≤ 1 := by
    rw [toNat_byte_of_lt (by have := p.heard.toNat_le; omega)]
    exact p.heard.toNat_le
  unfold decodePathConfirm
  simp only [be1, be2, List.cons_append, List.nil_append, List.getD_cons_zero, List.getD_cons_succ]
  rw [if_pos hHeard, de2_be2 (by omega), ofNat_de2_toNat, toNat_byte_of_lt (by omega), toNat_byte_of_lt (by omega), flag_byte,
    BitVec.ofNat_toNat, BitVec.setWidth_eq]

/-! ### The Fabric Link and the status lanes -/

/-- Inside an answer the receiver takes bytes up to its length (R180). -/
theorem decodeLink_inside {n : Nat} (b : Byte) : ∀ (l got : List Byte), got.length + l.length + 1 = n →
    decodeLink (.inside n got) (l ++ [b]) = (.between, [answerOf (got ++ l ++ [b])])
  | [], got, hLength => by
    have hLast : ¬ got.length + 1 < n := by rw [List.length_nil] at hLength; omega
    rw [List.append_nil, List.nil_append, decodeLink, linkByte, if_neg hLast]
    rfl
  | c :: l, got, hLength => by
    rw [List.length_cons] at hLength
    rw [List.cons_append, decodeLink, linkByte, if_pos (by omega)]
    dsimp only
    rw [decodeLink_inside b l (got ++ [c]) (by rw [List.length_append, List.length_singleton]; omega), List.append_assoc got]
    rfl

/-- Inside a report with a good check the receiver takes bytes up to its length, and reads the count (R40, R180). -/
theorem decodeStatusLane_inside {n : Nat} (d : Side) (b : Byte) : ∀ (l got : List Byte), got.length + l.length + 1 = n →
    crcOk (got ++ l ++ [b]) = true → decodeStatusLane d (.inside n got) (l ++ [b]) =
      (.between, [.blockCountReport d (some (BitVec.ofNat 16 (de2 ((got ++ l).getD 1 0) ((got ++ l).getD 2 0))))])
  | [], got, hLength, hCheck => by
    have hLast : ¬ got.length + 1 < n := by rw [List.length_nil] at hLength; omega
    rw [List.append_nil] at hCheck ⊢
    rw [List.nil_append, decodeStatusLane, statusByte, if_neg hLast, if_pos hCheck]
    rfl
  | c :: l, got, hLength, hCheck => by
    have hMove : got ++ c :: l = got ++ [c] ++ l := by rw [List.append_assoc]; rfl
    rw [List.length_cons] at hLength
    rw [hMove] at hCheck ⊢
    rw [List.cons_append, decodeStatusLane, statusByte, if_pos (by omega)]
    dsimp only
    rw [decodeStatusLane_inside d b l (got ++ [c]) (by rw [List.length_append, List.length_singleton]; omega) hCheck]
    rfl

/-- The first byte of an answer of `n` bytes, then the bytes up to its length (R180). -/
theorem decodeLink_answer {n : Nat} {kind : Byte} (hKind : linkByte .between kind = (.inside n [kind], [])) (l : List Byte) (b : Byte)
    (hLength : l.length + 2 = n) : decodeLink .between (kind :: (l ++ [b])) = (.between, [answerOf (kind :: (l ++ [b]))]) := by
  rw [decodeLink, hKind]
  dsimp only
  rw [decodeLink_inside b l [kind] (by rw [List.length_singleton]; omega)]
  rfl

theorem decodeLink_done (tag : Byte) (b : Bool) :
    decodeLink .between (doneFrame tag b) = (.between, [.fabricDone tag b]) := by
  obtain ⟨x, y, hFrame, hCheck⟩ := exists_closeFrame (be1 0x12 ++ [tag] ++ flagByte b)
  have hList : be1 0x12 ++ [tag] ++ flagByte b ++ [x] ++ [y] = 0x12#8 :: ([tag, if b then 1 else 0, x] ++ [y]) := rfl
  have hAnswer : answerOf (0x12#8 :: ([tag, if b then 1 else 0, x] ++ [y])) = .fabricDone tag b := by
    rw [answerOf, if_pos (hList ▸ hCheck)]
    exact (if_pos rfl).trans (congrArg (Instr.fabricDone tag) (flagByte_bit b))
  rw [doneFrame, hFrame, hList, decodeLink_answer (n := 5) (by decide) _ _ rfl, hAnswer]

theorem decodeLink_refused (tag : Byte) :
    decodeLink .between (refusedFrame tag) = (.between, [.fabricRefused tag]) := by
  obtain ⟨x, y, hFrame, hCheck⟩ := exists_closeFrame (be1 0x13 ++ [tag])
  have hList : be1 0x13 ++ [tag] ++ [x] ++ [y] = 0x13#8 :: ([tag, x] ++ [y]) := rfl
  have hAnswer : answerOf (0x13#8 :: ([tag, x] ++ [y])) = .fabricRefused tag := by
    rw [answerOf, if_pos (hList ▸ hCheck)]
    exact if_neg (show ¬ (19 : Nat) = 18 by decide)
  rw [refusedFrame, hFrame, hList, decodeLink_answer (n := 4) (by decide) _ _ rfl, hAnswer]

theorem decodeStatusLane_count (d : Side) (e : BitVec 16) :
    decodeStatusLane d .between (countFrame e) = (.between, [.blockCountReport d (some e)]) := by
  obtain ⟨x, y, hFrame, hCheck⟩ := exists_closeFrame (be1 0x21 ++ be2 e.toNat)
  have hCount := ofNat_de2_toNat e
  have hStart : statusByte d .between 0x21#8 = (.inside 5 [0x21#8], []) := by cases d <;> decide
  rw [countFrame, hFrame]
  rw [be2] at hCheck ⊢
  generalize BitVec.ofNat 8 (e.toNat / 256) = u at *
  generalize BitVec.ofNat 8 e.toNat = v at *
  have hList : be1 0x21 ++ [u, v] ++ [x] ++ [y] = 0x21#8 :: ([u, v, x] ++ [y]) := rfl
  rw [hList] at hCheck ⊢
  rw [decodeStatusLane, hStart]
  dsimp only
  rw [decodeStatusLane_inside (n := 5) d y [u, v, x] [0x21#8] rfl hCheck, ← hCount]
  rfl

/-- Settles O20: each frame has a good check, and its fields are read back from their places. -/
theorem laneAndLinkFramesDecodeAsSent : Obligations.LaneAndLinkFramesDecodeAsSent := fun d => by
  refine ⟨?_, fun g hRange => ?_, fun r hRange => ?_, fun p hRange => ?_, decodeLink_done, decodeLink_refused,
    decodeStatusLane_count d⟩
  · exact (decodeLaneFrame_good (length_laneFrame (by decide)) (crcOk_closeFrame _)).1 rfl
  · obtain ⟨rest, hFrame⟩ := laneFrame_eq 0x02 (be2 g.ringId ++ be1 g.sender ++ be1 (sideCode g.senderSide) ++ be1 g.ringSize ++
      be4 g.digest.toNat ++ be1 (nodeStateCode g.nodeState) ++ be1 (128 * g.heard.toNat + 64 * g.mapSent.toNat))
    obtain ⟨-, hGreeting, -, -⟩ := decodeLaneFrame_good (d := d) (frame := greetingFrame g)
      (length_laneFrame (show 11 ≤ 13 by decide))
      (crcOk_closeFrame _)
    rw [hGreeting (by rw [greetingFrame, hFrame]; rfl), greetingFrame, hFrame]
    exact frameOf_inRange (decodeGreeting_frame hRange rest) hRange
  · obtain ⟨rest, hFrame⟩ := laneFrame_eq 0x03 (be1 r.span ++ be1 (spanEndCode r.spanEnd) ++ be1 (reportStateCode r.state) ++
      be1 (reportCauseCode r.cause) ++ be2 r.epoch.toNat)
    obtain ⟨-, -, hReport, -⟩ := decodeLaneFrame_good (d := d) (frame := spanReportFrame r)
      (length_laneFrame (show 6 ≤ 13 by decide))
      (crcOk_closeFrame _)
    rw [hReport (by rw [spanReportFrame, hFrame]; rfl), spanReportFrame, hFrame]
    exact frameOf_inRange (decodeSpanReport_frame hRange rest) hRange
  · obtain ⟨rest, hFrame⟩ := laneFrame_eq 0x04 (be2 p.handle ++ be2 p.check.toNat ++ be1 p.sender ++ be1 p.target ++
      be1 p.heard.toNat ++ be1 p.hops.toNat)
    obtain ⟨-, -, -, hConfirm⟩ := decodeLaneFrame_good (d := d) (frame := pathConfirmFrame p)
      (length_laneFrame (show 8 ≤ 13 by decide))
      (crcOk_closeFrame _)
    rw [hConfirm (by rw [pathConfirmFrame, hFrame]; rfl), pathConfirmFrame, hFrame]
    exact frameOf_inRange (decodePathConfirm_frame hRange rest) hRange

end Sys2Proof.Machine
end

section
/-!
PROOFS. Request frames are read back as the requests they carry (O19).
-/

namespace Sys2Proof.Machine

/-! ### Stage images -/

theorem length_encodeImage (i : StageImage) : (encodeImage i).length = 18 := rfl

/-- Byte 5 of an image holds the kind, the direction and the lockout apart (R178). -/
theorem kindByte_fields {kind : Nat} (hKind : kind < 4) (dir : Side) (lockout : Bool) :
    let b := BitVec.ofNat 8 (kind + 4 * sideCode dir + 8 * lockout.toNat)
    b.toNat % 4 = kind ∧ (if b.getLsbD 2 then Side.west else Side.east) = dir ∧ b.getLsbD 3 = lockout := by
  match kind with
  | 0 => cases dir <;> cases lockout <;> decide
  | 1 => cases dir <;> cases lockout <;> decide
  | 2 => cases dir <;> cases lockout <;> decide
  | 3 => cases dir <;> cases lockout <;> decide

theorem imageFits_iff {i : StageImage} : imageFits i = true ↔
    i.handle < 65536 ∧ i.circuit < 16777216 ∧ i.kind < 4 ∧ i.endA < 256 ∧ i.endB < 256 ∧ i.workSlot < 256 ∧
      i.protSlot < 256 ∧ i.prio < 256 ∧ i.ceiling < 16777216 := by
  simp [imageFits, fits1, fits2, fits3, and_assoc]

theorem decodeImage_encodeImage {i : StageImage} (hFits : imageFits i = true) : decodeImage (encodeImage i) = i := by
  obtain ⟨hHandle, hCircuit, hKind, hA, hB, hWork, hProt, hPrio, hCeiling⟩ := imageFits_iff.1 hFits
  obtain ⟨hKindOf, hDir, hLockout⟩ := kindByte_fields hKind i.dir i.lockout
  have hPresent := flagByte_bit i.portPresent
  unfold decodeImage encodeImage
  simp only [be1, be2, be3, flagByte, List.cons_append, List.nil_append, List.getD_cons_zero, List.getD_cons_succ]
  rw [de2_be2 hHandle, de3_be3 hCircuit, hKindOf, hDir, hLockout, toNat_byte_of_lt hA, toNat_byte_of_lt hB,
    toNat_byte_of_lt hWork, toNat_byte_of_lt hProt, toNat_byte_of_lt hPrio, de3_be3 hCeiling, hPresent]

theorem decodeImages_encodeImages : ∀ images : List StageImage, images.all imageFits = true →
    decodeImages images.length (images.flatMap encodeImage) = images
  | [], _ => rfl
  | i :: l, hFits => by
    rw [List.all_cons, Bool.and_eq_true] at hFits
    obtain ⟨hFirst, hRest⟩ := hFits
    rw [List.length_cons, List.flatMap_cons, decodeImages, List.take_left' (length_encodeImage i),
      List.drop_left' (length_encodeImage i), decodeImage_encodeImage hFirst, decodeImages_encodeImages l hRest]

theorem length_encodeImages (images : List StageImage) : (images.flatMap encodeImage).length = 18 * images.length := by
  induction images with
  | nil => rfl
  | cons i l ih =>
    rw [List.flatMap_cons, List.length_append, length_encodeImage, ih, List.length_cons]
    omega

/-! ### Parameters -/

theorem handleParam_be2 (f : Nat → Instr) {h : Nat} (hh : h < 65536) : handleParam f (be2 h) = some (f h) := by
  rw [be2, handleParam, de2_be2 hh]

theorem byteParam_be1 (f : Nat → Instr) {n : Nat} (hn : n < 256) : byteParam f (be1 n) = some (f n) := by
  rw [be1, byteParam, toNat_byte_of_lt hn]

theorem imageParam_encode (f : Nat → StageImage → Instr) {h : Nat} {i : StageImage} (hh : h < 65536)
    (hFits : imageFits i = true) : imageParam f (be2 h ++ encodeImage i) = some (f h i) := by
  have hLength : (be2 h ++ encodeImage i).length = 20 := rfl
  have hDrop : (be2 h ++ encodeImage i).drop 2 = encodeImage i := rfl
  have hHandle : de2 ((be2 h ++ encodeImage i).getD 0 0) ((be2 h ++ encodeImage i).getD 1 0) = h := de2_be2 hh
  rw [imageParam, if_pos hLength, hDrop, hHandle, decodeImage_encodeImage hFits]

theorem chunkParam_encode (tag : Byte) {images : List StageImage} (hFits : chunkFits images = true) :
    chunkParam tag (be1 images.length ++ images.flatMap encodeImage) = some (.streamChunk tag images) := by
  rw [chunkFits, Bool.and_eq_true, decide_eq_true_eq] at hFits
  obtain ⟨hCount, hImages⟩ := hFits
  rw [be1, List.singleton_append, chunkParam, toNat_byte_of_lt (by omega), if_pos (length_encodeImages images),
    decodeImages_encodeImages images hImages]

/-! ### Whole frames -/

/-- A frame with a length and a code that fit is read as the request that its parameters spell (R155, R157). -/
theorem decodeRequest_closeFrame {code : Nat} {tag : Byte} {params : List Byte} {i : Instr} (hShort : params.length ≤ 250)
    (hRequest : requestOf (BitVec.ofNat 8 code).toNat tag params = some (some i)) :
    decodeRequest (closeFrame (be1 (params.length + 5) ++ be1 code ++ [tag] ++ params)) = i := by
  have hCheck := crcOk_closeFrame (be1 (params.length + 5) ++ be1 code ++ [tag] ++ params)
  have hLength := length_closeFrame (be1 (params.length + 5) ++ be1 code ++ [tag] ++ params)
  have hParts : closeFrame (be1 (params.length + 5) ++ be1 code ++ [tag] ++ params) =
      BitVec.ofNat 8 (params.length + 5) :: BitVec.ofNat 8 code :: tag ::
        (params ++ be2 (crc16 (be1 (params.length + 5) ++ be1 code ++ [tag] ++ params)).toNat) := by
    rw [closeFrame, List.append_assoc]
    rfl
  have hWhole : (closeFrame (be1 (params.length + 5) ++ be1 code ++ [tag] ++ params)).length = params.length + 5 := by
    rw [hLength, List.length_append]
    show 3 + params.length + 2 = params.length + 5
    omega
  rw [hParts] at hCheck hWhole ⊢
  generalize be2 (crc16 (be1 (params.length + 5) ++ be1 code ++ [tag] ++ params)).toNat = check at *
  have hFirst : (BitVec.ofNat 8 (params.length + 5)).toNat = params.length + 5 := toNat_byte_of_lt (by omega)
  unfold decodeRequest
  simp only [List.getD_cons_zero]
  rw [hFirst, List.take_of_length_le (le_of_eq hWhole), if_neg (by rw [hWhole, hCheck]; simp)]
  simp only [List.getD_cons_zero, List.getD_cons_succ, List.drop_succ_cons, List.drop_zero, Nat.add_sub_cancel, List.take_left']
  rw [hRequest]

/-! ### The fields of a request that fit -/

theorem fits1_lt {n : Nat} (h : fits1 n = true) : n < 256 := of_decide_eq_true h

theorem fits2_lt {n : Nat} (h : fits2 n = true) : n < 65536 := of_decide_eq_true h

theorem fits3_lt {n : Nat} (h : fits3 n = true) : n < 16777216 := of_decide_eq_true h

theorem setRing_decodes (tag : Byte) {ringId n own : Nat} (hFits : wellFormed (.setRing tag ringId n own) = true) :
    requestOf 0x13 tag (be2 ringId ++ be1 n ++ be1 own) = some (some (.setRing tag ringId n own)) := by
  simp only [wellFormed, Bool.and_eq_true] at hFits
  obtain ⟨⟨hRing, hSize⟩, hOwn⟩ := hFits
  show some (some (Instr.setRing tag (de2 _ _) (BitVec.ofNat 8 n).toNat (BitVec.ofNat 8 own).toNat)) = _
  rw [de2_be2 (fits2_lt hRing), toNat_byte_of_lt (fits1_lt hSize), toNat_byte_of_lt (fits1_lt hOwn)]

theorem setTimers_decodes (tag : Byte) {a b c d e : Nat} (hFits : wellFormed (.setTimers tag a b c d e) = true) :
    requestOf 0x14 tag (be2 a ++ be2 b ++ be2 c ++ be2 d ++ be1 e) = some (some (.setTimers tag a b c d e)) := by
  simp only [wellFormed, Bool.and_eq_true] at hFits
  obtain ⟨⟨⟨⟨ha, hb⟩, hc⟩, hd⟩, he⟩ := hFits
  show some (some (Instr.setTimers tag (de2 _ _) (de2 _ _) (de2 _ _) (de2 _ _) (BitVec.ofNat 8 e).toNat)) = _
  rw [de2_be2 (fits2_lt ha), de2_be2 (fits2_lt hb), de2_be2 (fits2_lt hc), de2_be2 (fits2_lt hd),
    toNat_byte_of_lt (fits1_lt he)]

theorem setDegrade_decodes (tag : Byte) {side : Nat} (leak : BitVec 16) (declare clear : BitVec 24) (hSide : side < 256) :
    requestOf 0x15 tag (be1 side ++ be2 leak.toNat ++ be3 declare.toNat ++ be3 clear.toNat) =
      some (some (.setDegrade tag side leak declare clear)) := by
  show some (some (Instr.setDegrade tag (BitVec.ofNat 8 side).toNat (BitVec.ofNat 16 (de2 _ _))
    (BitVec.ofNat 24 (de3 _ _ _)) (BitVec.ofNat 24 (de3 _ _ _)))) = _
  rw [toNat_byte_of_lt hSide, ofNat_de2_toNat, ofNat_de3_toNat, ofNat_de3_toNat]

theorem setSpanDelay_decodes (tag : Byte) {span : Nat} (delay : BitVec 16) (hSpan : span < 256) :
    requestOf 0x16 tag (be1 span ++ be2 delay.toNat) = some (some (.setSpanDelay tag span delay)) := by
  show some (some (Instr.setSpanDelay tag (BitVec.ofNat 8 span).toNat (BitVec.ofNat 16 (de2 _ _)))) = _
  rw [toNat_byte_of_lt hSpan, ofNat_de2_toNat]

theorem findCircuit_decodes (tag : Byte) {c : Nat} (hc : c < 16777216) :
    requestOf 0x26 tag (be3 c) = some (some (.findCircuit tag c)) := by
  show some (some (Instr.findCircuit tag (de3 _ _ _))) = _
  rw [de3_be3 hc]

theorem streamBegin_decodes (tag : Byte) {first count : Nat} (activate : Bool)
    (hFits : wellFormed (.streamBegin tag first count activate) = true) :
    requestOf 0x30 tag (be2 first ++ be2 count ++ flagByte activate) = some (some (.streamBegin tag first count activate)) := by
  simp only [wellFormed, Bool.and_eq_true] at hFits
  obtain ⟨hFirst, hCount⟩ := hFits
  show some (some (Instr.streamBegin tag (de2 _ _) (de2 _ _) ((if activate then 1 else 0 : Byte).getLsbD 0))) = _
  rw [de2_be2 (fits2_lt hFirst), de2_be2 (fits2_lt hCount), flagByte_bit]

theorem readConnections_decodes (tag : Byte) {first count : Nat}
    (hFits : wellFormed (.readConnections tag first count) = true) :
    requestOf 0x50 tag (be2 first ++ be1 count) = some (some (.readConnections tag first count)) := by
  simp only [wellFormed, Bool.and_eq_true] at hFits
  obtain ⟨hFirst, hCount⟩ := hFits
  show some (some (Instr.readConnections tag (de2 _ _) (BitVec.ofNat 8 count).toNat)) = _
  rw [de2_be2 (fits2_lt hFirst), toNat_byte_of_lt (fits1_lt hCount)]

theorem length_chunkParams {images : List StageImage} (hFits : chunkFits images = true) :
    (be1 images.length ++ images.flatMap encodeImage).length ≤ 250 := by
  rw [chunkFits, Bool.and_eq_true, decide_eq_true_eq] at hFits
  rw [List.length_append, length_encodeImages, be1, List.length_singleton]
  omega

theorem stageParams_fit {h : Nat} {i : StageImage} (hFits : (fits2 h && imageFits i) = true) :
    h < 65536 ∧ imageFits i = true := by
  rw [Bool.and_eq_true] at hFits
  exact ⟨fits2_lt hFits.1, hFits.2⟩

/-- Settles O19: the code selects the reader of the request's parameters, and each parameter is read from its own bytes. -/
theorem requestsDecodeAsEncoded : Obligations.RequestsDecodeAsEncoded := fun i hRequest hFits => by
  cases i with
  | start tag => exact decodeRequest_closeFrame (by decide) rfl
  | stop tag => exact decodeRequest_closeFrame (by decide) rfl
  | softReset tag => exact decodeRequest_closeFrame (by decide) rfl
  | setRing tag ringId n own => exact decodeRequest_closeFrame (show 4 ≤ 250 by decide) (setRing_decodes tag hFits)
  | setTimers tag a b c d e => exact decodeRequest_closeFrame (show 9 ≤ 250 by decide) (setTimers_decodes tag hFits)
  | setDegrade tag side leak declare clear =>
    exact decodeRequest_closeFrame (show 9 ≤ 250 by decide) (setDegrade_decodes tag leak declare clear (fits1_lt hFits))
  | setSpanDelay tag span delay =>
    exact decodeRequest_closeFrame (show 3 ≤ 250 by decide) (setSpanDelay_decodes tag delay (fits1_lt hFits))
  | readNode tag => exact decodeRequest_closeFrame (by decide) rfl
  | stageRecord tag h i =>
    obtain ⟨hHandle, hImage⟩ := stageParams_fit hFits
    exact decodeRequest_closeFrame (show 20 ≤ 250 by decide)
      (congrArg some (imageParam_encode (.stageRecord tag) hHandle hImage))
  | amendRecord tag h i =>
    obtain ⟨hHandle, hImage⟩ := stageParams_fit hFits
    exact decodeRequest_closeFrame (show 20 ≤ 250 by decide)
      (congrArg some (imageParam_encode (.amendRecord tag) hHandle hImage))
  | activateRecord tag h =>
    exact decodeRequest_closeFrame (show 2 ≤ 250 by decide)
      (congrArg some (handleParam_be2 (.activateRecord tag) (fits2_lt hFits)))
  | retireRecord tag h =>
    exact decodeRequest_closeFrame (show 2 ≤ 250 by decide)
      (congrArg some (handleParam_be2 (.retireRecord tag) (fits2_lt hFits)))
  | discardRecord tag h =>
    exact decodeRequest_closeFrame (show 2 ≤ 250 by decide)
      (congrArg some (handleParam_be2 (.discardRecord tag) (fits2_lt hFits)))
  | readRecord tag h =>
    exact decodeRequest_closeFrame (show 2 ≤ 250 by decide)
      (congrArg some (handleParam_be2 (.readRecord tag) (fits2_lt hFits)))
  | findCircuit tag c => exact decodeRequest_closeFrame (show 3 ≤ 250 by decide) (findCircuit_decodes tag (fits3_lt hFits))
  | nextChanged tag => exact decodeRequest_closeFrame (by decide) rfl
  | streamBegin tag first count activate =>
    exact decodeRequest_closeFrame (show 5 ≤ 250 by decide) (streamBegin_decodes tag activate hFits)
  | streamChunk tag images =>
    exact decodeRequest_closeFrame (length_chunkParams hFits) (congrArg some (chunkParam_encode tag hFits))
  | streamStatus tag => exact decodeRequest_closeFrame (by decide) rfl
  | streamAbort tag => exact decodeRequest_closeFrame (by decide) rfl
  | forceSpan tag side =>
    exact decodeRequest_closeFrame (show 1 ≤ 250 by decide)
      (congrArg some (byteParam_be1 (.forceSpan tag) (fits1_lt hFits)))
  | releaseSpan tag side =>
    exact decodeRequest_closeFrame (show 1 ≤ 250 by decide)
      (congrArg some (byteParam_be1 (.releaseSpan tag) (fits1_lt hFits)))
  | readSpanMap tag => exact decodeRequest_closeFrame (by decide) rfl
  | readLane tag side =>
    exact decodeRequest_closeFrame (show 1 ≤ 250 by decide)
      (congrArg some (byteParam_be1 (.readLane tag) (fits1_lt hFits)))
  | readSlotGrants tag span =>
    exact decodeRequest_closeFrame (show 1 ≤ 250 by decide)
      (congrArg some (byteParam_be1 (.readSlotGrants tag) (fits1_lt hFits)))
  | readConnections tag first count =>
    exact decodeRequest_closeFrame (show 3 ≤ 250 by decide) (readConnections_decodes tag hFits)
  | readSummary tag => exact decodeRequest_closeFrame (by decide) rfl
  | acknowledgeCause tag cause =>
    exact decodeRequest_closeFrame (show 1 ≤ 250 by decide)
      (congrArg some (byteParam_be1 (.acknowledgeCause tag) (fits1_lt hFits)))
  | setAttentionMask tag enables => exact decodeRequest_closeFrame (show 1 ≤ 250 by decide) rfl
  | _ => exact absurd hRequest Bool.false_ne_true

end Sys2Proof.Machine
end
